-- ==== Sys2Proof/Word.lean ====
section
/-! DEFINITION. The number types of the 2410: bytes, station addresses, and the numbers that name lines,
sessions, watch entries, rate table entries and snapshot slots (00_scope.md, "Lines and units"). -/

namespace Sys2Proof

/-- One byte. -/
abbrev Byte := BitVec 8

/-- A 16-bit field of a message (tag, EtherType). -/
abbrev Word16 := BitVec 16

/-- A 32-bit wrapping counter, or unit time. -/
abbrev Word32 := BitVec 32

/-- An Ethernet address; the first-transmitted byte is the most significant one (11_message_formats.md, R172). -/
abbrev Addr := BitVec 48

/-- A console line, 0–23. -/
abbrev LineNo := Fin 24

/-- A session record, 0–31. -/
abbrev SessionNo := Fin 32

/-- A watch entry, 0–63. -/
abbrev EntryNo := Fin 64

/-- A rate table index, 0–15. -/
abbrev RateIndex := Fin 16

/-- A snapshot slot, 0–7. -/
abbrev SlotNo := Fin 8

/-- The bytes of an Ethernet frame, destination first, without its frame check sequence (R172). -/
abbrev Frame := List Byte

end Sys2Proof
end

