-- ==== Sys2Proof/Config.lean ====
section
/-! DEFINITION. What the 2410 fixes once (00_scope.md, "Principal quantities") and the values its manual leaves
open. An open value is an `opaque` constant without a body: nothing in Lean can say what it is. -/

namespace Sys2Proof.Config

/-- Marks a line's mark list holds (R53). -/
def markCapacity : Nat := 32

/-- Elements an injection queue holds (R13). -/
def injectionCapacity : Nat := 256

/-- Frames a forward queue holds (R156). -/
def forwardCapacity : Nat := 8

/-- Frames the request input queue holds (R160). -/
def requestCapacity : Nat := 8

/-- Frames the response queue holds, held places included (R162). -/
def responseCapacity : Nat := 16

/-- Bytes of a snapshot slot's data area (R95). -/
def slotBytes : Nat := 8192

/-- Bytes of capture memory (R49). -/
def captureBytes : Nat := 393216

/-- Bytes captured last that a match window keeps (R80). -/
def windowBytes : Nat := 24

/-- The most bytes a DATA frame or a SNAPSHOT READ carries (R122, R104). -/
def payloadBytes : Nat := 1024

/-- The rate base: REFCLK 14.7456 MHz divided by 16 (R8). -/
def rateBase : Nat := 921600

/-- REFCLK in periods per second (R8, R30). -/
def refClock : Nat := 14745600

/-- The unit in which the sub-millisecond timers count: 4,608 of it make a millisecond and five make one period of
the 921,600 per second base, so both are whole numbers of it. -/
def ticksPerMs : Nat := 4608

/-- OPEN VALUE (DESIGN CHOICE, assumption log 7). R161 says that a response carries a status; no layout of
11_message_formats.md gives its one-byte code a place in the frame. This stands for the number of body bytes before it,
by the response's kind and the length of its body. -/
opaque statusPlace (kind : Byte) (bodyLength : Nat) : Nat

/-- OPEN VALUE (DESIGN CHOICE, assumption log 35). The port appends the frame check sequence of Ethernet (R172), whose
computation the manual does not give. This stands for its value over the bytes it covers. -/
opaque frameCheck (bytes : List Byte) : BitVec 32

/-- OPEN VALUE (DESIGN CHOICE, assumption log 15). R172 makes a response's kind "the request code plus 0x80"; for
an unknown kind of 0x80 or more (R161) that sum does not fit the one-byte field, and the manual does not say what the
field then holds. -/
opaque highResponseKind (kind : Byte) : Byte

end Sys2Proof.Config
end

