-- ==== Sys2Proof/Syntax.lean ====
section
/-! DEFINITION. The commands of the block: one constructor per row of spec/opcode_table.json, in the table's order.
A row that names a request is the step in which the Message Engine takes the head of the request input queue and
carries it out (R161): its operands are the bytes of that frame, so the constructor has none of its own (assumption
log 1). A row that names an event carries what the event brings from outside the part: a pin's samples, a port's
frame, the line, entry, slot or session whose timer ran out. -/

namespace Sys2Proof

/-- The two chain ports (R154). -/
inductive Port where
  | up
  | down
  deriving DecidableEq, Repr

/-- The strap pins sampled at power-on (00_scope.md, "Straps, pins and physical matters"). -/
structure Straps where
  unit : BitVec 4
  autosel : Bool
  ratesel : Bool
  attsel : Bool
  deriving DecidableEq, Repr

/-- An RXD edge on the line of a measurement: the line, the number of the measurement it belongs to (assumption log 34),
and the reference clock periods since the last tick or that measurement's last edge, whichever was later (assumption
log 18). -/
structure MeasuredEdge where
  line : LineNo
  measurement : Nat
  periods : Nat
  deriving DecidableEq, Repr

/-- The commands. -/
inductive Instr where
  /-- Assertion of the RESET pin with the straps as sampled (R2). -/
  | powerOn (straps : Straps)
  /-- The UP port's link goes down (R154). -/
  | upLinkDown
  /-- The DOWN port's link goes down (R154). -/
  | downLinkDown
  /-- The link of the port named comes up (R154). -/
  | linkComesUp (port : Port)
  /-- A frame arrives at UP; `fcsGood` says whether its frame check sequence held (R155, R172). -/
  | upFrameArrival (frame : Frame) (fcsGood : Bool)
  /-- A frame arrives at DOWN (R155, R172). -/
  | downFrameArrival (frame : Frame) (fcsGood : Bool)
  /-- The UP transmitter finishes its frame (R158). -/
  | upTransmitComplete
  /-- The DOWN transmitter finishes its frame (R156). -/
  | downTransmitComplete
  /-- The scheduled UNIT RESET is applied (R169). -/
  | unitResetApplied
  /-- UNIT STATUS at the head of the request input queue is carried out (R167). -/
  | unitStatus
  /-- UNIT SET is carried out (R165). -/
  | unitSet
  /-- SET TIME is carried out (R166). -/
  | setTime
  /-- UNIT RESET is carried out (R168). -/
  | unitReset
  /-- LINE READ is carried out (R24). -/
  | lineRead
  /-- LINE SET is carried out (R22). -/
  | lineSet
  /-- LINE ENABLE is carried out (R5). -/
  | lineEnable
  /-- LINE DISABLE is carried out (R6). -/
  | lineDisable
  /-- LINE MEASURE is carried out (R38). -/
  | lineMeasure
  /-- LINE TEST is carried out (R18). -/
  | lineTest
  /-- RATE TABLE READ is carried out (R42). -/
  | rateTableRead
  /-- RATE TABLE SET is carried out (R43). -/
  | rateTableSet
  /-- MONITOR READ is carried out (R77). -/
  | monitorRead
  /-- MONITOR SET is carried out (R76). -/
  | monitorSet
  /-- MARKS READ is carried out (R56). -/
  | marksRead
  /-- EVENTS READ is carried out (R152). -/
  | eventsRead
  /-- WATCH READ is carried out (R93). -/
  | watchRead
  /-- WATCH SET is carried out (R91). -/
  | watchSet
  /-- SNAPSHOT LIST is carried out (R103). -/
  | snapshotList
  /-- SNAPSHOT READ is carried out (R104). -/
  | snapshotRead
  /-- SNAPSHOT FREE is carried out (R105). -/
  | snapshotFree
  /-- SNAPSHOT TAKE is carried out (R102). -/
  | snapshotTake
  /-- OPEN is carried out (R110). -/
  | openSession
  /-- CLOSE is carried out (R112). -/
  | closeSession
  /-- SEEK is carried out (R113). -/
  | seek
  /-- CREDIT is carried out (R114). -/
  | credit
  /-- FLOOR REQUEST is carried out (R130). -/
  | floorRequest
  /-- FLOOR RELEASE is carried out (R134). -/
  | floorRelease
  /-- TYPE is carried out (R142). -/
  | typeBytes
  /-- SEND BREAK is carried out (R143). -/
  | sendBreak
  /-- A request whose kind the unit does not carry out is answered (R161). -/
  | unknownKindRequest
  /-- A character with its stop bit at mark is captured: `data` holds the sampled data bits, bit 0 the first, and
  `parityBit` the sampled parity bit, not looked at under parity NONE (R9). -/
  | characterCapture (line : LineNo) (data : Byte) (parityBit : Bool)
  /-- A held-back character, its stop bit sampled at space, is captured as RXD returns to mark (R9). -/
  | framingErrorCapture (line : LineNo) (data : Byte) (parityBit : Bool)
  /-- Space on RXD reaches one character time (R10). -/
  | breakIn (line : LineNo)
  /-- A looped-back character is received, with its samples of the parity bit and of the stop bit (R19). -/
  | loopCharacterReceived (line : LineNo) (data : Byte) (parityBit : Bool) (stopBit : Bool)
  /-- Four character times have passed since the last pattern byte's stop bits (R19). -/
  | loopTestTimeout (line : LineNo)
  /-- The stop bits of the BYTE element in transmission complete (R15). -/
  | byteTransmitted (line : LineNo)
  /-- The trailing mark time of the BREAK element ends (R14). -/
  | breakOutEnd (line : LineNo)
  /-- The pacing gap runs out (R15). -/
  | pacingGapExpiry (line : LineNo)
  /-- The hold reaches its expiry (R16). -/
  | holdExpiry (line : LineNo)
  /-- The S-th edge of a measurement (R30, R33). -/
  | edgeCountReached (edge : MeasuredEdge)
  /-- The measure window runs out (R31). -/
  | measureWindowExpiry
  /-- The pulse counter reaches 65,535 with RXD still at space (R32). -/
  | measureBreak
  /-- A line's sample timer expires (R61). -/
  | sampleExpiry (line : LineNo)
  /-- A line's burst timeout expires (R70). -/
  | burstTimeout (line : LineNo)
  /-- A watch entry's holdoff on a line expires (R82). -/
  | holdoffExpiry (entry : EntryNo) (line : LineNo)
  /-- A slot's fill limit expires (R101). -/
  | fillLimitExpiry (slot : SlotNo)
  /-- A line's gather timer expires (R120). -/
  | gatherTimerExpiry (line : LineNo)
  /-- A session's keep timer expires (R116). -/
  | keepTimerExpiry (session : SessionNo)
  /-- A line's floor idle timer expires (R140). -/
  | idleExpiry (line : LineNo)
  /-- The attendance timer expires (R171). -/
  | attendanceExpiry
  /-- An RXD edge during a measurement (R30). -/
  | measureEdge (edge : MeasuredEdge)
  /-- A mark-to-space edge on a line's RXD; `stillSpace` is the sample at mid start bit (R9). -/
  | startEdge (line : LineNo) (stillSpace : Bool)
  /-- A line's RXD returns to mark (R10, R11). -/
  | rxdReturnToMark (line : LineNo)
  /-- The CR probe character finishes (R29). -/
  | probeCharacterEnd
  /-- A loopback pattern byte's stop bits complete (R19). -/
  | patternByteSent (line : LineNo)
  /-- The space of the BREAK element in transmission ends (R14). -/
  | breakSpaceEnd (line : LineNo)
  deriving DecidableEq, Repr

end Sys2Proof
end

