-- ==== Sys2Proof/Machine/State.lean ====
section
/-! DEFINITION. The state of the 2410: every piece of state its chapters give it, block by block, as plain data, and
the state right after power-on with every strap low. The state that a block keeps "for each line" stands in one
record per line. -/

namespace Sys2Proof.Machine

/-! ### Console Lines (01_console_lines.md) -/

/-- Rate policy of a line (R21). -/
inductive RatePolicy where
  | fixed
  | auto
  deriving DecidableEq, Repr

/-- Data bits of a character (R7). -/
inductive DataBits where
  | seven
  | eight
  deriving DecidableEq, Repr

/-- Parity of a character (R7). -/
inductive Parity where
  | absent
  | even
  | odd
  deriving DecidableEq, Repr

/-- Stop bits of a character (R7). -/
inductive StopBits where
  | one
  | two
  deriving DecidableEq, Repr

/-- A line's framing (R7). -/
structure Framing where
  dataBits : DataBits
  parity : Parity
  stopBits : StopBits
  deriving DecidableEq, Repr

/-- The probe stimulus (R21, R29). -/
inductive ProbeOption where
  | silent
  | cr
  deriving DecidableEq, Repr

/-- Edges counted S: 16, 32, 64 or 128 (R21). -/
inductive EdgeCount where
  | e16
  | e32
  | e64
  | e128
  deriving DecidableEq, Repr

/-- Measure window: 1, 2, 5 or 10 s (R21). -/
inductive MeasureWindow where
  | s1
  | s2
  | s5
  | s10
  deriving DecidableEq, Repr

/-- Attempts of a measurement round: 1, 2, 4 or 6 (R21). -/
inductive AttemptLimit where
  | a1
  | a2
  | a4
  | a6
  deriving DecidableEq, Repr

/-- What becomes of a line at final failure (R36). -/
inductive FailureOption where
  | hold
  | fallback
  | dark
  deriving DecidableEq, Repr

/-- Who may send a break (R143). -/
inductive BreakPolicy where
  | forbid
  | holder
  | supervisor
  deriving DecidableEq, Repr

/-- What becomes of an idle holder's floor (R140). -/
inductive ParkMode where
  | none
  | last
  deriving DecidableEq, Repr

/-- The pre and post lengths of a snapshot option, in bytes (R21, R78). -/
structure SnapshotLengths where
  pre : Nat
  post : Nat
  deriving DecidableEq, Repr

/-- The line record (R21). Times are in milliseconds, the floor idle time in seconds, the ring size in KiB. -/
structure LineRecord where
  policy : RatePolicy
  fixedIndex : RateIndex
  fallbackIndex : RateIndex
  framing : Framing
  probe : ProbeOption
  edges : EdgeCount
  window : MeasureWindow
  attempts : AttemptLimit
  failure : FailureOption
  streakLimit : Nat
  charGap : Nat
  lineGap : Nat
  breakPolicy : BreakPolicy
  floorIdle : Nat
  parkMode : ParkMode
  ringKiB : Nat
  burstSnapshot : Option SnapshotLengths
  breakSnapshot : Option SnapshotLengths
  alerts : Bool
  deriving DecidableEq, Repr

/-- The six line states (R1). -/
inductive LineState where
  | off
  | queued
  | measuring
  | live
  | dark
  | loop
  deriving DecidableEq, Repr

/-- The level of a console pin; mark is the idle level (R7). -/
inductive Level where
  | mark
  | space
  deriving DecidableEq, Repr

/-- A rate a line took from the rate table, with the index it was taken under (R3). -/
structure TakenRate where
  index : RateIndex
  rate : Nat
  deriving DecidableEq, Repr

/-- The seven line counters, each wrapping (R12). -/
structure LineCounters where
  bytesCaptured : Word32
  parityErrors : Word32
  framingErrors : Word32
  breaksIn : Word32
  breaksOut : Word32
  bytesTyped : Word32
  bytesTransmitted : Word32
  deriving DecidableEq, Repr

/-- An element of the injection queue: a byte, or a break with its duration in milliseconds (R13). -/
inductive Element where
  | byte (b : Byte)
  | brk (ms : Nat)
  deriving DecidableEq, Repr

/-- What a line's transmitter is sending. A character keeps the framing it began with (R22). `left` is the time
left, in milliseconds for the space of a break and in 4,608ths of one for its trailing mark (R14). -/
inductive Transmitter where
  | idle
  | byte (b : Byte) (framing : Framing)
  | breakSpace (left : Nat)
  | breakMark (left : Nat)
  | probe (framing : Framing) (rate : Nat)
  | pattern (b : Byte) (framing : Framing)
  deriving DecidableEq, Repr

/-- What a LIVE line's receiver is doing: waiting at mark for a start edge, assembling a character in the framing
it began with, or waiting for RXD to return to mark after a break or a space held at entry (R9, R10, R11). -/
inductive Receiver where
  | waiting
  | assembling (framing : Framing)
  | awaitMark
  deriving DecidableEq, Repr

/-- The state a loopback test began from (R18). -/
inductive LoopPrior where
  | live
  | off
  deriving DecidableEq, Repr

/-- A running loopback test (R18, R19) with what its response needs: the request's origin, session field and tag.
`wait` is the time left of the four character times after the last pattern byte, in 4,608ths of a millisecond. -/
structure LoopTest where
  prior : LoopPrior
  restartPending : Bool
  rate : Nat
  pattern : List Byte
  sent : Nat
  received : Nat
  matched : Nat
  firstMismatch : Option Nat
  wait : Option Nat
  origin : Addr
  session : Byte
  tag : Word16
  deriving DecidableEq, Repr

/-! ### Rate Discovery (02_rate_discovery.md) -/

/-- A measurement in progress (R27, R30): the line, the values copied from its record, the unit time of its start,
the measurement counters (edges counted, the pulse counter, the smallest width closed), the milliseconds it has run
and those left of its window. `number` and `phase` are the model's own (assumption logs 20, 34): which measurement this
is, as its events name it, and the reference clock periods of the present millisecond that lay before its last edge. -/
structure Measurement where
  number : Nat
  line : LineNo
  probe : ProbeOption
  edges : EdgeCount
  window : MeasureWindow
  framing : Framing
  start : Word32
  edgeCount : Nat
  pulse : Nat
  phase : Nat
  narrowest : Option Nat
  elapsed : Nat
  windowLeft : Nat
  deriving DecidableEq, Repr

/-- Why an attempt failed (R31, R32, R33). -/
inductive FailureReason where
  | noTraffic
  | brk
  | noMatch
  deriving DecidableEq, Repr

/-! ### Capture Rings and Marks (03_capture_rings_and_marks.md) -/

/-- A history ring: its two offsets and the bytes it holds, the byte at `oldest` first (R44). -/
structure Ring where
  oldest : Nat
  newest : Nat
  bytes : List Byte
  deriving DecidableEq, Repr

/-- The ten kinds of mark (R52). -/
inductive MarkKind where
  | breakIn
  | breakOut
  | burstBegin
  | burstEnd
  | watchHit
  | rateSet
  | rateLost
  | measureBegin
  | lineOff
  | snapshot
  deriving DecidableEq, Repr

/-- A mark (R51). -/
structure Mark where
  offset : Nat
  stamp : Word32
  kind : MarkKind
  arg : Nat
  deriving DecidableEq, Repr

/-! ### Activity Monitor (04_activity_monitor.md) -/

/-- The four monitor states (R60). -/
inductive MonitorState where
  | quiet
  | rising
  | burst
  | falling
  deriving DecidableEq, Repr

/-- The monitor record of a line (R60), with the time left to its next sample expiry (R61) and of its burst timeout,
in milliseconds. `fast` is F, `long` is L, `count` the debounce count k, `chars` and `errors` the interval counts n
and e. -/
structure Monitor where
  state : MonitorState
  fast : Nat
  long : Nat
  count : Nat
  seedPending : Bool
  burstLeft : Option Nat
  sampleLeft : Option Nat
  chars : Nat
  errors : Nat
  deriving DecidableEq, Repr

/-- The nine monitor parameters of a line (R75). -/
structure MonitorParams where
  bf : Nat
  bl : Nat
  te : Nat
  th : Nat
  dfloor : Nat
  ce : Nat
  cx : Nat
  tb : Nat
  group : Nat
  deriving DecidableEq, Repr

/-! ### Watch Table (05_watch_table.md) -/

/-- An element of a watch pattern (R79). -/
inductive PatternElement where
  | literal (b : Byte) (fold : Bool)
  | any
  deriving DecidableEq, Repr

/-- A watch entry (R78). Bit i of `lines` says that line i is in the line set. The snapshot lengths and the hold
seconds are present exactly when the action is in the action set. -/
structure WatchEntry where
  enabled : Bool
  pattern : List PatternElement
  lines : BitVec 24
  hitsNeeded : Nat
  holdoff : Nat
  mark : Bool
  note : Bool
  snapshot : Option SnapshotLengths
  dropFloor : Bool
  holdType : Option Nat
  deriving DecidableEq, Repr

/-- What the Watch Unit keeps for one entry on one line (R81); the holdoff is the time left in milliseconds. -/
structure WatchPair where
  hits : Nat
  holdoff : Option Nat
  fires : Word32
  deriving DecidableEq, Repr

/-! ### Snapshots (06_snapshots.md) -/

/-- The three states of a slot (R95). -/
inductive SlotState where
  | free
  | filling
  | complete
  deriving DecidableEq, Repr

/-- What triggered a slot; the watch index is present only with cause WATCH (R95). -/
inductive Cause where
  | watch (entry : EntryNo)
  | burst
  | breakIn
  | request
  deriving DecidableEq, Repr

/-- A snapshot slot: its record, its data and the time left of its fill limit in milliseconds (R95, R99). -/
structure Slot where
  state : SlotState
  line : LineNo
  cause : Option Cause
  stamp : Word32
  offset : Nat
  preHeld : Nat
  postTarget : Nat
  postHeld : Nat
  truncated : Bool
  retriggers : Nat
  data : List Byte
  fillLeft : Option Nat
  deriving DecidableEq, Repr

/-- What a trigger does when no slot is FREE (R96). -/
inductive SnapshotPolicy where
  | keep
  | recycle
  deriving DecidableEq, Repr

/-! ### Sessions and Delivery (07_sessions_and_delivery.md) -/

/-- Role of a session: WATCH or TYPE (R108). -/
inductive Role where
  | watcher
  | typist
  deriving DecidableEq, Repr

/-- Class of a session (R108). -/
inductive SessionClass where
  | operator
  | supervisor
  deriving DecidableEq, Repr

/-- A record of the session table (R108). `isOpen` is the state OPEN; the keep timer is the time left in
milliseconds. -/
structure Session where
  isOpen : Bool
  origin : Addr
  line : LineNo
  role : Role
  cls : SessionClass
  cursor : Nat
  credit : Nat
  gather : Nat
  gap : Nat
  lost : Nat
  lastHeard : Word32
  keepLeft : Option Nat
  deriving DecidableEq, Repr

/-! ### The Typing Floor (08_the_typing_floor.md) -/

/-- Who may type into a line (R127). -/
inductive FloorState where
  | free
  | held (holder : SessionNo)
  | parked (session : SessionNo)
  deriving DecidableEq, Repr

/-- The idle timer of a floor: stopped, running with the milliseconds left, or held still while the line is busy
(R127, R139). -/
inductive IdleTimer where
  | stopped
  | running (left : Nat)
  | heldStill
  deriving DecidableEq, Repr

/-- The floor record of a line (R127); the waiting list is oldest first. -/
structure Floor where
  state : FloorState
  waiting : List SessionNo
  idle : IdleTimer
  busy : Bool
  deriving DecidableEq, Repr

/-! ### Events and Alerts (09_events_and_alerts.md) -/

/-- What became of the ALERT at a summary's last opening (R147). -/
inductive AlertOutcome where
  | none
  | sent
  | lost
  deriving DecidableEq, Repr

/-- The event summary of a line (R147): the map of its kinds, the set of watch indices and the set of failure
reasons, each a bit map with the bits of 11_message_formats.md section 11.5. -/
structure LineSummary where
  kinds : BitVec 9
  watches : BitVec 64
  reasons : BitVec 3
  outcome : AlertOutcome
  deriving DecidableEq, Repr

/-- The unit event summary (R147). -/
structure UnitSummary where
  kinds : BitVec 4
  outcome : AlertOutcome
  deriving DecidableEq, Repr

/-! ### Everything kept for one line -/

/-- The state of one console line in every block. -/
structure Line where
  /-- Line record (R21). -/
  record : LineRecord
  /-- Line state (R1). -/
  state : LineState
  /-- Current rate and index, in LIVE only (R3, R4). -/
  current : Option TakenRate
  /-- Last rate and index (R3). -/
  last : Option TakenRate
  /-- The seven counters (R12). -/
  counters : LineCounters
  /-- Injection queue, head first (R13). -/
  injection : List Element
  /-- Hold expiry, in unit time (R16). -/
  hold : Option Word32
  /-- Pacing gap: the milliseconds left of the gap that runs (R15). -/
  gap : Option Nat
  /-- Transmitter (R14, R15, R19, R29). -/
  tx : Transmitter
  /-- Receiver (R9, R10, R11). -/
  rx : Receiver
  /-- Level of the RXD pin. -/
  rxd : Level
  /-- Error streak (R39). -/
  streak : Nat
  /-- Attempt count of the present measurement round (R28). -/
  attempts : Nat
  /-- The loopback test, in LOOP only (R18). -/
  test : Option LoopTest
  /-- History ring (R44). -/
  ring : Ring
  /-- Mark list, oldest first (R53). -/
  marks : List Mark
  /-- Mark-loss counter (R55). -/
  markLoss : Word32
  /-- Monitor record (R60). -/
  monitor : Monitor
  /-- Monitor parameters (R75). -/
  params : MonitorParams
  /-- Match window, oldest byte first (R80). -/
  matchWindow : List Byte
  /-- Hit count, holdoff and fire count of every watch entry on this line (R81). -/
  watch : Vector WatchPair 64
  /-- Settled flag (R120). -/
  settled : Bool
  /-- Gather timer: the time left in 4,608ths of a millisecond (R120). -/
  gather : Option Nat
  /-- Floor (R127). -/
  floor : Floor
  /-- Event summary (R147). -/
  summary : LineSummary
  deriving DecidableEq, Repr

/-! ### Chain Ports and Messages (10_chain_ports_and_messages.md) -/

/-- The statuses of R161. -/
inductive Status where
  | ok
  | adjusted
  | queued
  | partTaken
  | unknownKind
  | malformed
  | outOfRange
  | noSession
  | noSlot
  | lineOff
  | notLive
  | notHolder
  | denied
  | busy
  | noRoom
  | aborted
  deriving DecidableEq, Repr

/-- A frame the unit originates (section 11.1, section 11.4): its addresses and EtherType as they stood when it was
made, its header fields, a response's status, and its body. -/
structure OutFrame where
  dst : Addr
  src : Addr
  etherType : Word16
  unit : Byte
  kind : Byte
  session : Byte
  tag : Word16
  status : Option Status
  body : List Byte
  deriving DecidableEq, Repr

/-- The frame the UP transmitter is sending, by the arbiter member it came from (R158); `resets` marks the response
of UNIT RESET (R168). -/
inductive UpFrame where
  | response (frame : OutFrame) (resets : Bool)
  | forward (frame : Frame)
  | data (frame : OutFrame)
  deriving DecidableEq, Repr

/-- A place of the response queue: a frame, and whether it is the response of UNIT RESET (R162, R168). -/
structure QueuedFrame where
  frame : OutFrame
  resets : Bool
  deriving DecidableEq, Repr

/-- The three members of the UP Transmit Arbiter (R158). -/
inductive Member where
  | responses
  | forward
  | data
  deriving DecidableEq, Repr

/-- The attendance period (R164). -/
inductive AttendancePeriod where
  | off
  | s10
  | s60
  | s300
  deriving DecidableEq, Repr

/-- The attendance state (R170). -/
inductive AttendanceState where
  | off
  | attended
  | unattended
  deriving DecidableEq, Repr

/-- The Attendance Monitor: its state, the time left in milliseconds when its timer runs, and the lapse count (R170). -/
structure Attendance where
  state : AttendanceState
  left : Option Nat
  lapses : Word32
  deriving DecidableEq, Repr

/-- The unit record but for the unit number (R164). The session keep is in minutes, 0 for off; the collector 0 for
none. -/
structure UnitRecord where
  group : Addr
  etherType : Word16
  station : Addr
  collector : Addr
  period : AttendancePeriod
  policy : SnapshotPolicy
  keep : Nat
  fillLimit : Nat
  tolerance : Nat
  supervisors : List Addr
  deriving DecidableEq, Repr

/-- The seven unit counters, each wrapping (R157). -/
structure UnitCounters where
  downDrops : Word32
  upDrops : Word32
  responseDrops : Word32
  dataCutOff : Word32
  requestDrops : Word32
  headerDrops : Word32
  creditDrops : Word32
  deriving DecidableEq, Repr

/-- How far a UNIT RESET has come: none asked for, answered and waiting for its response to leave UP, or due because
the response has left (R168). -/
inductive ResetPhase where
  | idle
  | answered
  | due
  deriving DecidableEq, Repr

/-- The whole part, with the queue of commands that wait. -/
structure State where
  /-- Commands waiting, the front first. -/
  pending : List Instr
  /-- The twenty-four lines. -/
  lines : Vector Line 24
  /-- Rate table: a rate in bit/s, or 0 for an empty entry (R41). -/
  rates : Vector Nat 16
  /-- Probe queue, oldest first (R25). -/
  probeQueue : List LineNo
  /-- The Rate Probe's measurement, none when the engine is idle (R27). -/
  engine : Option Measurement
  /-- Measurements begun so far: the number of the next one. The model's own (assumption log 34). -/
  begun : Nat
  /-- Watch table (R78). -/
  entries : Vector WatchEntry 64
  /-- Snapshot slots (R95). -/
  slots : Vector Slot 8
  /-- Session table (R108). -/
  sessions : Vector Session 32
  /-- Unit event summary (R147). -/
  unitSummary : UnitSummary
  /-- Link of the UP port is up (R154). -/
  upLink : Bool
  /-- Link of the DOWN port is up (R154). -/
  downLink : Bool
  /-- Frame in transmission on UP (R158). -/
  upTx : Option UpFrame
  /-- Frame in transmission on DOWN (R156). -/
  downTx : Option Frame
  /-- UP-bound forward queue, oldest first (R156). -/
  upQueue : List Frame
  /-- DOWN-bound forward queue, oldest first (R156). -/
  downQueue : List Frame
  /-- Request input queue, oldest first (R160). -/
  requests : List Frame
  /-- Response queue, oldest first (R162). -/
  responses : List QueuedFrame
  /-- Places of the response queue held for responses not yet placed (R161, R162). -/
  heldPlaces : Nat
  /-- Completed LINE TEST responses waiting at their Line Units for room, in the order they take it (R162). -/
  waitingTests : List OutFrame
  /-- Arbiter member served last (R158). -/
  lastMember : Member
  /-- Session served last (R159). -/
  lastSession : SessionNo
  /-- Unit number, 1–15 (R164). -/
  unitNumber : BitVec 4
  /-- Unit record (R164). -/
  unit : UnitRecord
  /-- Unit counters (R157). -/
  counters : UnitCounters
  /-- Unit time in milliseconds (R166). -/
  unitTime : Word32
  /-- Attendance Monitor (R170). -/
  attendance : Attendance
  /-- UNIT RESET in progress (R168). -/
  resetPhase : ResetPhase
  deriving DecidableEq, Repr

/-- No command of this block stops the machine: the manual describes no fault, and every command has its effect in
every state, so there is no fault reason (assumption log 26). -/
inductive Fault where
  deriving DecidableEq, Repr

/-- Why a command has no meaning. -/
inductive Refusal where
  /-- Raised by `exec` for a command whose meaning is not written yet. Safe: the model stops where the part goes on.
  No arm raises it in this model. -/
  | notModelled (mnemonic : String)
  deriving DecidableEq, Repr

/-! ### The reset state -/

/-- Framing 8 / N / 1 (R21). -/
def Framing.reset : Framing := { dataBits := .eight, parity := .absent, stopBits := .one }

/-- The line record at power-on with AUTOSEL and RATESEL low (R21). -/
def LineRecord.reset : LineRecord :=
  { policy := .fixed, fixedIndex := 4, fallbackIndex := 4, framing := .reset, probe := .cr, edges := .e32,
    window := .s5, attempts := .a2, failure := .fallback, streakLimit := 3, charGap := 0, lineGap := 0,
    breakPolicy := .forbid, floorIdle := 300, parkMode := .none, ringKiB := 16, burstSnapshot := .none,
    breakSnapshot := .none, alerts := true }

/-- Every line counter 0 (R12). -/
def LineCounters.reset : LineCounters :=
  { bytesCaptured := 0, parityErrors := 0, framingErrors := 0, breaksIn := 0, breaksOut := 0, bytesTyped := 0,
    bytesTransmitted := 0 }

/-- The monitor record at power-on (R60). -/
def Monitor.reset : Monitor :=
  { state := .quiet, fast := 0, long := 0, count := 0, seedPending := false, burstLeft := none,
    sampleLeft := none, chars := 0, errors := 0 }

/-- The monitor parameters at power-on (R75). -/
def MonitorParams.reset : MonitorParams :=
  { bf := 2, bl := 6, te := 48, th := 64, dfloor := 160, ce := 2, cx := 3, tb := 60, group := 0 }

/-- A watch entry at power-on (R78). -/
def WatchEntry.reset : WatchEntry :=
  { enabled := false, pattern := [.any], lines := 0, hitsNeeded := 1, holdoff := 0, mark := false, note := false,
    snapshot := none, dropFloor := false, holdType := none }

/-- An entry's state on a line at power-on (R81). -/
def WatchPair.reset : WatchPair := { hits := 0, holdoff := none, fires := 0 }

/-- A FREE slot (R95). -/
def Slot.reset : Slot :=
  { state := .free, line := 0, cause := none, stamp := 0, offset := 0, preHeld := 0, postTarget := 0, postHeld := 0,
    truncated := false, retriggers := 0, data := [], fillLeft := none }

/-- A FREE session record (R108). -/
def Session.reset : Session :=
  { isOpen := false, origin := 0, line := 0, role := .watcher, cls := .operator, cursor := 0, credit := 0,
    gather := 1, gap := 0, lost := 0, lastHeard := 0, keepLeft := none }

/-- A FREE floor (R127). -/
def Floor.reset : Floor := { state := .free, waiting := [], idle := .stopped, busy := false }

/-- An empty line summary (R147). -/
def LineSummary.reset : LineSummary := { kinds := 0, watches := 0, reasons := 0, outcome := .none }

/-- Every unit counter 0 (R157). -/
def UnitCounters.reset : UnitCounters :=
  { downDrops := 0, upDrops := 0, responseDrops := 0, dataCutOff := 0, requestDrops := 0, headerDrops := 0,
    creditDrops := 0 }

/-- The rate table at power-on (R41). -/
def ratesReset : Vector Nat 16 :=
  #v[300, 1200, 2400, 4800, 9600, 19200, 38400, 57600, 115200, 230400, 0, 0, 0, 0, 0, 0]

/-- The unit record at power-on of unit 1 with ATTSEL low (R164). -/
def UnitRecord.reset : UnitRecord :=
  { group := 0x0F4E4A000000#48, etherType := 0x88B6#16, station := 0x0E4E4A000001#48, collector := 0,
    period := .off, policy := .keep, keep := 0, fillLimit := 30, tolerance := 35, supervisors := [] }

/-- A line right after power-on under policy FIXED at index 4: LIVE at 9600 bit/s, its monitor seeded, its RATE_SET
mark and event written and no ALERT made (R2, R3, R57, R153). -/
def Line.reset : Line :=
  { record := .reset, state := .live, current := some { index := 4, rate := 9600 },
    last := some { index := 4, rate := 9600 }, counters := .reset, injection := [], hold := none, gap := none,
    tx := .idle, rx := .waiting, rxd := .mark, streak := 0, attempts := 0, test := none,
    ring := { oldest := 0, newest := 0, bytes := [] },
    marks := [{ offset := 0, stamp := 0, kind := .rateSet, arg := 4 }], markLoss := 0,
    monitor := { Monitor.reset with seedPending := true, sampleLeft := some 100 }, params := .reset,
    matchWindow := [], watch := Vector.replicate 64 .reset, settled := true, gather := none, floor := .reset,
    summary := { LineSummary.reset with kinds := 8#9 } }

/-- The part right after power-on with every strap low and every RXD pin at mark (assumption log 4): unit 1, every
line FIXED and LIVE at 9600 bit/s, both links down, RESET_DONE in the unit summary (R2, R41, R60, R75, R78, R95, R108,
R127, R153, R154, R158, R159, R164, R166, R170). No command waits. -/
def State.reset : State :=
  { pending := [], lines := Vector.replicate 24 .reset, rates := ratesReset, probeQueue := [], engine := none,
    begun := 0,
    entries := Vector.replicate 64 .reset, slots := Vector.replicate 8 .reset,
    sessions := Vector.replicate 32 .reset, unitSummary := { kinds := 1, outcome := .none }, upLink := false,
    downLink := false, upTx := none, downTx := none, upQueue := [], downQueue := [], requests := [],
    responses := [], heldPlaces := 0, waitingTests := [], lastMember := .data, lastSession := 31, unitNumber := 1,
    unit := .reset, counters := .reset, unitTime := 0,
    attendance := { state := .off, left := none, lapses := 0 }, resetPhase := .idle }

end Sys2Proof.Machine
end

