-- ==== Sys2Proof/Machine/Ops.lean ====
section
/-! DEFINITION. The operations every block uses: reading and writing the record of one line, session, slot or watch
entry, doing something for all of them in order, the arithmetic of rates and character times (R7, R8), and the passing
of one millisecond. -/

namespace Sys2Proof.Machine

/-! ### Records by number -/

/-- The record of a line. -/
def State.line (s : State) (l : LineNo) : Line := s.lines[l.val]

/-- Replace the record of a line. -/
def State.setLine (s : State) (l : LineNo) (u : Line) : State := { s with lines := s.lines.set l.val u }

/-- Change the record of a line. -/
def State.modLine (s : State) (l : LineNo) (f : Line → Line) : State := s.setLine l (f (s.line l))

/-- A record of the session table. -/
def State.session (s : State) (i : SessionNo) : Session := s.sessions[i.val]

/-- Replace a record of the session table. -/
def State.setSession (s : State) (i : SessionNo) (r : Session) : State :=
  { s with sessions := s.sessions.set i.val r }

/-- Change a record of the session table. -/
def State.modSession (s : State) (i : SessionNo) (f : Session → Session) : State := s.setSession i (f (s.session i))

/-- A snapshot slot. -/
def State.slot (s : State) (k : SlotNo) : Slot := s.slots[k.val]

/-- Replace a snapshot slot. -/
def State.setSlot (s : State) (k : SlotNo) (r : Slot) : State := { s with slots := s.slots.set k.val r }

/-- A watch entry. -/
def State.entry (s : State) (i : EntryNo) : WatchEntry := s.entries[i.val]

/-- Replace a watch entry. -/
def State.setEntry (s : State) (i : EntryNo) (e : WatchEntry) : State := { s with entries := s.entries.set i.val e }

/-- The rate at an index of the rate table, 0 for an empty entry (R41). -/
def State.rateAt (s : State) (i : RateIndex) : Nat := s.rates[i.val]

/-- What a line keeps for a watch entry (R81). -/
def Line.pair (u : Line) (i : EntryNo) : WatchPair := u.watch[i.val]

/-- Replace what a line keeps for a watch entry. -/
def Line.setPair (u : Line) (i : EntryNo) (p : WatchPair) : Line := { u with watch := u.watch.set i.val p }

/-- Change what a line keeps for every watch entry. -/
def Line.mapPairs (u : Line) (f : WatchPair → WatchPair) : Line :=
  { u with watch := Vector.ofFn fun i : EntryNo => f (u.pair i) }

/-- Change every line, each by itself. -/
def State.mapLines (s : State) (f : LineNo → Line → Line) : State :=
  { s with lines := Vector.ofFn fun l : LineNo => f l (s.line l) }

/-- Change every session record, each by itself. -/
def State.mapSessions (s : State) (f : SessionNo → Session → Session) : State :=
  { s with sessions := Vector.ofFn fun i : SessionNo => f i (s.session i) }

/-- Change every slot, each by itself. -/
def State.mapSlots (s : State) (f : SlotNo → Slot → Slot) : State :=
  { s with slots := Vector.ofFn fun k : SlotNo => f k (s.slot k) }

/-- Do something for lines 0 to 23 in ascending order. -/
def State.forLines (s : State) (f : LineNo → State → State) : State := (List.finRange 24).foldl (fun t l => f l t) s

/-- Do something for slots 0 to 7 in ascending order. -/
def State.forSlots (s : State) (f : SlotNo → State → State) : State := (List.finRange 8).foldl (fun t k => f k t) s

/-- The number of a line, when the value read is one (values above 23 name none). -/
def lineOf? (n : Nat) : Option LineNo := if h : n < 24 then some ⟨n, h⟩ else none

/-- The number of a slot, when the value read is one. -/
def slotOf? (n : Nat) : Option SlotNo := if h : n < 8 then some ⟨n, h⟩ else none

/-- The number of a watch entry, when the value read is one. -/
def entryOf? (n : Nat) : Option EntryNo := if h : n < 64 then some ⟨n, h⟩ else none

/-- The number of a session, when the value read is one. -/
def sessionOf? (n : Nat) : Option SessionNo := if h : n < 32 then some ⟨n, h⟩ else none

/-- A rate table index, when the value read is one. -/
def rateIndexOf? (n : Nat) : Option RateIndex := if h : n < 16 then some ⟨n, h⟩ else none

/-! ### Framing and rates -/

/-- Data bits as a number (R7). -/
def DataBits.num : DataBits → Nat
  | .seven => 7
  | .eight => 8

/-- Stop bits as a number (R7). -/
def StopBits.num : StopBits → Nat
  | .one => 1
  | .two => 2

/-- Bits of a character: start, data, parity and stop bits (R7). -/
def Framing.charBits (f : Framing) : Nat :=
  1 + f.dataBits.num + (match f.parity with | .absent => 0 | .even => 1 | .odd => 1) + f.stopBits.num

/-- The byte captured from the sampled data bits: the top bit of a 7-bit character is zero (R9). -/
def Framing.capturedByte (f : Framing) (data : Byte) : Byte :=
  match f.dataBits with
  | .seven => data &&& 0x7F#8
  | .eight => data

/-- The count of one bits of a byte is odd. -/
def oddOnes (b : Byte) : Bool :=
  (List.range 8).foldl (fun acc i => xor acc (b.getLsbD i)) false

/-- The parity bit sent with a byte, when there is one: it makes the count of one bits even or odd (R7). -/
def Framing.parityBit (f : Framing) (b : Byte) : Option Bool :=
  match f.parity with
  | .absent => none
  | .even => some (oddOnes (f.capturedByte b))
  | .odd => some (!oddOnes (f.capturedByte b))

/-- The sampled parity bit disagrees with the line's parity setting (R9). -/
def Framing.parityError (f : Framing) (data : Byte) (sampled : Bool) : Bool :=
  match f.parityBit data with
  | none => false
  | some p => p != sampled

/-- The levels of one character in order of time, one per bit: start bit, data bits least significant first, parity
bit, stop bits; mark is `true` (R7). -/
def Framing.charLevels (f : Framing) (b : Byte) : List Bool :=
  false :: ((List.range f.dataBits.num).map fun i => b.getLsbD i) ++ (f.parityBit b).toList
    ++ List.replicate f.stopBits.num true

/-- A quotient rounded to nearest, halves up (00_scope.md, "Arithmetic"). -/
def divNearest (a b : Nat) : Nat := (2 * a + b) / (2 * b)

/-- The divisor for a rate (R8). -/
def divisor (rate : Nat) : Nat := divNearest Config.rateBase rate

/-- The effective rate of a divisor in whole bit/s, truncated (R8, section 11.3). -/
def effectiveRate (d : Nat) : Nat := Config.rateBase / d

/-- The nominal width of one bit at a rate, in reference clock periods (R33). -/
def nominalWidth (rate : Nat) : Nat := divNearest Config.refClock rate

/-- The character time at a rate, in 4,608ths of a millisecond (R7, R8): one period of the base is five of them. -/
def charTime (f : Framing) (rate : Nat) : Nat := 5 * (f.charBits * divisor rate)

/-- Edges counted S as a number (R21). -/
def EdgeCount.num : EdgeCount → Nat
  | .e16 => 16
  | .e32 => 32
  | .e64 => 64
  | .e128 => 128

/-- The measure window in seconds (R21). -/
def MeasureWindow.seconds : MeasureWindow → Nat
  | .s1 => 1
  | .s2 => 2
  | .s5 => 5
  | .s10 => 10

/-- Attempts as a number (R21). -/
def AttemptLimit.num : AttemptLimit → Nat
  | .a1 => 1
  | .a2 => 2
  | .a4 => 4
  | .a6 => 6

/-- Ring size in bytes (R44). -/
def LineRecord.ringBytes (r : LineRecord) : Nat := r.ringKiB * 1024

/-- Bytes a ring holds (R44). -/
def Ring.held (r : Ring) : Nat := r.newest - r.oldest

/-- The byte at an offset, when the ring still holds it (R44). -/
def Ring.byteAt (r : Ring) (offset : Nat) : Option Byte :=
  if r.oldest ≤ offset then r.bytes[offset - r.oldest]? else none

/-- The place of an offset in a line's share of capture memory: the offset modulo the ring size (R44). -/
def LineRecord.place (r : LineRecord) (offset : Nat) : Nat := offset % r.ringBytes

/-- What a line's share of capture memory holds at a place: the byte of the ring whose offset has that place, if the ring
holds one (R44). -/
def Line.storedAt (u : Line) (place : Nat) : Option Byte :=
  let ahead := (place + u.record.ringBytes - u.record.place u.ring.oldest) % u.record.ringBytes
  if ahead < u.ring.held then u.ring.byteAt (u.ring.oldest + ahead) else none

/-- The bytes from an offset on, at most `n` of them (R48). -/
def Ring.read (r : Ring) (offset n : Nat) : List Byte := (r.bytes.drop (offset - r.oldest)).take n

/-- What drives the TXD pin of a line: the character's levels in turn, a steady level, or mark at idle. The pin idles
at mark through a loopback test (R1, R14, R18). -/
def Line.txdLevels (u : Line) : List Bool :=
  match u.tx with
  | .idle => [true]
  | .byte b f => f.charLevels b
  | .breakSpace _ => [false]
  | .breakMark _ => [true]
  | .probe f _ => f.charLevels 0x0D#8
  | .pattern _ _ => [true]

/-! ### Holds -/

/-- Milliseconds from the present unit time forward to an expiry (R16). -/
def forwardDistance (now expiry : Word32) : Nat := (expiry - now).toNat

/-- A hold expiry is running: its forward distance is above 0 and below 2^31 (R16). -/
def holdRuns (now expiry : Word32) : Bool :=
  decide (0 < forwardDistance now expiry ∧ forwardDistance now expiry < 2 ^ 31)

/-- A hold is running on the line (R16). -/
def Line.held (u : Line) (now : Word32) : Bool :=
  match u.hold with
  | none => false
  | some e => holdRuns now e

/-- The time remaining on a running hold, in milliseconds, 0 when none runs (R16, R24). -/
def Line.holdLeft (u : Line) (now : Word32) : Nat :=
  match u.hold with
  | none => 0
  | some e => if holdRuns now e then forwardDistance now e else 0

/-! ### The passing of a millisecond -/

/-- Time taken off a running timer; a timer stops at 0 and waits there for its expiry to be taken. -/
def lessTime (k : Nat) (t : Option Nat) : Option Nat := t.map (· - k)

/-- A timer told in milliseconds has run out. An expiry acts then and not before: one that comes when the timer was
stopped or started afresh finds time left, and changes nothing (R61, R116, R140, R171, assumption log 3). -/
def ranOut (t : Option Nat) : Bool := decide (t = some 0)

/-- A timer told in 4,608ths of a millisecond runs out before the next tick (R19, R120, assumption log 3). -/
def endsThisMs (t : Option Nat) : Bool := t.any fun left => decide (left < Config.ticksPerMs)

/-- The pulse counter after `k` more reference clock periods: it saturates at 65,535 (R30). -/
def pulseAfter (pulse k : Nat) : Nat := min 65535 (pulse + k)

/-- Reference clock periods in the millisecond that follows the first `ms` of a measurement: 14,745.6 on average, in
whole periods. -/
def periodsInMs (ms : Nat) : Nat := Config.refClock * (ms + 1) / 1000 - Config.refClock * ms / 1000

/-- One millisecond passes for a transmitter. -/
def Transmitter.tick : Transmitter → Transmitter
  | .breakSpace left => .breakSpace (left - 1)
  | .breakMark left => .breakMark (left - Config.ticksPerMs)
  | t => t

/-- One millisecond passes for an idle timer (R138). -/
def IdleTimer.tick : IdleTimer → IdleTimer
  | .running left => .running (left - 1)
  | t => t

/-- One millisecond passes for a watch entry's holdoff on a line. -/
def WatchPair.tick (p : WatchPair) : WatchPair := { p with holdoff := lessTime 1 p.holdoff }

/-- One millisecond passes for a line's timers. -/
def Line.tick (u : Line) : Line :=
  { u.mapPairs WatchPair.tick with
    gap := lessTime 1 u.gap
    tx := u.tx.tick
    test := u.test.map fun t => { t with wait := lessTime Config.ticksPerMs t.wait }
    monitor := { u.monitor with
      burstLeft := lessTime 1 u.monitor.burstLeft, sampleLeft := lessTime 1 u.monitor.sampleLeft }
    gather := lessTime Config.ticksPerMs u.gather
    floor := { u.floor with idle := u.floor.idle.tick } }

/-- Reference clock periods of the present millisecond that come after its last edge. -/
def Measurement.periodsToTick (m : Measurement) : Nat := periodsInMs m.elapsed - m.phase

/-- One millisecond passes for the measurement in progress (R30, R31): once an edge was seen, its counter counts the
periods of that millisecond that come after the last edge. -/
def Measurement.tick (m : Measurement) : Measurement :=
  { m with
    pulse := if m.edgeCount = 0 then m.pulse else pulseAfter m.pulse m.periodsToTick
    phase := m.phase - periodsInMs m.elapsed
    elapsed := m.elapsed + 1
    windowLeft := m.windowLeft - 1 }

/-- One millisecond passes (assumption log 2): unit time rises by one (R166) and every running timer has a
millisecond less. What an expiry does is done by its own command. -/
def tick (s : State) : State :=
  let t := s.mapLines fun _ u => u.tick
  let t := t.mapSlots fun _ k => { k with fillLeft := lessTime 1 k.fillLeft }
  let t := t.mapSessions fun _ r => { r with keepLeft := lessTime 1 r.keepLeft }
  { t with
    unitTime := s.unitTime + 1
    engine := s.engine.map Measurement.tick
    attendance := { s.attendance with left := lessTime 1 s.attendance.left } }

end Sys2Proof.Machine
end

