-- ==== Sys2Proof/Machine/Operands.lean ====
section
/-! DEFINITION. Reading what arrives: numbers out of bytes, the fields of an Ethernet frame and of the message header
(section 11.1), the codes of section 11.5, the lengths a body must have (R173), and the typed operands of every
request body (section 11.3). -/

namespace Sys2Proof.Machine

/-! ### Numbers in bytes -/

/-- The number that bytes spell, most significant byte first (R172). -/
def beNat (bs : List Byte) : Nat := bs.foldl (fun acc b => acc * 256 + b.toNat) 0

/-- `len` bytes from position `start`. -/
def slice (bs : List Byte) (start len : Nat) : List Byte := (bs.drop start).take len

/-- The number in `len` bytes from position `start` (R172). -/
def numAt (bs : List Byte) (start len : Nat) : Nat := beNat (slice bs start len)

/-! ### The frame and the header (section 11.1) -/

/-- Destination address of a frame. -/
def frameDst (f : Frame) : Addr := BitVec.ofNat 48 (numAt f 0 6)

/-- Source address of a frame. -/
def frameSrc (f : Frame) : Addr := BitVec.ofNat 48 (numAt f 6 6)

/-- EtherType of a frame. -/
def frameEtherType (f : Frame) : Word16 := BitVec.ofNat 16 (numAt f 12 2)

/-- Version field. -/
def frameVersion (f : Frame) : Nat := numAt f 14 1

/-- Unit field. -/
def frameUnitField (f : Frame) : Nat := numAt f 15 1

/-- Kind field. -/
def frameKind (f : Frame) : Byte := BitVec.ofNat 8 (numAt f 16 1)

/-- Session field. -/
def frameSessionField (f : Frame) : Byte := BitVec.ofNat 8 (numAt f 17 1)

/-- Tag. -/
def frameTag (f : Frame) : Word16 := BitVec.ofNat 16 (numAt f 18 2)

/-- Body length as the header says it. -/
def frameBodyLength (f : Frame) : Nat := numAt f 20 2

/-- Bytes before the body: the Ethernet header and the 8-byte message header. -/
def headerBytes : Nat := 22

/-- The body: as many bytes after the header as the header says (R160). -/
def frameBody (f : Frame) : List Byte := slice f headerBytes (frameBodyLength f)

/-- A frame long enough to hold a message header (R155, R173). -/
def frameHoldsHeader (f : Frame) : Bool := decide (headerBytes ≤ f.length)

/-- The header's version is 1 and its body length does not exceed the bytes that follow the header (R160). -/
def frameHeaderGood (f : Frame) : Bool :=
  decide (frameVersion f = 1 ∧ frameBodyLength f ≤ f.length - headerBytes)

/-- A group address: the least significant bit of the first byte is 1 (R165). -/
def isGroup (a : Addr) : Bool := a.getLsbD 40

/-! ### Requests -/

/-- The kinds that the unit carries out as requests (section 11.5). -/
inductive RequestKind where
  | unitStatus
  | unitSet
  | setTime
  | unitReset
  | lineRead
  | lineSet
  | lineEnable
  | lineDisable
  | lineMeasure
  | lineTest
  | rateTableRead
  | rateTableSet
  | monitorRead
  | monitorSet
  | marksRead
  | eventsRead
  | watchRead
  | watchSet
  | snapshotList
  | snapshotRead
  | snapshotFree
  | snapshotTake
  | openSession
  | closeSession
  | seek
  | floorRequest
  | floorRelease
  | typeBytes
  | sendBreak
  | credit
  deriving DecidableEq, Repr

/-- The kind code (section 11.5). -/
def RequestKind.code : RequestKind → Byte
  | .unitStatus => 0x01#8
  | .unitSet => 0x02#8
  | .setTime => 0x03#8
  | .unitReset => 0x04#8
  | .lineRead => 0x10#8
  | .lineSet => 0x11#8
  | .lineEnable => 0x12#8
  | .lineDisable => 0x13#8
  | .lineMeasure => 0x14#8
  | .lineTest => 0x15#8
  | .rateTableRead => 0x16#8
  | .rateTableSet => 0x17#8
  | .monitorRead => 0x18#8
  | .monitorSet => 0x19#8
  | .marksRead => 0x1A#8
  | .eventsRead => 0x1B#8
  | .watchRead => 0x20#8
  | .watchSet => 0x21#8
  | .snapshotList => 0x28#8
  | .snapshotRead => 0x29#8
  | .snapshotFree => 0x2A#8
  | .snapshotTake => 0x2B#8
  | .openSession => 0x30#8
  | .closeSession => 0x31#8
  | .seek => 0x32#8
  | .floorRequest => 0x33#8
  | .floorRelease => 0x34#8
  | .typeBytes => 0x35#8
  | .sendBreak => 0x36#8
  | .credit => 0x40#8

/-- Every kind that the unit carries out as a request. -/
def RequestKind.all : List RequestKind :=
  [.unitStatus, .unitSet, .setTime, .unitReset, .lineRead, .lineSet, .lineEnable, .lineDisable, .lineMeasure,
    .lineTest, .rateTableRead, .rateTableSet, .monitorRead, .monitorSet, .marksRead, .eventsRead, .watchRead,
    .watchSet, .snapshotList, .snapshotRead, .snapshotFree, .snapshotTake, .openSession, .closeSession, .seek,
    .floorRequest, .floorRelease, .typeBytes, .sendBreak, .credit]

/-- The kind with a code, when the unit carries it out as a request (R161). -/
def RequestKind.ofCode (c : Byte) : Option RequestKind := RequestKind.all.find? fun k => k.code == c

/-- The session requests (R109). -/
def RequestKind.isSession : RequestKind → Bool
  | .closeSession | .seek | .credit | .floorRequest | .floorRelease | .typeBytes | .sendBreak => true
  | _ => false

/-- The configuration requests (R163). -/
def RequestKind.isConfiguration : RequestKind → Bool
  | .lineSet | .lineEnable | .lineDisable | .lineMeasure | .lineTest | .rateTableSet | .monitorSet | .watchSet
  | .unitSet | .setTime | .unitReset | .snapshotFree => true
  | _ => false

/-- A request as the Message Engine takes it: the frame's source, its header fields and its body (section 10.3). -/
structure Request where
  origin : Addr
  kind : Byte
  session : Byte
  tag : Word16
  body : List Byte
  deriving DecidableEq, Repr

/-- The request a queued frame carries. -/
def Request.ofFrame (f : Frame) : Request :=
  { origin := frameSrc f, kind := frameKind f, session := frameSessionField f, tag := frameTag f, body := frameBody f }

/-- The session number the header names, when it is one of the table's (R109). -/
def Request.sessionNo (rq : Request) : Option SessionNo := sessionOf? rq.session.toNat

/-- Bytes the fixed part of a kind's body holds (R173, section 11.3). -/
def RequestKind.fixedBytes : RequestKind → Nat
  | .unitStatus | .unitReset | .rateTableRead | .snapshotList | .closeSession | .floorRelease => 0
  | .lineRead | .lineEnable | .lineDisable | .lineMeasure | .monitorRead | .eventsRead | .watchRead
  | .snapshotFree | .floorRequest => 1
  | .lineTest | .typeBytes | .sendBreak | .credit => 2
  | .setTime => 4
  | .snapshotRead | .snapshotTake => 5
  | .marksRead | .seek => 7
  | .monitorSet | .openSession => 14
  | .watchSet => 16
  | .lineSet => 33
  | .unitSet => 50
  | .rateTableSet => 64

/-- Bytes of the variable part that a body's count field calls for, the count taken as no larger than its kind's
maximum (R173). -/
def RequestKind.variableBytes (k : RequestKind) (body : List Byte) : Nat :=
  match k with
  | .lineTest => min (numAt body 1 1) 16
  | .watchSet => 2 * min (numAt body 2 1) 24
  | .typeBytes => min (numAt body 0 2) 512
  | _ => 0

/-- The body is too short for its kind (R173). -/
def RequestKind.bodyShort (k : RequestKind) (body : List Byte) : Bool :=
  decide (body.length < k.fixedBytes ∨ body.length < k.fixedBytes + k.variableBytes body)

/-! ### Codes of section 11.5 -/

/-- Rate policy code. -/
def RatePolicy.ofCode : Nat → Option RatePolicy
  | 0 => some .fixed
  | 1 => some .auto
  | _ => none

/-- Data bits as sent: the number. -/
def DataBits.ofNum : Nat → Option DataBits
  | 7 => some .seven
  | 8 => some .eight
  | _ => none

/-- Parity code. -/
def Parity.ofCode : Nat → Option Parity
  | 0 => some .absent
  | 1 => some .even
  | 2 => some .odd
  | _ => none

/-- Stop bits as sent: the number. -/
def StopBits.ofNum : Nat → Option StopBits
  | 1 => some .one
  | 2 => some .two
  | _ => none

/-- Probe code. -/
def ProbeOption.ofCode : Nat → Option ProbeOption
  | 0 => some .silent
  | 1 => some .cr
  | _ => none

/-- Edges counted as sent: the number. -/
def EdgeCount.ofNum : Nat → Option EdgeCount
  | 16 => some .e16
  | 32 => some .e32
  | 64 => some .e64
  | 128 => some .e128
  | _ => none

/-- Measure window as sent: seconds. -/
def MeasureWindow.ofSeconds : Nat → Option MeasureWindow
  | 1 => some .s1
  | 2 => some .s2
  | 5 => some .s5
  | 10 => some .s10
  | _ => none

/-- Attempts as sent: the number. -/
def AttemptLimit.ofNum : Nat → Option AttemptLimit
  | 1 => some .a1
  | 2 => some .a2
  | 4 => some .a4
  | 6 => some .a6
  | _ => none

/-- Failure option code. -/
def FailureOption.ofCode : Nat → Option FailureOption
  | 0 => some .hold
  | 1 => some .fallback
  | 2 => some .dark
  | _ => none

/-- Break policy code. -/
def BreakPolicy.ofCode : Nat → Option BreakPolicy
  | 0 => some .forbid
  | 1 => some .holder
  | 2 => some .supervisor
  | _ => none

/-- Park mode code. -/
def ParkMode.ofCode : Nat → Option ParkMode
  | 0 => some .none
  | 1 => some .last
  | _ => none

/-- A flag: 0 or 1 (R174). -/
def flagOf : Nat → Option Bool
  | 0 => some false
  | 1 => some true
  | _ => none

/-- Role code. -/
def Role.ofCode : Nat → Option Role
  | 0 => some .watcher
  | 1 => some .typist
  | _ => none

/-- Class code. -/
def SessionClass.ofCode : Nat → Option SessionClass
  | 0 => some .operator
  | 1 => some .supervisor
  | _ => none

/-- Attendance period code. -/
def AttendancePeriod.ofCode : Nat → Option AttendancePeriod
  | 0 => some .off
  | 1 => some .s10
  | 2 => some .s60
  | 3 => some .s300
  | _ => none

/-- Snapshot policy code. -/
def SnapshotPolicy.ofCode : Nat → Option SnapshotPolicy
  | 0 => some .keep
  | 1 => some .recycle
  | _ => none

/-- A pattern element: its kind code and its byte value (section 11.5). -/
def PatternElement.ofCodes (code : Nat) (b : Byte) : Option PatternElement :=
  match code with
  | 0 => some (.literal b false)
  | 1 => some (.literal b true)
  | 2 => some .any
  | _ => none

/-- Start and seek positions (R110, R113). -/
inductive Position where
  | newest
  | oldest
  | at (offset : Nat)
  deriving DecidableEq, Repr

/-- A position from its code and the offset field, which is read for AT only. -/
def Position.ofCode (code offset : Nat) : Option Position :=
  match code with
  | 0 => some .newest
  | 1 => some .oldest
  | 2 => some (.at offset)
  | _ => none

/-! ### Clamping -/

/-- A value with a note of whether a clamp was made to get it. -/
structure Clamped (α : Type) where
  val : α
  clamped : Bool
  deriving DecidableEq, Repr

/-- Clamp to the range from `lo` to `hi`. -/
def clamp (lo hi n : Nat) : Clamped Nat :=
  { val := max lo (min hi n), clamped := decide (n < lo ∨ hi < n) }

/-! ### Operands of the requests (section 11.3) -/

/-- A snapshot option from its flag and length fields. Lengths of an option that is off are not kept and not clamped
(R174, assumption log 13); others are clamped above 8192 (R22). -/
def readSnapshotOption (flag pre post : Nat) : Option (Clamped (Option SnapshotLengths)) :=
  match flagOf flag with
  | none => none
  | some false => some { val := none, clamped := false }
  | some true =>
    let p := clamp 0 Config.slotBytes pre
    let q := clamp 0 Config.slotBytes post
    some { val := some { pre := p.val, post := q.val }, clamped := p.clamped || q.clamped }

/-- A rate index of 0–15 that names a non-empty table entry (R22). -/
def readRateIndex (rates : Vector Nat 16) (n : Nat) : Option RateIndex :=
  match rateIndexOf? n with
  | none => none
  | some i => if rates[i.val] = 0 then none else some i

/-- The number, when it lies in a refused (not clamped) range. -/
def inRange? (lo hi n : Nat) : Option Nat := if lo ≤ n ∧ n ≤ hi then some n else none

/-- The framing fields of a line record block. -/
def readFraming (b : List Byte) : Option Framing := do
  let d ← DataBits.ofNum (numAt b 3 1)
  let p ← Parity.ofCode (numAt b 4 1)
  let t ← StopBits.ofNum (numAt b 5 1)
  some { dataBits := d, parity := p, stopBits := t }

/-- A line record block of 32 bytes against the rate table (R21, R22, section 11.3): `none` when a field that is
refused rather than clamped is outside its range. -/
def readLineRecord (rates : Vector Nat 16) (b : List Byte) : Option (Clamped LineRecord) := do
  let policy ← RatePolicy.ofCode (numAt b 0 1)
  let fixedIndex ← readRateIndex rates (numAt b 1 1)
  let fallbackIndex ← readRateIndex rates (numAt b 2 1)
  let framing ← readFraming b
  let probe ← ProbeOption.ofCode (numAt b 6 1)
  let edges ← EdgeCount.ofNum (numAt b 7 1)
  let window ← MeasureWindow.ofSeconds (numAt b 8 1)
  let attempts ← AttemptLimit.ofNum (numAt b 9 1)
  let failure ← FailureOption.ofCode (numAt b 10 1)
  let streakLimit ← inRange? 0 15 (numAt b 11 1)
  let breakPolicy ← BreakPolicy.ofCode (numAt b 16 1)
  let parkMode ← ParkMode.ofCode (numAt b 19 1)
  let ringKiB ← inRange? 1 64 (numAt b 20 1)
  let burst ← readSnapshotOption (numAt b 21 1) (numAt b 22 2) (numAt b 24 2)
  let brk ← readSnapshotOption (numAt b 26 1) (numAt b 27 2) (numAt b 29 2)
  let alerts ← flagOf (numAt b 31 1)
  let charGap := clamp 0 250 (numAt b 12 2)
  let lineGap := clamp 0 2000 (numAt b 14 2)
  let floorIdle := clamp 0 3600 (numAt b 17 2)
  some
    { val := { policy, fixedIndex, fallbackIndex, framing, probe, edges, window, attempts, failure, streakLimit,
               charGap := charGap.val, lineGap := lineGap.val, breakPolicy, floorIdle := floorIdle.val, parkMode,
               ringKiB, burstSnapshot := burst.val, breakSnapshot := brk.val, alerts }
      clamped := charGap.clamped || lineGap.clamped || floorIdle.clamped || burst.clamped || brk.clamped }

/-- The monitor parameter block of 10 bytes, every value clamped into its range (R75, R76). -/
def readMonitorParams (b : List Byte) : Clamped MonitorParams :=
  let bf := clamp 0 7 (numAt b 0 1)
  let bl := clamp 0 15 (numAt b 1 1)
  let te := clamp 0 255 (numAt b 2 1)
  let th := clamp 0 255 (numAt b 3 1)
  let dfloor := clamp 0 65535 (numAt b 4 2)
  let ce := clamp 1 15 (numAt b 6 1)
  let cx := clamp 1 15 (numAt b 7 1)
  let tb := clamp 0 255 (numAt b 8 1)
  let group := clamp 0 3 (numAt b 9 1)
  { val := { bf := bf.val, bl := bl.val, te := te.val, th := th.val, dfloor := dfloor.val, ce := ce.val,
             cx := cx.val, tb := tb.val, group := group.val }
    clamped := bf.clamped || bl.clamped || te.clamped || th.clamped || dfloor.clamped || ce.clamped || cx.clamped
      || tb.clamped || group.clamped }

/-- A line set field of 4 bytes; `none` when a bit names a line above 23 (R174). -/
def readLineSet (n : Nat) : Option (BitVec 24) := if n < 2 ^ 24 then some (BitVec.ofNat 24 n) else none

/-- `n` pattern elements of two bytes each (section 11.3). -/
def readElements : Nat → List Byte → Option (List PatternElement)
  | 0, _ => some []
  | n + 1, b => do
    let e ← PatternElement.ofCodes (numAt b 0 1) (BitVec.ofNat 8 (numAt b 1 1))
    let rest ← readElements n (b.drop 2)
    some (e :: rest)

/-- An entry block (R91, section 11.3): `none` when the request is refused OUT_OF_RANGE. The snapshot and hold fields of
an action that is absent are neither kept nor clamped (R174, assumption log 13). -/
def readWatchEntry (b : List Byte) : Option (Clamped WatchEntry) := do
  let enabled ← flagOf (numAt b 0 1)
  let count ← inRange? 1 24 (numAt b 1 1)
  let lines ← readLineSet (numAt b 2 4)
  let hitsNeeded ← inRange? 1 15 (numAt b 6 1)
  let actions ← inRange? 0 31 (numAt b 9 1)
  let pattern ← readElements count (b.drop 15)
  let holdoff := clamp 0 255 (numAt b 7 2)
  let pre := clamp 0 Config.slotBytes (numAt b 10 2)
  let post := clamp 0 Config.slotBytes (numAt b 12 2)
  let hold := clamp 1 60 (numAt b 14 1)
  let snap := actions.testBit 2
  let holdType := actions.testBit 4
  some
    { val := { enabled, pattern, lines, hitsNeeded, holdoff := holdoff.val, mark := actions.testBit 0,
               note := actions.testBit 1,
               snapshot := if snap then some { pre := pre.val, post := post.val } else none,
               dropFloor := actions.testBit 3,
               holdType := if holdType then some hold.val else none }
      clamped := holdoff.clamped || (snap && (pre.clamped || post.clamped)) || (holdType && hold.clamped) }

/-- The addresses of a list of `n` in consecutive six-byte fields. -/
def readAddrs : Nat → List Byte → List Addr
  | 0, _ => []
  | n + 1, b => BitVec.ofNat 48 (numAt b 0 6) :: readAddrs n (b.drop 6)

/-- A non-zero unicast address (R164). -/
def isStation (a : Addr) : Bool := decide (a ≠ 0) && !isGroup a

/-- The supervisor list of `n` addresses: `none` when an address is zero or a group address, or stands twice (R165). -/
def readSupervisors (n : Nat) (b : List Byte) : Option (List Addr) :=
  let as := readAddrs n b
  if as.all isStation && decide as.Nodup then some as else none

/-- The unit record block (R164, R165, section 11.3): `none` when the request is refused OUT_OF_RANGE. -/
def readUnitRecord (b : List Byte) : Option (Clamped UnitRecord) := do
  let group : Addr := BitVec.ofNat 48 (numAt b 0 6)
  let etherType ← inRange? 0x0600 0xFFFF (numAt b 6 2)
  let station : Addr := BitVec.ofNat 48 (numAt b 8 6)
  let collector : Addr := BitVec.ofNat 48 (numAt b 14 6)
  let period ← AttendancePeriod.ofCode (numAt b 20 1)
  let policy ← SnapshotPolicy.ofCode (numAt b 21 1)
  let count ← inRange? 0 4 (numAt b 25 1)
  let supervisors ← readSupervisors count (b.drop 26)
  let keep := clamp 0 240 (numAt b 22 1)
  let fillLimit := clamp 1 255 (numAt b 23 1)
  let tolerance := clamp 5 100 (numAt b 24 1)
  if isGroup group && isStation station && !isGroup collector then
    some
      { val := { group, etherType := BitVec.ofNat 16 etherType, station, collector, period, policy,
                 keep := keep.val, fillLimit := fillLimit.val, tolerance := tolerance.val, supervisors }
        clamped := keep.clamped || fillLimit.clamped || tolerance.clamped }
  else none

/-- The sixteen rates of a RATE TABLE SET body, four bytes each (section 11.3). -/
def readRates (b : List Byte) : Vector Nat 16 := Vector.ofFn fun i : RateIndex => numAt b (4 * i.val) 4

/-- A rate table entry: 0, or a rate of 300–230,400 bit/s (R43). -/
def rateGood (n : Nat) : Bool := decide (n = 0 ∨ 300 ≤ n ∧ n ≤ 230400)

/-- The operands of OPEN (R110, section 11.3). -/
structure OpenOperands where
  line : LineNo
  role : Role
  cls : SessionClass
  position : Position
  gather : Nat
  credit : Nat
  deriving DecidableEq, Repr

/-- The body of OPEN: `none` when the line, the role, the class or the start position is outside its set. -/
def readOpen (b : List Byte) : Option OpenOperands := do
  let line ← lineOf? (numAt b 0 1)
  let role ← Role.ofCode (numAt b 1 1)
  let cls ← SessionClass.ofCode (numAt b 2 1)
  let position ← Position.ofCode (numAt b 3 1) (numAt b 4 6)
  some { line, role, cls, position, gather := numAt b 10 2, credit := numAt b 12 2 }

/-- The gather value raised to the next of 1, 64, 256 and 1024; 1024 for any value above 256 (R110). -/
def readGather (n : Nat) : Clamped Nat :=
  let g := if n ≤ 1 then 1 else if n ≤ 64 then 64 else if n ≤ 256 then 256 else 1024
  { val := g, clamped := decide (g ≠ n) }

end Sys2Proof.Machine
end

