-- ==== Sys2Proof/Machine/Layouts.lean ====
section
/-! DEFINITION. Writing what leaves: numbers into bytes, the codes of section 11.5, the blocks and records of section
11.3, and the bytes of a frame that the unit originates (section 11.1, R172). -/

namespace Sys2Proof.Machine

/-- A number as `len` bytes, most significant byte first (R172). -/
def beBytes : Nat → Nat → List Byte
  | 0, _ => []
  | len + 1, n => beBytes len (n / 256) ++ [BitVec.ofNat 8 n]

/-- `n` bytes of 0. -/
def zeros (n : Nat) : List Byte := List.replicate n 0#8

/-- A flag (R174). -/
def flagCode (b : Bool) : Nat := if b then 1 else 0

/-! ### Codes (section 11.5) -/

/-- Status code. -/
def Status.code : Status → Nat
  | .ok => 0
  | .adjusted => 1
  | .queued => 2
  | .partTaken => 3
  | .unknownKind => 16
  | .malformed => 17
  | .outOfRange => 18
  | .noSession => 19
  | .noSlot => 20
  | .lineOff => 21
  | .notLive => 22
  | .notHolder => 23
  | .denied => 24
  | .busy => 25
  | .noRoom => 26
  | .aborted => 27

/-- OK, or ADJUSTED when a clamp was made. -/
def okOr (clamped : Bool) : Status := if clamped then .adjusted else .ok

/-- Line state code. -/
def LineState.code : LineState → Nat
  | .off => 0
  | .queued => 1
  | .measuring => 2
  | .live => 3
  | .dark => 4
  | .loop => 5

/-- Rate policy code. -/
def RatePolicy.code : RatePolicy → Nat
  | .fixed => 0
  | .auto => 1

/-- Parity code. -/
def Parity.code : Parity → Nat
  | .absent => 0
  | .even => 1
  | .odd => 2

/-- Probe code. -/
def ProbeOption.code : ProbeOption → Nat
  | .silent => 0
  | .cr => 1

/-- Failure option code. -/
def FailureOption.code : FailureOption → Nat
  | .hold => 0
  | .fallback => 1
  | .dark => 2

/-- Break policy code. -/
def BreakPolicy.code : BreakPolicy → Nat
  | .forbid => 0
  | .holder => 1
  | .supervisor => 2

/-- Park mode code. -/
def ParkMode.code : ParkMode → Nat
  | .none => 0
  | .last => 1

/-- Monitor state code. -/
def MonitorState.code : MonitorState → Nat
  | .quiet => 0
  | .rising => 1
  | .burst => 2
  | .falling => 3

/-- Mark kind code. -/
def MarkKind.code : MarkKind → Nat
  | .breakIn => 1
  | .breakOut => 2
  | .burstBegin => 3
  | .burstEnd => 4
  | .watchHit => 5
  | .rateSet => 6
  | .rateLost => 7
  | .measureBegin => 8
  | .lineOff => 9
  | .snapshot => 10

/-- Failure reason code. -/
def FailureReason.code : FailureReason → Nat
  | .noTraffic => 1
  | .brk => 2
  | .noMatch => 3

/-- Alert outcome code. -/
def AlertOutcome.code : AlertOutcome → Nat
  | .none => 0
  | .sent => 1
  | .lost => 2

/-- Slot state code. -/
def SlotState.code : SlotState → Nat
  | .free => 0
  | .filling => 1
  | .complete => 2

/-- Slot cause code, 0 for none. -/
def causeCode : Option Cause → Nat
  | none => 0
  | some (.watch _) => 1
  | some .burst => 2
  | some .breakIn => 3
  | some .request => 4

/-- Watch index of a slot's cause, 255 when absent. -/
def causeIndex : Option Cause → Nat
  | some (.watch i) => i.val
  | _ => 255

/-- Snapshot policy code. -/
def SnapshotPolicy.code : SnapshotPolicy → Nat
  | .keep => 0
  | .recycle => 1

/-- Attendance period code. -/
def AttendancePeriod.code : AttendancePeriod → Nat
  | .off => 0
  | .s10 => 1
  | .s60 => 2
  | .s300 => 3

/-- Attendance state code. -/
def AttendanceState.code : AttendanceState → Nat
  | .off => 0
  | .attended => 1
  | .unattended => 2

/-- Floor state code. -/
def FloorState.code : FloorState → Nat
  | .free => 0
  | .held _ => 1
  | .parked _ => 2

/-- The holder or parked session of a floor, 255 when FREE (R128). -/
def FloorState.sessionCode : FloorState → Nat
  | .free => 255
  | .held h => h.val
  | .parked p => p.val

/-! ### Blocks and records (section 11.3) -/

/-- The flag and lengths of a snapshot option; absent lengths are sent as 0 (R174). -/
def snapshotOptionBytes : Option SnapshotLengths → List Byte
  | none => zeros 5
  | some p => beBytes 1 1 ++ beBytes 2 p.pre ++ beBytes 2 p.post

/-- Line record block, 32 bytes. -/
def LineRecord.bytes (r : LineRecord) : List Byte :=
  beBytes 1 r.policy.code ++ beBytes 1 r.fixedIndex.val ++ beBytes 1 r.fallbackIndex.val
    ++ beBytes 1 r.framing.dataBits.num ++ beBytes 1 r.framing.parity.code ++ beBytes 1 r.framing.stopBits.num
    ++ beBytes 1 r.probe.code ++ beBytes 1 r.edges.num ++ beBytes 1 r.window.seconds ++ beBytes 1 r.attempts.num
    ++ beBytes 1 r.failure.code ++ beBytes 1 r.streakLimit ++ beBytes 2 r.charGap ++ beBytes 2 r.lineGap
    ++ beBytes 1 r.breakPolicy.code ++ beBytes 2 r.floorIdle ++ beBytes 1 r.parkMode.code ++ beBytes 1 r.ringKiB
    ++ snapshotOptionBytes r.burstSnapshot ++ snapshotOptionBytes r.breakSnapshot ++ beBytes 1 (flagCode r.alerts)

/-- The seven line counters in the order of R12. -/
def LineCounters.bytes (c : LineCounters) : List Byte :=
  beBytes 4 c.bytesCaptured.toNat ++ beBytes 4 c.parityErrors.toNat ++ beBytes 4 c.framingErrors.toNat
    ++ beBytes 4 c.breaksIn.toNat ++ beBytes 4 c.breaksOut.toNat ++ beBytes 4 c.bytesTyped.toNat
    ++ beBytes 4 c.bytesTransmitted.toNat

/-- Prior state in LOOP, 255 otherwise. -/
def Line.priorCode (u : Line) : Nat :=
  match u.test with
  | none => 255
  | some t => match t.prior with | .live => LineState.live.code | .off => LineState.off.code

/-- A rate index, 255 for none (R174). -/
def rateIndexCode : Option TakenRate → Nat
  | none => 255
  | some r => r.index.val

/-- Line condition block, 53 bytes (R24). -/
def Line.conditionBytes (u : Line) (now : Word32) : List Byte :=
  let d := match u.current with | none => 0 | some r => divisor r.rate
  beBytes 1 u.state.code ++ beBytes 1 u.priorCode
    ++ beBytes 1 (flagCode (match u.test with | none => false | some t => t.restartPending))
    ++ beBytes 1 (rateIndexCode u.current) ++ beBytes 2 d ++ beBytes 4 (if d = 0 then 0 else effectiveRate d)
    ++ beBytes 1 (rateIndexCode u.last) ++ u.counters.bytes ++ beBytes 2 u.injection.length
    ++ beBytes 4 (u.holdLeft now) ++ beBytes 1 u.streak ++ beBytes 1 u.attempts ++ beBytes 1 u.monitor.state.code
    ++ beBytes 2 u.monitor.fast ++ beBytes 2 u.monitor.long ++ beBytes 1 u.monitor.count

/-- Monitor parameter block, 10 bytes. -/
def MonitorParams.bytes (p : MonitorParams) : List Byte :=
  beBytes 1 p.bf ++ beBytes 1 p.bl ++ beBytes 1 p.te ++ beBytes 1 p.th ++ beBytes 2 p.dfloor ++ beBytes 1 p.ce
    ++ beBytes 1 p.cx ++ beBytes 1 p.tb ++ beBytes 1 p.group

/-- The monitor record as MONITOR READ returns it after the parameter block, 15 bytes (R77). -/
def Monitor.bytes (m : Monitor) : List Byte :=
  beBytes 1 m.state.code ++ beBytes 2 m.fast ++ beBytes 2 m.long ++ beBytes 1 m.count
    ++ beBytes 1 (flagCode m.seedPending) ++ beBytes 2 m.chars ++ beBytes 2 m.errors
    ++ beBytes 4 (m.burstLeft.getD 0)

/-- Mark record, 14 bytes. -/
def Mark.bytes (m : Mark) : List Byte :=
  beBytes 6 m.offset ++ beBytes 4 m.stamp.toNat ++ beBytes 1 m.kind.code ++ zeros 1 ++ beBytes 2 m.arg

/-- A pattern element, two bytes. -/
def PatternElement.bytes : PatternElement → List Byte
  | .literal b fold => beBytes 1 (flagCode fold) ++ [b]
  | .any => beBytes 1 2 ++ zeros 1

/-- The action map of an entry (section 11.5). -/
def WatchEntry.actionCode (e : WatchEntry) : Nat :=
  flagCode e.mark + 2 * flagCode e.note + 4 * flagCode e.snapshot.isSome + 8 * flagCode e.dropFloor
    + 16 * flagCode e.holdType.isSome

/-- Entry block: 15 bytes and two per element; absent fields are sent as 0 (R174). -/
def WatchEntry.bytes (e : WatchEntry) : List Byte :=
  beBytes 1 (flagCode e.enabled) ++ beBytes 1 e.pattern.length ++ beBytes 4 e.lines.toNat
    ++ beBytes 1 e.hitsNeeded ++ beBytes 2 e.holdoff ++ beBytes 1 e.actionCode
    ++ (match e.snapshot with | none => zeros 4 | some p => beBytes 2 p.pre ++ beBytes 2 p.post)
    ++ beBytes 1 (e.holdType.getD 0) ++ e.pattern.flatMap PatternElement.bytes

/-- An entry's state on one line, nine bytes (R93). -/
def WatchPair.bytes (p : WatchPair) : List Byte :=
  beBytes 1 p.hits ++ beBytes 4 (p.holdoff.getD 0) ++ beBytes 4 p.fires.toNat

/-- Slot record, 28 bytes. -/
def Slot.bytes (k : Slot) : List Byte :=
  beBytes 1 k.state.code ++ beBytes 1 k.line.val ++ beBytes 1 (causeCode k.cause)
    ++ beBytes 1 (causeIndex k.cause) ++ beBytes 4 k.stamp.toNat ++ beBytes 6 k.offset ++ beBytes 2 k.preHeld
    ++ beBytes 2 k.postTarget ++ beBytes 2 k.postHeld ++ beBytes 1 (flagCode k.truncated) ++ zeros 1
    ++ beBytes 2 k.retriggers ++ beBytes 4 (k.fillLeft.getD 0)

/-- Unit record block, 50 bytes. -/
def UnitRecord.bytes (r : UnitRecord) : List Byte :=
  beBytes 6 r.group.toNat ++ beBytes 2 r.etherType.toNat ++ beBytes 6 r.station.toNat
    ++ beBytes 6 r.collector.toNat ++ beBytes 1 r.period.code ++ beBytes 1 r.policy.code ++ beBytes 1 r.keep
    ++ beBytes 1 r.fillLimit ++ beBytes 1 r.tolerance ++ beBytes 1 r.supervisors.length
    ++ r.supervisors.flatMap (fun a => beBytes 6 a.toNat) ++ zeros (6 * (4 - r.supervisors.length))

/-- The seven unit counters in the order of R157. -/
def UnitCounters.bytes (c : UnitCounters) : List Byte :=
  beBytes 4 c.downDrops.toNat ++ beBytes 4 c.upDrops.toNat ++ beBytes 4 c.responseDrops.toNat
    ++ beBytes 4 c.dataCutOff.toNat ++ beBytes 4 c.requestDrops.toNat ++ beBytes 4 c.headerDrops.toNat
    ++ beBytes 4 c.creditDrops.toNat

/-! ### Frames of the unit's own -/

/-- The header of a frame the unit sends (section 11.1). -/
def OutFrame.header (f : OutFrame) : List Byte :=
  beBytes 6 f.dst.toNat ++ beBytes 6 f.src.toNat ++ beBytes 2 f.etherType.toNat ++ beBytes 1 1 ++ [f.unit, f.kind,
    f.session] ++ beBytes 2 f.tag.toNat ++ beBytes 2 f.body.length

/-- The filling of a short frame to 60 bytes (R172). -/
def padTo60 (bs : List Byte) : List Byte := bs ++ zeros (60 - bs.length)

/-- What follows the header of a frame the unit sends: its body, and in a response its status code at the place among
the body's bytes that the manual leaves open (assumption log 7). -/
def OutFrame.payload (f : OutFrame) : List Byte :=
  match f.status with
  | none => f.body
  | some st =>
    let p := Config.statusPlace f.kind f.body.length
    f.body.take p ++ [BitVec.ofNat 8 st.code] ++ f.body.drop p

/-- The bytes of a frame the unit sends, before the frame check sequence: a short one is filled with zeros (R172). -/
def OutFrame.wire (f : OutFrame) : List Byte := padTo60 (f.header ++ f.payload)

/-- The bytes a port sends for a frame: it appends the frame check sequence (R172, assumption log 35). -/
def onPort (bytes : List Byte) : List Byte := bytes ++ beBytes 4 (Config.frameCheck bytes).toNat

/-- The bytes that an UP frame is sent as: a forwarded frame as it arrived, a frame of the unit's own as section 11.1
lays it out (R156, R172). -/
def UpFrame.sent : UpFrame → List Byte
  | .response f _ => onPort f.wire
  | .forward f => onPort f
  | .data f => onPort f.wire

/-- The bytes that the UP port sends, check sequence included, while its transmitter is busy (R158, R172). -/
def State.upWire (s : State) : Option (List Byte) := s.upTx.map UpFrame.sent

/-- The bytes that the DOWN port sends, check sequence included, while its transmitter is busy: the frame as it arrived
(R156, R172). -/
def State.downWire (s : State) : Option (List Byte) := s.downTx.map onPort

/-- The kind of the response to a request of a kind: the code plus 0x80 (R172); open where the sum does not fit
(assumption log 15). -/
def responseKind (kind : Byte) : Byte :=
  if kind.toNat < 0x80 then kind + 0x80#8 else Config.highResponseKind kind

/-- A frame the unit makes now: from its station address of this moment (R165), with its own number (R164, R172). DESIGN
CHOICE (assumption log 36): with the chain EtherType of this moment, so that a UNIT SET's own response has the new one and
frames already queued keep the old one. -/
def State.ownFrame (s : State) (dst : Addr) (kind session : Byte) (tag : Word16) (status : Option Status)
    (body : List Byte) : OutFrame :=
  { dst, src := s.unit.station, etherType := s.unit.etherType, unit := s.unitNumber.setWidth 8, kind, session, tag,
    status, body }

end Sys2Proof.Machine
end

