-- ==== Sys2Proof/Machine/Arbiter.lean ====
section
/-! DEFINITION. The UP Transmit Arbiter (R158, R159) and what it chooses among: the readiness of a session (R121) and its
DATA frame (R122), the oldest frame of the response queue (R162), the oldest of the UP-bound queue (R156). It chooses at
the moment a member becomes eligible: each operation that can make one so ends in a grant (assumption log 6). -/

namespace Sys2Proof.Machine

/-! ### Sessions that are ready -/

/-- Bytes of its line's history beyond a session's cursor (R121). -/
def State.available (s : State) (i : SessionNo) : Nat :=
  (s.line (s.session i).line).ring.newest - (s.session i).cursor

/-- A session is ready (R121). -/
def State.ready (s : State) (i : SessionNo) : Bool :=
  let r := s.session i
  let avail := s.available i
  r.isOpen && decide (0 < r.credit) && decide (0 < avail)
    && (decide (r.gather ≤ avail) || decide (r.credit ≤ avail) || (s.line r.line).settled)

/-- Length of the DATA frame a session gets: the smallest of the available count, its credit and 1024 (R122). -/
def State.dataLength (s : State) (i : SessionNo) : Nat :=
  min (min (s.available i) (s.session i).credit) Config.payloadBytes

/-- The DATA frame a session gets (R122, section 11.4). -/
def State.dataFrame (s : State) (i : SessionNo) : OutFrame :=
  let r := s.session i
  let n := s.dataLength i
  s.ownFrame r.origin 0xC0#8 (BitVec.ofNat 8 i.val) 0 none
    (beBytes 6 r.cursor ++ beBytes 2 n ++ beBytes 4 r.gap ++ (s.line r.line).ring.read r.cursor n)

/-- A session after its DATA frame was formed: cursor up, credit down, gap 0 (R122). -/
def formData (i : SessionNo) (s : State) : State :=
  let n := s.dataLength i
  s.modSession i fun r => { r with cursor := r.cursor + n, credit := r.credit - n, gap := 0 }

/-! ### LINE TEST responses that wait -/

/-- Waiting LINE TEST responses take the places that are free, in their order (R162). -/
def placeWaiting (s : State) : State :=
  let free := Config.responseCapacity - (s.responses.length + s.heldPlaces)
  { s with
    responses := s.responses ++ (s.waitingTests.take free).map fun f => { frame := f, resets := false }
    waitingTests := s.waitingTests.drop free }

/-! ### The arbiter -/

/-- The members in the rotation after the one served last (R158). -/
def Member.rotation : Member → List Member
  | .responses => [.forward, .data, .responses]
  | .forward => [.data, .responses, .forward]
  | .data => [.responses, .forward, .data]

/-- The sessions in ascending order after the one served last, wrapping (R159). -/
def sessionsAfter (last : SessionNo) : List SessionNo := (List.finRange 32).map fun i => last + 1 + i

/-- The ready session that DATA serves next (R159). -/
def State.nextReady? (s : State) : Option SessionNo := (sessionsAfter s.lastSession).find? fun i => s.ready i

/-- A member is eligible (R158). -/
def State.eligible (s : State) : Member → Bool
  | .responses => !s.responses.isEmpty
  | .forward => !s.upQueue.isEmpty
  | .data => s.nextReady?.isSome

/-- Grant the UP transmitter to a member: it sends one frame and is the member served last (R158, R159, R122). A place
that frees in the response queue goes to a waiting LINE TEST response (R162). -/
def grantMember (m : Member) (s : State) : State :=
  match m with
  | .responses =>
    match s.responses with
    | [] => s
    | q :: rest =>
      placeWaiting
        { s with upTx := some (.response q.frame q.resets), responses := rest, lastMember := .responses }
  | .forward =>
    match s.upQueue with
    | [] => s
    | f :: rest => { s with upTx := some (.forward f), upQueue := rest, lastMember := .forward }
  | .data =>
    match s.nextReady? with
    | none => s
    | some i =>
      formData i { s with upTx := some (.data (s.dataFrame i)), lastMember := .data, lastSession := i }

/-- The arbiter may choose: transmitter idle, UP link up, and no UNIT RESET about to be applied (R158, R125, R168). -/
def State.upFree (s : State) : Bool :=
  s.upTx.isNone && s.upLink && decide (s.resetPhase ≠ .due)

/-- The arbiter grants the first eligible member after the one served last (R158). -/
def upGrant (s : State) : State :=
  if s.upFree then
    match s.lastMember.rotation.find? fun m => s.eligible m with
    | none => s
    | some m => grantMember m s
  else s

/-- A session may just have become ready: where the transmitter is free it is granted DATA at once (R121, R158). Nothing
else is eligible beside a free transmitter (`Obligations.TransmittersNeverIdle`). -/
def grantData (s : State) : State := if s.upFree then grantMember .data s else s

/-- A frame enters the response queue at its tail (R162). Where that queue is empty and the transmitter free, RESPONSES
becomes eligible, alone, and the frame is granted at once (R158). -/
def State.pushResponse (s : State) (f : OutFrame) : State :=
  if s.upFree ∧ s.responses = [] then { s with upTx := some (.response f false), lastMember := .responses }
  else { s with responses := s.responses ++ [{ frame := f, resets := false }] }

end Sys2Proof.Machine
end

