-- ==== Sys2Proof/Machine/Flags.lean ====
section
/-! DEFINITION. The Alert Unit: the event summaries, the one operation that adds an event to the summary of a line
and the one for the unit, and the ALERT a summary sends when it opens (R147 to R150). -/

namespace Sys2Proof.Machine

/-- The event kinds of a line (R147). -/
inductive LineEvent where
  | breakIn
  | burstBegin
  | burstEnd
  | rateSet
  | rateFail
  | rateLost
  | dark
  | watchFired
  | snapshotDone
  deriving DecidableEq, Repr

/-- Bit of a line event kind in the map (section 11.5). -/
def LineEvent.bit : LineEvent → Nat
  | .breakIn => 0
  | .burstBegin => 1
  | .burstEnd => 2
  | .rateSet => 3
  | .rateFail => 4
  | .rateLost => 5
  | .dark => 6
  | .watchFired => 7
  | .snapshotDone => 8

/-- The event kinds of the unit (R147). -/
inductive UnitEvent where
  | resetDone
  | attendLapse
  | snapshotMissed
  | chainLoss
  deriving DecidableEq, Repr

/-- Bit of a unit event kind in the map (section 11.5). -/
def UnitEvent.bit : UnitEvent → Nat
  | .resetDone => 0
  | .attendLapse => 1
  | .snapshotMissed => 2
  | .chainLoss => 3

/-- The kind is in the map. -/
def LineSummary.has (m : LineSummary) (e : LineEvent) : Bool := m.kinds.getLsbD e.bit

/-- The kind is in the map. -/
def UnitSummary.has (m : UnitSummary) (e : UnitEvent) : Bool := m.kinds.getLsbD e.bit

/-- The failure reason's bit (section 11.5). -/
def FailureReason.mask (r : FailureReason) : BitVec 3 := 1#3 <<< (r.code - 1)

/-- The response queue has a free place; a place held for a response counts as occupied (R162). -/
def State.responseRoom (s : State) : Bool :=
  decide (s.responses.length + s.heldPlaces < Config.responseCapacity)

/-- An ALERT or FLOOR NOTICE found no place (R157, R162). -/
def State.dropResponse (s : State) : State :=
  { s with counters := { s.counters with responseDrops := s.counters.responseDrops + 1 } }

/-- The scope code of the unit in an ALERT and in EVENTS READ (section 11.3). -/
def unitScope : Nat := 255

/-- An ALERT to the collector (R150, section 11.4). -/
def State.alertFrame (s : State) (scope kind arg : Nat) : OutFrame :=
  s.ownFrame s.unit.collector 0xC1#8 255#8 0 none
    (beBytes 4 s.unitTime.toNat ++ beBytes 1 scope ++ beBytes 1 kind ++ beBytes 2 arg)

/-- Add an event to the unit summary (R148). When that opens it and a collector is set, its ALERT is placed, or is
lost and adds CHAIN_LOSS to the summary it opened (R149, R150). -/
def raiseUnit (e : UnitEvent) (s : State) : State :=
  let kinds := s.unitSummary.kinds ||| (1#4 <<< e.bit)
  if s.unitSummary.kinds ≠ 0 then { s with unitSummary := { s.unitSummary with kinds := kinds } }
  else if s.unit.collector = 0 then { s with unitSummary := { kinds := kinds, outcome := .none } }
  else if s.responseRoom then
    State.pushResponse { s with unitSummary := { kinds := kinds, outcome := .sent } } (s.alertFrame unitScope e.bit 0)
  else
    State.dropResponse
      { s with unitSummary := { kinds := kinds ||| (1#4 <<< UnitEvent.chainLoss.bit), outcome := .lost } }

/-- Add an event to a line's summary with its watch indices and failure reasons, `arg` being the argument of an
ALERT (R148). When that opens the summary, a collector is set and the line's alerts are on, the ALERT is placed, or is
lost and raises CHAIN_LOSS (R149, R150). DESIGN CHOICE (assumption log 38): no place of the response queue frees between the
loss and the ALERT of a unit summary that its CHAIN_LOSS opens, so that ALERT is lost too. -/
def raiseLine (l : LineNo) (e : LineEvent) (watches : BitVec 64) (reasons : BitVec 3) (arg : Nat) (s : State) :
    State :=
  let old := (s.line l).summary
  let grown (o : AlertOutcome) : LineSummary :=
    { kinds := old.kinds ||| (1#9 <<< e.bit), watches := old.watches ||| watches,
      reasons := old.reasons ||| reasons, outcome := o }
  let put (o : AlertOutcome) : State := s.modLine l fun u => { u with summary := grown o }
  if old.kinds ≠ 0 then put old.outcome
  else if s.unit.collector = 0 ∨ (s.line l).record.alerts = false then put .none
  else if s.responseRoom then (put .sent).pushResponse (s.alertFrame l.val e.bit arg)
  else raiseUnit .chainLoss (put .lost).dropResponse

/-- Add an event that carries neither watch indices nor a reason. -/
def raisePlain (l : LineNo) (e : LineEvent) (s : State) : State := raiseLine l e 0 0 0 s

/-- Add RATE_FAIL with its reason (R36). -/
def raiseRateFail (l : LineNo) (r : FailureReason) (s : State) : State :=
  raiseLine l .rateFail 0 r.mask r.code s

/-- Place a FLOOR NOTICE, or lose it and raise CHAIN_LOSS (R128, R162). DESIGN CHOICE (assumption log 38): an ALERT that
this CHAIN_LOSS makes finds the queue as full as the notice did. -/
def placeNotice (f : OutFrame) (s : State) : State :=
  if s.responseRoom then s.pushResponse f else raiseUnit .chainLoss s.dropResponse

end Sys2Proof.Machine
end

