-- ==== Sys2Proof/Machine/Capture.lean ====
section
/-! DEFINITION. The Capture Store and the Delivery Unit's side of its reports: appending marks (R53), appending a
captured byte (R46), moving the cursors that `oldest` passes (R117, R118), resizing a ring (R50). -/

namespace Sys2Proof.Machine

/-- Append a mark to a line's list: at `newest`, with the present unit time; a full list loses its head, which is
counted (R53, R55). -/
def appendMark (l : LineNo) (kind : MarkKind) (arg : Nat) (s : State) : State :=
  s.modLine l fun u =>
    let m : Mark := { offset := u.ring.newest, stamp := s.unitTime, kind, arg }
    if Config.markCapacity ≤ u.marks.length then
      { u with marks := u.marks.tail ++ [m], markLoss := u.markLoss + 1 }
    else { u with marks := u.marks ++ [m] }

/-- A sum of a session's gap or lost total, saturating at 2^32 − 1 (R108). -/
def saturate32 (n : Nat) : Nat := min n (2 ^ 32 - 1)

/-- A session's cursor against a new `oldest` of its line: one below it moves up to it, and the bytes passed over
are added to the gap and the lost total (R117, R118). -/
def Session.passedBy (r : Session) (l : LineNo) (oldest : Nat) : Session :=
  if r.isOpen = true ∧ r.line = l ∧ r.cursor < oldest then
    { r with
      cursor := oldest
      gap := saturate32 (r.gap + (oldest - r.cursor))
      lost := saturate32 (r.lost + (oldest - r.cursor)) }
  else r

/-- The Capture Store reports a line's new `oldest` to the Delivery Unit (R47). -/
def reportOldest (l : LineNo) (oldest : Nat) (s : State) : State :=
  s.mapSessions fun _ r => r.passedBy l oldest

/-- A captured byte in a ring of `size` bytes: appended, or overwriting the oldest byte when the ring is full (R46). -/
def Ring.append (r : Ring) (size : Nat) (b : Byte) : Ring :=
  if r.held < size then { r with newest := r.newest + 1, bytes := r.bytes ++ [b] }
  else { oldest := r.oldest + 1, newest := r.newest + 1, bytes := r.bytes.tail ++ [b] }

/-- Append a captured byte to a line's ring; an overwrite removes the marks that fall below `oldest`, uncounted,
and reports the new `oldest` (R46, R47). -/
def ringAppend (l : LineNo) (b : Byte) (s : State) : State :=
  let u := s.line l
  let ring := u.ring.append u.record.ringBytes b
  let t := s.setLine l { u with ring := ring, marks := u.marks.filter fun m => decide (ring.oldest ≤ m.offset) }
  if u.ring.held < u.record.ringBytes then t else reportOldest l ring.oldest t

/-- A resize empties a ring: `oldest` goes to `newest`, the mark list is cleared uncounted, and the report moves the
line's cursors (R50, R118). The new size itself is in the line record. -/
def resizeRing (l : LineNo) (s : State) : State :=
  let newest := (s.line l).ring.newest
  reportOldest l newest
    (s.modLine l fun u => { u with ring := { oldest := newest, newest := newest, bytes := [] }, marks := [] })

/-- Marks of a line whose offset is at or above `offset`, in list order (R56). -/
def Line.marksFrom (u : Line) (offset : Nat) : List Mark := u.marks.filter fun m => decide (offset ≤ m.offset)

end Sys2Proof.Machine
end

