-- ==== Sys2Proof/Machine/Delivery.lean ====
section
/-! DEFINITION. The Delivery Unit: the refresh of a session (R109, R115), the settled flag and gather timer of a line (R120). -/

namespace Sys2Proof.Machine

/-- The keep timer at full length, none while the setting is off (R115). -/
def State.keepFull (s : State) : Option Nat := if s.unit.keep = 0 then none else some (s.unit.keep * 60000)

/-- Refresh a session: last heard is the present unit time and the keep timer starts afresh (R109, R115). -/
def refreshSession (i : SessionNo) (s : State) : State :=
  s.modSession i fun r => { r with lastHeard := s.unitTime, keepLeft := s.keepFull }

/-- A line's gather timer at full length: four character times at its current framing and rate, at least a
millisecond (R120). -/
def Line.gatherFull (u : Line) : Nat :=
  match u.current with
  | none => Config.ticksPerMs
  | some r => max Config.ticksPerMs (4 * charTime u.record.framing r.rate)

/-- A byte was captured: the line is not settled and its gather timer starts afresh (R120). -/
def restartGather (l : LineNo) (s : State) : State :=
  s.modLine l fun u => { u with settled := false, gather := some u.gatherFull }

/-- Offset that a position names on a line, clamped into the ring (R110, R113). -/
def Ring.positionOf (r : Ring) : Position → Clamped Nat
  | .newest => { val := r.newest, clamped := false }
  | .oldest => { val := r.oldest, clamped := false }
  | .at o => clamp r.oldest r.newest o

/-- The FREE record with the lowest number (R110). -/
def State.freeSession? (s : State) : Option SessionNo :=
  (List.finRange 32).find? fun i => !(s.session i).isOpen

end Sys2Proof.Machine
end

