-- ==== Sys2Proof/Machine/Snapshots.lean ====
section
/-! DEFINITION. The Snapshot Store: triggers (R97, R98), taking a slot (R99), filling it (R100) and completing it
(R100, R101). -/

namespace Sys2Proof.Machine

/-- A slot is FILLING for a line. -/
def Slot.fillsFor (k : Slot) (l : LineNo) : Bool := decide (k.state = .filling ∧ k.line = l)

/-- The slot that is FILLING for a line. -/
def State.fillingSlot? (s : State) (l : LineNo) : Option SlotNo :=
  (List.finRange 8).find? fun k => (s.slot k).fillsFor l

/-- The lowest FREE slot (R98). -/
def State.freeSlot? (s : State) : Option SlotNo :=
  (List.finRange 8).find? fun k => decide ((s.slot k).state = .free)

/-- The COMPLETE slot with the smallest trigger stamp, the lowest number among equals (R98). -/
def State.oldestComplete? (s : State) : Option SlotNo :=
  (List.finRange 8).foldl
    (fun best k =>
      if (s.slot k).state = .complete then
        match best with
        | none => some k
        | some b => if (s.slot k).stamp.toNat < (s.slot b).stamp.toNat then some k else some b
      else best)
    none

/-- Complete a FILLING slot and raise SNAPSHOT_DONE for its line (R100). -/
def completeSlot (k : SlotNo) (truncated : Bool) (s : State) : State :=
  let r := s.slot k
  raisePlain r.line .snapshotDone
    (s.setSlot k { r with state := .complete, truncated := truncated, fillLeft := none })

/-- Complete as truncated the slot that is FILLING for a line, if there is one (R101). -/
def truncateFor (l : LineNo) (s : State) : State :=
  match s.fillingSlot? l with
  | none => s
  | some k => completeSlot k true s

/-- Append a captured byte to the slot FILLING for its line, and complete the slot at its target (R100). -/
def slotByte (l : LineNo) (b : Byte) (s : State) : State :=
  match s.fillingSlot? l with
  | none => s
  | some k =>
    let r := s.slot k
    let t := s.setSlot k { r with postHeld := r.postHeld + 1, data := r.data ++ [b] }
    if r.postTarget ≤ r.postHeld + 1 then completeSlot k false t else t

/-- A trigger with its lengths as its source holds them, and the number of other watch entries handed with it (R97). -/
structure Trigger where
  line : LineNo
  cause : Cause
  pre : Nat
  post : Nat
  others : Nat
  deriving DecidableEq, Repr

/-- The post length after the sum check: pre is kept whole and post reduced (R97). -/
def Trigger.reducedPost (g : Trigger) : Nat :=
  if Config.slotBytes < g.pre + g.post then Config.slotBytes - g.pre else g.post

/-- How a trigger was settled (R98). -/
inductive Settled where
  | taken (slot : SlotNo)
  | filling (slot : SlotNo)
  | missed
  deriving DecidableEq, Repr

/-- A count of retriggers, saturating (R98). -/
def saturate16 (n : Nat) : Nat := min n 65535

/-- The record that a trigger writes, and the pre part copied from its line's ring (R99). -/
def State.triggeredSlot (s : State) (g : Trigger) : Slot :=
  let ring := (s.line g.line).ring
  let n := min g.pre ring.held
  { state := .filling, line := g.line, cause := some g.cause, stamp := s.unitTime, offset := ring.newest,
    preHeld := n, postTarget := g.reducedPost, postHeld := 0, truncated := false,
    retriggers := saturate16 g.others, data := ring.read (ring.newest - n) n,
    fillLeft := some (s.unit.fillLimit * 1000) }

/-- Take a slot for a trigger: write its record, copy the pre part, append the SNAPSHOT mark, start the fill limit,
and complete it at once when no post byte is wanted (R99). -/
def takeSlot (k : SlotNo) (g : Trigger) (s : State) : State :=
  let t := appendMark g.line .snapshot k.val (s.setSlot k (s.triggeredSlot g))
  if g.reducedPost = 0 then completeSlot k false t else t

/-- How a trigger is settled against the slots as they stand (R98). -/
def State.settleTrigger (s : State) (g : Trigger) : Settled :=
  match s.fillingSlot? g.line with
  | some k => .filling k
  | none =>
    match s.freeSlot? with
    | some k => .taken k
    | none =>
      match s.unit.policy with
      | .keep => .missed
      | .recycle =>
        match s.oldestComplete? with
        | some k => .taken k
        | none => .missed

/-- Settle a trigger (R98): a retrigger of the line's FILLING slot, a slot taken, or a miss. -/
def fireTrigger (g : Trigger) (s : State) : State :=
  match s.settleTrigger g with
  | .filling k => s.setSlot k { s.slot k with retriggers := saturate16 ((s.slot k).retriggers + 1 + g.others) }
  | .taken k => takeSlot k g s
  | .missed => raiseUnit .snapshotMissed s

/-- Trigger by a snapshot option of the line record, when it is on (R97). -/
def optionTrigger (l : LineNo) (cause : Cause) (option : Option SnapshotLengths) (s : State) : State :=
  match option with
  | none => s
  | some p => fireTrigger { line := l, cause, pre := p.pre, post := p.post, others := 0 } s

end Sys2Proof.Machine
end

