-- ==== Sys2Proof/Machine/FloorOps.lean ====
section
/-! DEFINITION. The Floor Arbiter: notices (R128), grants and releases (R132 to R137), the idle timer (R138, R139) and
the settling of a FLOOR REQUEST (R130). -/

namespace Sys2Proof.Machine

/-- Reasons of a LOST notice (R128). -/
inductive LostReason where
  | takeover
  | expired
  | watch
  | idle
  | lineOff
  | dark
  | attendance
  deriving DecidableEq, Repr

/-- LOST reason code (section 11.5). -/
def LostReason.code : LostReason → Nat
  | .takeover => 1
  | .expired => 2
  | .watch => 3
  | .idle => 4
  | .lineOff => 5
  | .dark => 6
  | .attendance => 7

/-- A FLOOR NOTICE to a session with the floor of the line as it stands; no reason makes it GRANTED (R128, section
11.4). -/
def State.noticeFrame (s : State) (l : LineNo) (i : SessionNo) (reason : Option LostReason) : OutFrame :=
  let f := (s.line l).floor
  s.ownFrame (s.session i).origin 0xC2#8 (BitVec.ofNat 8 i.val) 0 none
    (beBytes 1 l.val ++ beBytes 1 (flagCode reason.isSome)
      ++ beBytes 1 (match reason with | none => 0 | some r => r.code) ++ beBytes 1 f.state.code
      ++ beBytes 1 f.state.sessionCode ++ beBytes 1 f.waiting.length)

/-- Send LOST to a session when the cause has a reason to give (R128, R133). -/
def noticeLost (l : LineNo) (i : SessionNo) (reason : Option LostReason) (s : State) : State :=
  match reason with
  | none => s
  | some r => placeNotice (s.noticeFrame l i (some r)) s

/-- Send GRANTED (R128). -/
def noticeGranted (l : LineNo) (i : SessionNo) (s : State) : State := placeNotice (s.noticeFrame l i none) s

/-- The idle timer of a holder at full length: none runs when the idle time is 0, and it is held still while the line
is busy (R138). -/
def Line.idleFull (u : Line) : IdleTimer :=
  if u.record.floorIdle = 0 then .stopped
  else if u.floor.busy then .heldStill
  else .running (u.record.floorIdle * 1000)

/-- The idle timer of a HELD floor starts afresh; on another floor it is left as it stands (R138). -/
def restartIdle (l : LineNo) (s : State) : State :=
  s.modLine l fun u =>
    match u.floor.state with
    | .held _ => { u with floor := { u.floor with idle := u.idleFull } }
    | _ => u

/-- A session becomes holder and its idle timer starts; it is in no waiting list afterwards (R127, R138). -/
def becomeHolder (l : LineNo) (i : SessionNo) (s : State) : State :=
  s.modLine l fun u =>
    { u with floor := { u.floor with state := .held i, waiting := u.floor.waiting.erase i, idle := u.idleFull } }

/-- The waiter that a release serves: the first SUPERVISOR in list order, else the head (R132). -/
def State.nextWaiter? (s : State) (waiting : List SessionNo) : Option SessionNo :=
  match waiting.find? fun i => decide ((s.session i).cls = .supervisor) with
  | some i => some i
  | none => waiting.head?

/-- Release a HELD floor with its waiting list kept and served; `empty` is the floor when nobody waits (R132). -/
def releaseHeld (l : LineNo) (holder : SessionNo) (reason : Option LostReason) (empty : FloorState) (s : State) :
    State :=
  match s.nextWaiter? (s.line l).floor.waiting with
  | none =>
    noticeLost l holder reason
      (s.modLine l fun u => { u with floor := { u.floor with state := empty, idle := .stopped } })
  | some w => noticeGranted l w (noticeLost l holder reason (becomeHolder l w s))

/-- A PARKED floor becomes FREE (R133). -/
def releaseParked (l : LineNo) (p : SessionNo) (reason : Option LostReason) (s : State) : State :=
  noticeLost l p reason (s.modLine l fun u => { u with floor := { u.floor with state := .free, idle := .stopped } })

/-- Release a line's floor by its state with the list served; a FREE floor is left as it stands (R133, R137). -/
def releaseFloor (l : LineNo) (reason : Option LostReason) (s : State) : State :=
  match (s.line l).floor.state with
  | .free => s
  | .held h => releaseHeld l h reason .free s
  | .parked p => releaseParked l p reason s

/-- Free a line's floor and clear its waiting list without serving it; line busy is kept (R136, R144). -/
def clearFloor (l : LineNo) (reason : LostReason) (s : State) : State :=
  let t := s.modLine l fun u =>
    { u with floor := { u.floor with state := .free, waiting := [], idle := .stopped } }
  match (s.line l).floor.state with
  | .free => t
  | .held h => noticeLost l h (some reason) t
  | .parked p => noticeLost l p (some reason) t

/-- A session leaves its line's floor by its standing there: holder, parked session or waiter (R134, R135). -/
def leaveFloor (i : SessionNo) (reason : Option LostReason) (s : State) : State :=
  let l := (s.session i).line
  let f := (s.line l).floor
  if f.state = .held i then releaseHeld l i reason .free s
  else if f.state = .parked i then releaseParked l i reason s
  else s.modLine l fun u => { u with floor := { u.floor with waiting := u.floor.waiting.erase i } }

/-- The monitor reports busy: a running idle timer is held still (R139). -/
def floorBusy (l : LineNo) (s : State) : State :=
  s.modLine l fun u =>
    { u with floor := { u.floor with
        busy := true
        idle := match u.floor.idle with | .running _ => .heldStill | t => t } }

/-- The monitor reports the line quiet again: the idle timer of a HELD floor starts afresh (R139). -/
def floorQuiet (l : LineNo) (s : State) : State :=
  restartIdle l (s.modLine l fun u => { u with floor := { u.floor with busy := false } })

/-- The outcome of settling a FLOOR REQUEST. -/
structure FloorAnswer where
  status : Status
  state : State

/-- Settle a FLOOR REQUEST that passed its checks; the first row of R130 that applies decides. -/
def settleRequest (l : LineNo) (i : SessionNo) (takeover : Bool) (s : State) : FloorAnswer :=
  match (s.line l).floor.state with
  | .free => { status := .ok, state := becomeHolder l i s }
  | .parked p =>
    if p = i then { status := .ok, state := becomeHolder l i s }
    else { status := .ok, state := noticeLost l p (some .takeover) (becomeHolder l i s) }
  | .held h =>
    if h = i then { status := .ok, state := s }
    else if (s.session h).cls = .operator ∧ takeover = true ∧ (s.session i).cls = .supervisor then
      { status := .ok, state := noticeLost l h (some .takeover) (becomeHolder l i s) }
    else if i ∈ (s.line l).floor.waiting then { status := .queued, state := s }
    else
      { status := .queued
        state := s.modLine l fun u => { u with floor := { u.floor with waiting := u.floor.waiting ++ [i] } } }

/-- A session's place in a waiting list counted from 1, 0 when it is not in it (R131). -/
def placeIn (waiting : List SessionNo) (i : SessionNo) : Nat :=
  if i ∈ waiting then waiting.idxOf i + 1 else 0

/-- The floor report of a session's line (R131, section 11.3). -/
def State.floorReport (s : State) (i : SessionNo) : List Byte :=
  let f := (s.line (s.session i).line).floor
  beBytes 1 f.state.code ++ beBytes 1 f.state.sessionCode ++ beBytes 1 f.waiting.length
    ++ beBytes 1 (placeIn f.waiting i)

/-- The floor report of NO_SESSION: FREE, 255, 0, 0 (R131). -/
def noFloorReport : List Byte := beBytes 1 0 ++ beBytes 1 255 ++ zeros 2

end Sys2Proof.Machine
end

