-- ==== Sys2Proof/Machine/MonitorOps.lean ====
section
/-! DEFINITION. The Activity Monitor: its arithmetic (R63, R65), the step of its state (R66), what the beginning and
the end of a burst do (R67, R68), the learning of L (R69), the burst timeout (R70), and a line's entry into and exit from
LIVE (R72). -/

namespace Sys2Proof.Machine

/-- The step that moves a value toward a target: the difference over 2 to the power of the shift, truncated toward
zero, but at least one while the two differ (R63). -/
def stepToward (a b shift : Nat) : Int :=
  let d : Int := (b : Int) - (a : Int)
  let q : Int := Int.tdiv d ((2 : Int) ^ shift)
  if q = 0 then Int.sign d else q

/-- Move a value toward a target with a shift (R63). -/
def moveToward (a b shift : Nat) : Nat := ((a : Int) + stepToward a b shift).toNat

/-- The enter margin D (R65). -/
def MonitorParams.enterMargin (p : MonitorParams) (long : Nat) : Nat := max p.dfloor (long * p.te / 16)

/-- The exit margin De (R65). -/
def MonitorParams.exitMargin (p : MonitorParams) (long : Nat) : Nat :=
  p.enterMargin long - p.enterMargin long * p.th / 256

/-- The enter condition (R65). -/
def MonitorParams.enters (p : MonitorParams) (fast long : Nat) : Bool := decide (long + p.enterMargin long < fast)

/-- The exit condition (R65). -/
def MonitorParams.exits (p : MonitorParams) (fast long : Nat) : Bool := decide (fast < long + p.exitMargin long)

/-- The state and debounce count after an expiry (R66). -/
def MonitorParams.next (p : MonitorParams) (state : MonitorState) (k : Nat) (enter exit : Bool) :
    MonitorState × Nat :=
  match state with
  | .quiet => if enter then if p.ce ≤ 1 then (.burst, 0) else (.rising, 1) else (.quiet, 0)
  | .rising => if enter then if p.ce ≤ k + 1 then (.burst, 0) else (.rising, k + 1) else (.quiet, 0)
  | .burst => if exit then if p.cx ≤ 1 then (.quiet, 0) else (.falling, 1) else (.burst, 0)
  | .falling => if exit then if p.cx ≤ k + 1 then (.quiet, 0) else (.falling, k + 1) else (.burst, 0)

/-- BURST or FALLING: a burst is on. -/
def MonitorState.bursting : MonitorState → Bool
  | .burst | .falling => true
  | .quiet | .rising => false

/-- A burst begins (R67). -/
def burstBegins (l : LineNo) (s : State) : State :=
  let t := raisePlain l .burstBegin (appendMark l .burstBegin 0 s)
  let t := t.modLine l fun u =>
    { u with monitor := { u.monitor with
        burstLeft := if u.params.tb = 0 then none else some (u.params.tb * 1000) } }
  floorBusy l (optionTrigger l .burst (t.line l).record.burstSnapshot t)

/-- BURST_END is marked and raised (R68, R70). -/
def burstEnds (l : LineNo) (arg : Nat) (s : State) : State :=
  raisePlain l .burstEnd (appendMark l .burstEnd arg s)

/-- A burst ends by decay (R68). -/
def burstDecays (l : LineNo) (s : State) : State :=
  floorQuiet l
    ((burstEnds l 0 s).modLine l fun u => { u with monitor := { u.monitor with burstLeft := none } })

/-- The burst timeout of a line in BURST or FALLING ends the burst: L takes F, the state becomes QUIET (R70). -/
def burstTimesOut (l : LineNo) (s : State) : State :=
  let t := s.modLine l fun u =>
    { u with monitor := { u.monitor with
        long := u.monitor.fast, state := .quiet, count := 0, burstLeft := none } }
  floorQuiet l (burstEnds l 1 t)

/-- Another line of the same non-zero halt group is in BURST or FALLING (R69). -/
def State.groupHeld (s : State) (l : LineNo) : Bool :=
  decide ((s.line l).params.group ≠ 0)
    && (List.finRange 24).any fun j =>
      decide (j ≠ l) && decide ((s.line j).params.group = (s.line l).params.group)
        && (s.line j).monitor.state.bursting

/-- L learns from the interval, unless the line or another of its halt group is bursting (R69). -/
def learnLong (l : LineNo) (s : State) : State :=
  if (s.line l).monitor.state.bursting || s.groupHeld l then s
  else s.modLine l fun u =>
    { u with monitor := { u.monitor with long := moveToward u.monitor.long u.monitor.fast u.params.bl } }

/-- The monitor's part of a sample expiry, before the streak (R61, R64 to R69): a seeding expiry, or F, the state and L
in turn. -/
def monitorExpiry (l : LineNo) (s : State) : State :=
  let u := s.line l
  let m := u.monitor
  let x := 16 * m.chars
  if m.seedPending then
    s.setLine l { u with monitor := { m with fast := x, long := x, seedPending := false } }
  else
    let fast := moveToward m.fast x u.params.bf
    let after := u.params.next m.state m.count (u.params.enters fast m.long) (u.params.exits fast m.long)
    let t := s.setLine l { u with monitor := { m with fast := fast, state := after.1, count := after.2 } }
    let t :=
      if after.1 = .burst ∧ m.state.bursting = false then burstBegins l t
      else if after.1 = .quiet ∧ m.state.bursting = true then burstDecays l t
      else t
    learnLong l t

/-- Count a captured byte and its errors in the interval (R62). The count of errors stays in the range R60 gives it
(assumption log 24). -/
def Monitor.counted (m : Monitor) (parity framing : Bool) : Monitor :=
  { m with
    chars := min 4095 (m.chars + 1)
    errors := min 8190 (m.errors + flagCode parity + flagCode framing) }

/-- The monitor record at an entry into LIVE (R72). -/
def Monitor.seeded : Monitor :=
  { state := .quiet, fast := 0, long := 0, count := 0, seedPending := true, burstLeft := none,
    sampleLeft := some 100, chars := 0, errors := 0 }

/-- The monitor record at an exit from LIVE: F and L are kept (R72). -/
def Monitor.left (m : Monitor) : Monitor :=
  { m with state := .quiet, count := 0, burstLeft := none, sampleLeft := none, chars := 0, errors := 0 }

/-- The monitor's part of an exit from LIVE; a burst reports quiet again (R72, R74). -/
def monitorExit (l : LineNo) (s : State) : State :=
  let t := s.modLine l fun u => { u with monitor := u.monitor.left }
  if (s.line l).monitor.state.bursting then floorQuiet l t else t

end Sys2Proof.Machine
end

