-- ==== Sys2Proof/Machine/LineOps.lean ====
section
/-! DEFINITION. The Line Units and the Rate Probe: the transmitter (R14, R15), the injection queue (R13), holds (R16),
entry into and exit from LIVE (R3, R4), the probe queue (R25 to R28), the end of a measurement (R33 to R36), starting and
restarting a line by its record (R5, R23), and the end of a loopback test (R19, R20, R162). -/

namespace Sys2Proof.Machine

/-- The byte CR (R15, R29). -/
def crByte : Byte := 0x0D#8

/-- The pacing gap has run out (R15). -/
def Line.gapOut (u : Line) : Bool := decide (u.gap.getD 0 = 0)

/-- The conditions under which the transmitter takes the head element (R15). -/
def Line.mayStart (u : Line) (now : Word32) : Bool :=
  decide (u.state = .live) && decide (u.tx = .idle) && !u.held now && u.gapOut

/-- The transmitter of a LIVE line takes the head element when it may; a BREAK is counted and marked as it begins (R14,
R15). -/
def startElement (l : LineNo) (s : State) : State :=
  let u := s.line l
  if u.mayStart s.unitTime then
    match u.injection with
    | [] => s
    | .byte b :: rest =>
      s.setLine l { u with injection := rest, gap := none, tx := .byte b u.record.framing }
    | .brk ms :: rest =>
      appendMark l .breakOut ms
        (s.setLine l
          { u with
            injection := rest
            gap := none
            tx := .breakSpace ms
            counters := { u.counters with breaksOut := u.counters.breaksOut + 1 } })
  else s

/-- The pacing gap of `ms` milliseconds begins; a gap of 0 runs out at once and the next element may start (R15). -/
def beginGap (l : LineNo) (ms : Nat) (s : State) : State :=
  startElement l
    (s.modLine l fun u => { u with tx := .idle, gap := if ms = 0 then none else some ms })

/-- Bytes that join the tail of the injection queue: as many as it has room for (R13). -/
def Line.room (u : Line) : Nat := Config.injectionCapacity - u.injection.length

/-- The first bytes of a TYPE join the injection queue as far as it has room (R13). -/
def injectBytes (l : LineNo) (bytes : List Byte) (s : State) : State :=
  s.modLine l fun u =>
    let taken := bytes.take u.room
    { u with
      injection := u.injection ++ taken.map Element.byte
      counters := { u.counters with
        bytesTyped := u.counters.bytesTyped + BitVec.ofNat 32 taken.length } }

/-- Extend a line's hold by some seconds: the later of its current expiry and that sum (R16, R90). -/
def extendHold (l : LineNo) (seconds : Nat) (s : State) : State :=
  s.modLine l fun u =>
    let sum := s.unitTime + BitVec.ofNat 32 (seconds * 1000)
    match u.hold with
    | none => { u with hold := some sum }
    | some e =>
      if holdRuns s.unitTime e ∧ forwardDistance s.unitTime sum ≤ forwardDistance s.unitTime e then u
      else { u with hold := some sum }

/-- An attendance lapse at a Line Unit: a LIVE line flushes its queue and clears its hold, and an element in
transmission finishes (R17). -/
def Line.flushed (u : Line) : Line := if u.state = .live then { u with injection := [], hold := none } else u

/-! ### Entry into and exit from LIVE -/

/-- Exit from LIVE (R4): transmission cut off, queue flushed, hold cleared, the character in assembly dropped, the
gather timer stopped with the line settled (R120), which may make a session ready that is granted at once (R158,
assumption log 6), the monitor stopped (R72), a FILLING slot truncated (R101). The state that follows is set by the
caller. -/
def exitLive (l : LineNo) (s : State) : State :=
  truncateFor l
    (monitorExit l
      (grantData
        (s.modLine l fun u =>
          { u with
            tx := .idle
            injection := []
            hold := none
            rx := .waiting
            current := none
            gather := none
            settled := true })))

/-- Where the receiver stands at an entry into LIVE, by the level of RXD (R11). -/
def receiverAt : Level → Receiver
  | .mark => .waiting
  | .space => .awaitMark

/-- Entry into LIVE at a rate taken under an index (R3). DESIGN CHOICE (assumption log 32): R34 calls the index the
argument of the mark and of the event RATE_SET, and R150 gives the ALERT of a RATE_SET the argument 0; the mark carries
the index here and the event none. -/
def enterLive (l : LineNo) (r : TakenRate) (s : State) : State :=
  raisePlain l .rateSet
    (appendMark l .rateSet r.index.val
      (s.modLine l fun u =>
        { u with
          state := .live
          current := some r
          last := some r
          matchWindow := []
          monitor := .seeded
          streak := 0
          gap := none
          tx := .idle
          rx := receiverAt u.rxd
          test := none }))

/-- The rate at an index of the table as it stands, with the index (R3, R41). -/
def State.takeRate (s : State) (i : RateIndex) : TakenRate := { index := i, rate := s.rateAt i }

/-! ### The probe queue and the engine -/

/-- A line joins the probe queue at its tail from outside it: QUEUED, its attempt count cleared (R25, R28). -/
def joinProbe (l : LineNo) (s : State) : State :=
  let t := s.modLine l fun u => { u with state := .queued, attempts := 0, test := none }
  { t with probeQueue := t.probeQueue ++ [l] }

/-- A retry requeue: QUEUED at the tail with the attempt count kept (R25, R35). -/
def requeueProbe (l : LineNo) (s : State) : State :=
  let t := s.modLine l fun u => { u with state := .queued }
  { t with probeQueue := t.probeQueue ++ [l] }

/-- A line leaves the probe queue from whatever place it holds (R26). -/
def leaveProbe (l : LineNo) (s : State) : State := { s with probeQueue := s.probeQueue.erase l }

/-- The idle engine takes the head of the probe queue: MEASURING, MEASURE_BEGIN marked, the record's values copied, the
counters cleared, and the CR probe sent when the probe field asks for it (R27, R29). The measurement takes the next
number (assumption log 34). -/
def probeTake (s : State) : State :=
  match s.engine, s.probeQueue with
  | none, l :: rest =>
    let r := (s.line l).record
    let t := appendMark l .measureBegin 0
      (s.modLine l fun u =>
        { u with
          state := .measuring
          tx := match r.probe with
            | .silent => .idle
            | .cr => .probe r.framing (s.rateAt r.fallbackIndex) })
    { t with
      probeQueue := rest
      begun := s.begun + 1
      engine := some
        { number := s.begun, line := l, probe := r.probe, edges := r.edges, window := r.window, framing := r.framing,
          start := s.unitTime, edgeCount := 0, pulse := 0, phase := 0, narrowest := none, elapsed := 0,
          windowLeft := r.window.seconds * 1000 } }
  | _, _ => s

/-- The measurement in progress ends: the engine is idle and a probe character is cut off (R27, R29). -/
def endMeasurement (l : LineNo) (s : State) : State :=
  { s.modLine l fun u => { u with tx := .idle } with engine := none }

/-- Start a line by its record: FIXED enters LIVE at the fixed rate, AUTO joins the probe queue (R2, R5, R23). -/
def startByRecord (l : LineNo) (s : State) : State :=
  match (s.line l).record.policy with
  | .fixed => enterLive l (s.takeRate (s.line l).record.fixedIndex) s
  | .auto => joinProbe l s

/-- Final failure of a measurement round (R36). -/
def finalFailure (l : LineNo) (reason : FailureReason) (s : State) : State :=
  let t := raiseRateFail l reason s
  let fallback := t.takeRate (t.line l).record.fallbackIndex
  match (t.line l).record.failure with
  | .hold => enterLive l ((t.line l).last.getD fallback) t
  | .fallback => enterLive l fallback t
  | .dark =>
    raisePlain l .dark (clearFloor l .dark (t.modLine l fun u => { u with state := .dark }))

/-- The measurement in progress fails with a reason: the attempt count rises, and the line is requeued or its round ends
(R35). -/
def failAttempt (m : Measurement) (reason : FailureReason) (s : State) : State :=
  let t := (endMeasurement m.line s).modLine m.line fun u => { u with attempts := u.attempts + 1 }
  probeTake
    (if (t.line m.line).attempts < (t.line m.line).record.attempts.num then requeueProbe m.line t
    else finalFailure m.line reason t)

/-- Distance of a measured width from a rate's nominal width. -/
def widthDistance (w rate : Nat) : Nat := max w (nominalWidth rate) - min w (nominalWidth rate)

/-- A rate table entry matches a measured width within a tolerance in permille (R33). -/
def rateMatches (tol w rate : Nat) : Bool :=
  decide (rate ≠ 0 ∧ w < 65535 ∧ widthDistance w rate * 1000 ≤ tol * nominalWidth rate)

/-- The matching entry with the smallest distance, the lowest index among equals (R33). -/
def State.matchWidth (s : State) (w : Nat) : Option RateIndex :=
  (List.finRange 16).foldl
    (fun best i =>
      if rateMatches s.unit.tolerance w (s.rateAt i) then
        match best with
        | none => some i
        | some b => if widthDistance w (s.rateAt i) < widthDistance w (s.rateAt b) then some i else some b
      else best)
    none

/-- An attempt with S edges ends: its smallest width is matched, and the line enters LIVE at the chosen entry or the
attempt fails (R33, R34). -/
def finishAttempt (m : Measurement) (w : Nat) (s : State) : State :=
  match s.matchWidth w with
  | some i => probeTake (enterLive m.line (s.takeRate i) (endMeasurement m.line s))
  | none => failAttempt m .noMatch s

/-- A pin changes its level. -/
def Level.flip : Level → Level
  | .mark => .space
  | .space => .mark

/-- The pulse that runs began with a mark-to-space edge and reaches 65,535 periods within `periods` more with RXD still
at space: a break during measurement (R32). -/
def State.breaksPulse (s : State) (m : Measurement) (periods : Nat) : Bool :=
  decide (0 < m.edgeCount ∧ (s.line m.line).rxd = .space ∧ pulseAfter m.pulse periods = 65535)

/-- An edge counted by a measurement, `periods` reference clock periods after the last tick or its last edge: the first
starts the count, a later one closes the running pulse, and the S-th ends the attempt (R30). -/
def countEdge (m : Measurement) (periods : Nat) (s : State) : State :=
  let t := s.modLine m.line fun u => { u with rxd := u.rxd.flip }
  let next := { m with edgeCount := m.edgeCount + 1, pulse := 0, phase := m.phase + periods }
  if m.edgeCount = 0 then { t with engine := some next }
  else
    let width := pulseAfter m.pulse periods
    let w := min width (m.narrowest.getD width)
    let next := { next with narrowest := some w }
    if m.edges.num ≤ next.edgeCount then finishAttempt next w { t with engine := some next }
    else { t with engine := some next }

/-- A line at a return of RXD to mark: a LIVE receiver that waits for mark waits for an edge from there (R10, R11); in
MEASURING the edges come by MEASURE_EDGE. -/
def Line.atReturnToMark (u : Line) : Line :=
  match u.state with
  | .live => { u with rxd := .mark, rx := if u.rx = .awaitMark then .waiting else u.rx }
  | .measuring => u
  | .off | .queued | .dark | .loop => { u with rxd := .mark }

/-- A line at an edge meant for a measurement that has ended: the level of its pin changes, and on a LIVE line at space
the edge is the return to mark. A LIVE line at mark is left alone: its receiver takes a mark-to-space edge with the
sample at mid start bit, by START_EDGE (R9, assumption log 34). -/
def Line.strayEdge (u : Line) : Line :=
  match u.state, u.rxd with
  | .live, .mark => u
  | .live, .space => u.atReturnToMark
  | _, level => { u with rxd := level.flip }

/-- An edge that closes a space pulse of 65,535 periods or more comes after its break: the attempt failed BREAK when the
counter reached 65,535 (R32), and the edge finds the line as that left it. Where the engine has retaken the same line, it
is the first edge of the new measurement (R30, R35). -/
def lateEdge (m : Measurement) (periods : Nat) (s : State) : State :=
  let t := failAttempt m .brk s
  match t.engine with
  | none => t.modLine m.line Line.strayEdge
  | some next =>
    if next.line = m.line then countEdge { next with phase := m.phase } periods t
    else t.modLine m.line Line.strayEdge

/-- An RXD edge during a measurement (R30, R32). -/
def measuredEdge (m : Measurement) (periods : Nat) (s : State) : State :=
  if s.breaksPulse m periods then lateEdge m periods s else countEdge m periods s

/-! ### Loopback tests -/

/-- The counts a LINE TEST response carries (R19, section 11.3). -/
def LoopTest.bytes (t : LoopTest) : List Byte :=
  beBytes 1 t.sent ++ beBytes 1 t.matched ++ beBytes 1 (t.firstMismatch.getD 255)

/-- The response of a loopback test, to the origin, session field and tag of its request (R19, R20). -/
def State.testFrame (s : State) (t : LoopTest) (status : Status) : OutFrame :=
  s.ownFrame t.origin (responseKind RequestKind.lineTest.code) t.session t.tag (some status) t.bytes

/-- A LINE TEST response enters the response queue, or waits at its Line Unit behind those that wait already (R162). -/
def placeTest (f : OutFrame) (s : State) : State :=
  if s.waitingTests = [] ∧ s.responseRoom = true then s.pushResponse f
  else { s with waitingTests := s.waitingTests ++ [f] }

/-- A line leaves LOOP at test completion: to its prior state, or as its record says after a restarting LINE SET
(R19, R23). -/
def leaveLoop (l : LineNo) (t : LoopTest) (s : State) : State :=
  let s := s.modLine l fun u => { u with tx := .idle, test := none }
  match t.prior with
  | .off => s.modLine l fun u => { u with state := .off }
  | .live =>
    if t.restartPending then probeTake (startByRecord l s)
    else enterLive l ((s.line l).last.getD (s.takeRate (s.line l).record.fixedIndex)) s

/-- A test completes: a pattern byte with no received character counts as a mismatch, the response is placed, and the
line leaves LOOP (R19). -/
def completeTest (l : LineNo) (t : LoopTest) (s : State) : State :=
  let first := match t.firstMismatch with
    | some i => some i
    | none => if t.received < t.pattern.length then some t.received else none
  leaveLoop l t (placeTest (s.testFrame { t with firstMismatch := first } .ok) s)

/-- The next pattern byte of a test starts, in the line's framing (R19). -/
def LoopTest.transmit (t : LoopTest) (framing : Framing) : Transmitter :=
  match t.pattern[t.sent]? with
  | none => .idle
  | some b => .pattern b framing

/-- LOOP is entered with a test (R18). -/
def enterLoop (l : LineNo) (t : LoopTest) (s : State) : State :=
  s.modLine l fun u => { u with state := .loop, test := some t, tx := t.transmit u.record.framing }

/-! ### LINE SET -/

/-- A LINE SET from one record to another restarts the line (R23). -/
def restarts (old new : LineRecord) : Bool :=
  decide (new.policy ≠ old.policy ∨ (new.policy = .fixed ∧ new.fixedIndex ≠ old.fixedIndex))

/-- Restart a line by the state in which the LINE SET is taken (R23). The record is already the new one. -/
def restartLine (l : LineNo) (s : State) : State :=
  let u := s.line l
  match u.state with
  | .off => s
  | .queued =>
    match u.record.policy with
    | .fixed => startByRecord l (leaveProbe l s)
    | .auto => s
  | .measuring => probeTake (startByRecord l (endMeasurement l s))
  | .live => probeTake (startByRecord l (exitLive l s))
  | .dark => probeTake (startByRecord l s)
  | .loop => s.modLine l fun u => { u with test := u.test.map fun t => { t with restartPending := true } }

/-- Apply a LINE SET that passed its checks: the ring first, then the other fields, then any restart (R22). -/
def applyRecord (l : LineNo) (new : LineRecord) (s : State) : State :=
  let old := (s.line l).record
  let t := s.modLine l fun u => { u with record := new }
  let t := if new.ringKiB ≠ old.ringKiB then resizeRing l t else t
  let t := if new.floorIdle ≠ old.floorIdle then restartIdle l t else t
  if restarts old new then restartLine l t else t

/-- Sum of the ring sizes in bytes with a line's size replaced (R22, R49). -/
def State.ringSum (s : State) (l : LineNo) (kib : Nat) : Nat :=
  (List.finRange 24).foldl (fun acc j => acc + (if j = l then kib else (s.line j).record.ringKiB) * 1024) 0

end Sys2Proof.Machine
end

