-- ==== Sys2Proof/Machine/WatchOps.lean ====
section
/-! DEFINITION. The Watch Unit: agreement of a pattern element with a byte (R79), the match window (R80), matching and
firing (R83, R84), and the actions of the entries that fire at one byte (R85 to R90); and the capture of a byte, with
its five consumers (R9). -/

namespace Sys2Proof.Machine

/-- A letter of the alphabet: 0x41–0x5A or 0x61–0x7A (R79). -/
def isLetter (b : Byte) : Bool :=
  decide (0x41 ≤ b.toNat ∧ b.toNat ≤ 0x5A) || decide (0x61 ≤ b.toNat ∧ b.toNat ≤ 0x7A)

/-- Two bytes are the same letter, whatever their case (R79). -/
def sameLetter (b c : Byte) : Bool := isLetter b && isLetter c && decide (b ||| 0x20#8 = c ||| 0x20#8)

/-- A pattern element agrees with a captured byte (R79). -/
def PatternElement.agrees : PatternElement → Byte → Bool
  | .literal b fold, c => decide (b = c) || (fold && sameLetter b c)
  | .any, _ => true

/-- The window after a captured byte joins it: the last 24 bytes (R80). -/
def windowAfter (w : List Byte) (b : Byte) : List Byte := (w ++ [b]).drop (w.length + 1 - Config.windowBytes)

/-- The last bytes of the window agree with the pattern, element by element (R83). -/
def patternMatches (pattern : List PatternElement) (w : List Byte) : Bool :=
  decide (pattern.length ≤ w.length)
    && (pattern.zip (w.drop (w.length - pattern.length))).all fun ec => ec.1.agrees ec.2

/-- An entry is considered for a byte of a line (R83). -/
def WatchEntry.considered (e : WatchEntry) (l : LineNo) (p : WatchPair) : Bool :=
  e.enabled && e.lines.getLsbD l.val && p.holdoff.isNone

/-- An entry matches at the byte just captured (R83). -/
def WatchEntry.hits (e : WatchEntry) (l : LineNo) (p : WatchPair) (w : List Byte) : Bool :=
  e.considered l p && patternMatches e.pattern w

/-- A match makes the entry fire (R84). -/
def WatchEntry.fires (e : WatchEntry) (l : LineNo) (p : WatchPair) (w : List Byte) : Bool :=
  e.hits l p w && decide (p.hits + 1 = e.hitsNeeded)

/-- What an entry's state on a line becomes at a captured byte (R84). -/
def WatchEntry.after (e : WatchEntry) (l : LineNo) (p : WatchPair) (w : List Byte) : WatchPair :=
  if e.fires l p w then
    { hits := 0, holdoff := if e.holdoff = 0 then none else some (e.holdoff * 1000), fires := p.fires + 1 }
  else if e.hits l p w then { p with hits := p.hits + 1 }
  else p

/-- The entries that fire on a line with a window, in ascending index (R83, R85). -/
def State.firing (s : State) (l : LineNo) (w : List Byte) : List EntryNo :=
  (List.finRange 64).filter fun i => (s.entry i).fires l ((s.line l).pair i) w

/-- MARK: one WATCH_HIT mark per entry (R86). -/
def markHits (l : LineNo) (firing : List EntryNo) (s : State) : State :=
  (firing.filter fun i => (s.entry i).mark).foldl (fun t i => appendMark l .watchHit i.val t) s

/-- NOTE: the indices join the line's event summary as one change (R87). -/
def noteHits (l : LineNo) (firing : List EntryNo) (s : State) : State :=
  match firing.filter fun i => (s.entry i).note with
  | [] => s
  | i :: rest =>
    raiseLine l .watchFired ((i :: rest).foldl (fun m j => m ||| (1#64 <<< j.val)) 0) 0 i.val s

/-- SNAPSHOT: one trigger from the lowest index, with the number of the others (R88). -/
def snapshotHits (l : LineNo) (firing : List EntryNo) (s : State) : State :=
  match firing.filter fun i => (s.entry i).snapshot.isSome with
  | [] => s
  | i :: rest =>
    match (s.entry i).snapshot with
    | none => s
    | some p => fireTrigger { line := l, cause := .watch i, pre := p.pre, post := p.post, others := rest.length } s

/-- HOLD_TYPE: one extension by the largest hold seconds (R90). -/
def holdHits (l : LineNo) (firing : List EntryNo) (s : State) : State :=
  match firing.filterMap fun i => (s.entry i).holdType with
  | [] => s
  | t :: rest => extendHold l (rest.foldl max t) s

/-- DROP_FLOOR: one release of the line's floor (R89, R137). -/
def dropHits (l : LineNo) (firing : List EntryNo) (s : State) : State :=
  if firing.any fun i => (s.entry i).dropFloor then releaseFloor l (some .watch) s else s

/-- The actions of the entries that fire at one byte, in the order of R85. -/
def watchActions (l : LineNo) (firing : List EntryNo) (s : State) : State :=
  dropHits l firing (holdHits l firing (snapshotHits l firing (noteHits l firing (markHits l firing s))))

/-- The Watch Unit takes a captured byte (R80, R83 to R85). -/
def watchByte (l : LineNo) (b : Byte) (s : State) : State :=
  let u := s.line l
  let w := windowAfter u.matchWindow b
  let firing := s.firing l w
  watchActions l firing
    (s.setLine l
      { u with
        matchWindow := w
        watch := Vector.ofFn fun i : EntryNo => (s.entry i).after l (u.pair i) w })

/-- The line counters after a captured character (R9, R12). -/
def LineCounters.captured (c : LineCounters) (parity framing : Bool) : LineCounters :=
  { c with
    bytesCaptured := c.bytesCaptured + 1
    parityErrors := if parity then c.parityErrors + 1 else c.parityErrors
    framingErrors := if framing then c.framingErrors + 1 else c.framingErrors }

/-- A byte is captured on a LIVE line and offered to its five consumers (R9). With the byte in the ring and the line no
longer settled, a session that has become ready is granted at once (R158, assumption log 6). DESIGN CHOICE (assumption
log 9): the slot that is FILLING takes the byte, and completes with SNAPSHOT_DONE, before the Watch Unit fires; so where
one byte does both, SNAPSHOT_DONE opens the line's summary and its ALERT never carries WATCH_FIRED. -/
def captureByte (l : LineNo) (b : Byte) (parity framing : Bool) (s : State) : State :=
  let t := s.modLine l fun u =>
    { u with
      counters := u.counters.captured parity framing
      monitor := u.monitor.counted parity framing
      rx := .waiting
      rxd := .mark }
  watchByte l b (slotByte l b (grantData (restartGather l (ringAppend l b t))))

/-- The framing of the character that a capture ends: the one it began with (R22). A capture taken while the receiver
waits at mark stands for the whole character, its start edge included (assumption log 17). -/
def Line.captureFraming (u : Line) : Option Framing :=
  match u.rx with
  | .waiting => some u.record.framing
  | .assembling f => some f
  | .awaitMark => none

/-- A character's sampled bits are captured on a LIVE line (R9). -/
def captureCharacter (l : LineNo) (data : Byte) (parityBit framingError : Bool) (s : State) : State :=
  if (s.line l).state = .live then
    match (s.line l).captureFraming with
    | none => s
    | some f => captureByte l (f.capturedByte data) (f.parityError data parityBit) framingError s
  else s

end Sys2Proof.Machine
end

