-- ==== Sys2Proof/Machine/ChainOps.lean ====
section
/-! DEFINITION. The Chain Ports, the Message Engine and the Attendance Monitor: forward queues (R156), losses (R157), the
request input queue (R160), taking a request and answering it (R161, R162), configuration access (R163), valid messages
(R170). -/

namespace Sys2Proof.Machine

/-! ### Attendance -/

/-- The attendance period in milliseconds, none when OFF (R164). -/
def AttendancePeriod.ms : AttendancePeriod → Option Nat
  | .off => none
  | .s10 => some 10000
  | .s60 => some 60000
  | .s300 => some 300000

/-- Attendance started at a period: ATTENDED with the timer at full length, or OFF (R170). -/
def Attendance.started (a : Attendance) (p : AttendancePeriod) : Attendance :=
  match p.ms with
  | none => { a with state := .off, left := none }
  | some ms => { a with state := .attended, left := some ms }

/-- A valid message restarts the period or ends a lapse, unless the period is OFF (R170). -/
def validMessage (s : State) : State :=
  if s.unit.period = .off then s else { s with attendance := s.attendance.started s.unit.period }

/-! ### Losses -/

/-- A frame is lost on its way DOWN: counted, and CHAIN_LOSS raised (R156, R157). -/
def dropDown (s : State) : State :=
  raiseUnit .chainLoss { s with counters := { s.counters with downDrops := s.counters.downDrops + 1 } }

/-- A forwarded frame is lost on its way UP (R156, R157). -/
def dropUp (s : State) : State :=
  raiseUnit .chainLoss { s with counters := { s.counters with upDrops := s.counters.upDrops + 1 } }

/-- The frame in transmission on UP is cut off: the counter depends on where the frame came from, and CHAIN_LOSS is
raised (R154, R157). -/
def cutOffUp (f : UpFrame) (s : State) : State :=
  match f with
  | .response _ _ => raiseUnit .chainLoss s.dropResponse
  | .forward _ => dropUp s
  | .data _ =>
    raiseUnit .chainLoss { s with counters := { s.counters with dataCutOff := s.counters.dataCutOff + 1 } }

/-- Do something `n` times over. -/
def repeated (f : State → State) : Nat → State → State
  | 0, s => s
  | n + 1, s => repeated f n (f s)

/-- A frame is the response of UNIT RESET (R168). -/
def UpFrame.isReset : UpFrame → Bool
  | .response _ resets => resets
  | .forward _ => false
  | .data _ => false

/-! ### The DOWN port -/

/-- The idle DOWN transmitter takes the oldest frame of its queue while its link is up (R156). -/
def downStart (s : State) : State :=
  match s.downTx, s.downQueue with
  | none, f :: rest => if s.downLink then { s with downTx := some f, downQueue := rest } else s
  | _, _ => s

/-- A frame joins the DOWN-bound queue, or is dropped and counted: link down or queue full (R154, R156). -/
def joinDown (f : Frame) (s : State) : State :=
  if s.downLink = true ∧ s.downQueue.length < Config.forwardCapacity then
    downStart { s with downQueue := s.downQueue ++ [f] }
  else dropDown s

/-- A frame joins the UP-bound queue, or is dropped and counted: link down or queue full (R154, R156). -/
def joinUp (f : Frame) (s : State) : State :=
  if s.upLink = true ∧ s.upQueue.length < Config.forwardCapacity then { s with upQueue := s.upQueue ++ [f] }
  else dropUp s

/-! ### The request input queue -/

/-- A frame for this unit reaches the request input queue: dropped and counted for its header or for want of room, or
joining the tail as a valid message (R160, R170). -/
def consume (f : Frame) (s : State) : State :=
  if frameHeaderGood f = false then
    { s with counters := { s.counters with headerDrops := s.counters.headerDrops + 1 } }
  else if s.requests.length < Config.requestCapacity then validMessage { s with requests := s.requests ++ [f] }
  else { s with counters := { s.counters with requestDrops := s.counters.requestDrops + 1 } }

/-- A frame is a chain message of this unit's chain (R155, R173). -/
def State.isChainMessage (s : State) (f : Frame) : Bool :=
  decide (frameDst f = s.unit.group) && decide (frameEtherType f = s.unit.etherType) && frameHoldsHeader f

/-- The UP filter (R155). -/
def filterUp (f : Frame) (s : State) : State :=
  if s.isChainMessage f then
    if frameUnitField f = s.unitNumber.toNat then consume f s
    else if frameUnitField f = 0 then joinDown f (consume f s)
    else joinDown f s
  else joinDown f s

/-! ### The Message Engine -/

/-- What a response says: its status, its body, and whether it is UNIT RESET's (R161, R168). -/
structure Reply where
  status : Status
  body : List Byte
  resets : Bool := false
  deriving DecidableEq, Repr

/-- The outcome of a request: the response it gets now, if any, and the state it leaves. -/
structure Answer where
  reply : Option Reply
  state : State

/-- Answer with a status and a body. -/
def Answer.of (status : Status) (body : List Byte) (s : State) : Answer :=
  { reply := some { status, body }, state := s }

/-- The Message Engine may take a request of a kind: no UNIT RESET was taken, no LINE TEST response waits for room, and
the response queue has a free place, which a CREDIT does not need (R161, R162, R168). -/
def State.mayTake (s : State) (k : RequestKind) : Bool :=
  decide (s.resetPhase = .idle) && s.waitingTests.isEmpty && (decide (k = .credit) || s.responseRoom)

/-- The session that a request's header names is OPEN and of the request's origin (R109). -/
def State.namesOwn (s : State) (rq : Request) (i : SessionNo) : Bool :=
  (s.session i).isOpen && decide ((s.session i).origin = rq.origin)

/-- The refresh of the session that a request's header names, when it is OPEN and of the request's origin (R109, R161). -/
def refreshNamed (rq : Request) (s : State) : State :=
  match rq.sessionNo with
  | none => s
  | some i => if s.namesOwn rq i then refreshSession i s else s

/-- What taking any request does before it is carried out: a lapse ends (R170), the session named is refreshed (R109). -/
def greet (rq : Request) (s : State) : State :=
  refreshNamed rq (if s.attendance.state = .unattended then validMessage s else s)

/-- The session check of R109: the status it refuses with, if it does. -/
def State.sessionCheck (s : State) (rq : Request) : Option Status :=
  match rq.sessionNo with
  | none => some .noSession
  | some i =>
    if (s.session i).isOpen = false then some .noSession
    else if (s.session i).origin = rq.origin then none
    else some .denied

/-- The origin passes the supervisor origin check: the list is empty or holds it (R163). -/
def State.supervises (s : State) (a : Addr) : Bool := s.unit.supervisors.isEmpty || decide (a ∈ s.unit.supervisors)

/-- The checks that the engine makes on any request of a known kind, in the order of R161. -/
def State.engineCheck (s : State) (k : RequestKind) (rq : Request) : Option Status :=
  if k.bodyShort rq.body then some .malformed
  else if k.isSession then s.sessionCheck rq
  else if k.isConfiguration && !s.supervises rq.origin then some .denied
  else none

/-- Bytes of a kind's response body without its list fields (section 11.3). -/
def RequestKind.responseBytes : RequestKind → Nat
  | .unitStatus => 102
  | .setTime => 8
  | .lineRead => 86
  | .lineTest => 3
  | .rateTableRead => 65
  | .monitorRead => 26
  | .marksRead => 18
  | .eventsRead => 13
  | .watchRead => 232
  | .snapshotList => 228
  | .snapshotRead => 14
  | .snapshotTake => 1
  | .openSession => 19
  | .closeSession => 11
  | .seek => 32
  | .floorRequest | .floorRelease => 4
  | .typeBytes | .sendBreak => 2
  | .unitSet | .unitReset | .lineSet | .lineEnable | .lineDisable | .lineMeasure | .rateTableSet | .monitorSet
  | .watchSet | .snapshotFree | .credit => 0

/-- The body of a refused request's response (R131, R175): none for MALFORMED; the named fields at their values; the
rest 0. -/
def State.refusedBody (s : State) (k : RequestKind) (rq : Request) (status : Status) : List Byte :=
  if status = .malformed then []
  else
    match k with
    | .openSession => beBytes 1 255 ++ zeros 18
    | .snapshotTake => beBytes 1 255
    | .floorRequest | .floorRelease =>
      match status, rq.sessionNo with
      | .noSession, _ => noFloorReport
      | _, some i => s.floorReport i
      | _, none => noFloorReport
    | k => zeros k.responseBytes

/-- Refuse a request with a status. -/
def refuse (k : RequestKind) (rq : Request) (status : Status) (s : State) : Answer :=
  Answer.of status (s.refusedBody k rq status) s

/-- A CREDIT is dropped and counted (R114). -/
def dropCredit (s : State) : State :=
  { s with counters := { s.counters with creditDrops := s.counters.creditDrops + 1 } }

/-- The response to a request (R161, R172). -/
def State.responseFrame (s : State) (rq : Request) (rep : Reply) : OutFrame :=
  s.ownFrame rq.origin (responseKind rq.kind) rq.session rq.tag (some rep.status) rep.body

/-- The response enters the place held for it (R161). -/
def respond (rq : Request) (rep : Reply) (s : State) : State :=
  { s with
    heldPlaces := 0
    responses := s.responses ++ [{ frame := s.responseFrame rq rep, resets := rep.resets }] }

/-- Give the answer of a request: its response in the held place, or the held place given up (R161). A session that the
request made ready was granted before (R158, assumption log 6). DESIGN CHOICE (assumption log 33): the place held for an
accepted LINE TEST, which is answered only when the test ends, stays held until the request's effects are done, so that an
ALERT among them does not find it free. -/
def deliver (rq : Request) (a : Answer) : State :=
  match a.reply with
  | some rep => respond rq rep (grantData a.state)
  | none => { a.state with heldPlaces := 0 }

/-- The engine's checks, and the request's own part when they pass. A CREDIT that fails one is dropped (R114, R161). -/
def carryOut (k : RequestKind) (own : Request → State → Answer) (rq : Request) (s : State) : Answer :=
  match s.engineCheck k rq with
  | none => own rq s
  | some st => if k = .credit then { reply := none, state := dropCredit s } else refuse k rq st s

/-- The Message Engine takes the request at the head of the input queue, when it is of the kind named and may be
taken, and carries it out (R161). Otherwise this step cannot be the next, and nothing changes (assumption log 1). DESIGN
CHOICE (assumption log 39): the request leaves the queue when it is taken, so UNIT STATUS does not count itself (R167). -/
def serve (k : RequestKind) (own : Request → State → Answer) (s : State) : State :=
  match s.requests with
  | [] => s
  | f :: rest =>
    if RequestKind.ofCode (frameKind f) = some k ∧ s.mayTake k = true then
      let rq := Request.ofFrame f
      let held := if k = .credit then 0 else 1
      upGrant (deliver rq (carryOut k own rq (greet rq { s with requests := rest, heldPlaces := held })))
    else s

end Sys2Proof.Machine
end

