-- ==== Sys2Proof/Machine/LineRequests.lean ====
section
/-! DEFINITION. The requests on one line: LINE READ (R24), LINE SET (R22), LINE ENABLE (R5), LINE DISABLE (R6), LINE
MEASURE (R38), LINE TEST (R18), MARKS READ (R56). -/

namespace Sys2Proof.Machine

/-- Do a request on the line its body begins with; a number above 23 is refused OUT_OF_RANGE. -/
def onLine (k : RequestKind) (rq : Request) (s : State) (own : LineNo → Answer) : Answer :=
  match lineOf? (numAt rq.body 0 1) with
  | none => refuse k rq .outOfRange s
  | some l => own l

/-- LINE READ's own part (R24, section 11.3). -/
def lineRead (rq : Request) (s : State) : Answer :=
  onLine .lineRead rq s fun l =>
    let u := s.line l
    Answer.of .ok (beBytes 1 l.val ++ u.record.bytes ++ u.conditionBytes s.unitTime) s

/-- LINE SET's own part: the checks in the order of R22, then the whole record applied. -/
def lineSet (rq : Request) (s : State) : Answer :=
  onLine .lineSet rq s fun l =>
    match readLineRecord s.rates (rq.body.drop 1) with
    | none => refuse .lineSet rq .outOfRange s
    | some c =>
      if Config.captureBytes < s.ringSum l c.val.ringKiB then refuse .lineSet rq .noRoom s
      else Answer.of (okOr c.clamped) [] (applyRecord l c.val s)

/-- Enable a line: OFF and DARK are started by the record; the other states are left (R5). -/
def enableLine (l : LineNo) (s : State) : State :=
  match (s.line l).state with
  | .off | .dark => probeTake (startByRecord l s)
  | .queued | .measuring | .live | .loop => s

/-- LINE ENABLE's own part (R5). -/
def lineEnable (rq : Request) (s : State) : Answer :=
  onLine .lineEnable rq s fun l => Answer.of .ok [] (enableLine l s)

/-- The running test of a line is ended with an ABORTED response (R20). DESIGN CHOICE (assumption log 31): the count sent
so far takes in only the bytes whose stop bits have completed, not the one still in transmission. -/
def abortTest (l : LineNo) (s : State) : State :=
  match (s.line l).test with
  | none => s
  | some t => placeTest (s.testFrame t .aborted) s

/-- What every way to OFF does: the floor is freed, the line's hit counts and holdoffs are cleared, LINE_OFF is marked
(R6, R81, R136). -/
def turnOff (l : LineNo) (s : State) : State :=
  let t := s.modLine l fun u => { u with state := .off, test := none, tx := .idle }
  let t := clearFloor l .lineOff t
  let t := t.modLine l fun u => u.mapPairs fun p => { p with hits := 0, holdoff := none }
  appendMark l .lineOff 0 t

/-- Disable a line from whatever state it is in (R6). -/
def disableLine (l : LineNo) (s : State) : State :=
  match (s.line l).state with
  | .off => s
  | .queued => turnOff l (leaveProbe l s)
  | .measuring => probeTake (turnOff l (endMeasurement l s))
  | .live => turnOff l (exitLive l s)
  | .dark => turnOff l s
  | .loop => turnOff l (abortTest l s)

/-- LINE DISABLE's own part (R6). -/
def lineDisable (rq : Request) (s : State) : Answer :=
  onLine .lineDisable rq s fun l => Answer.of .ok [] (disableLine l s)

/-- LINE MEASURE's own part, by the line's state (R38). -/
def lineMeasure (rq : Request) (s : State) : Answer :=
  onLine .lineMeasure rq s fun l =>
    match (s.line l).state with
    | .live => Answer.of .ok [] (probeTake (joinProbe l (exitLive l s)))
    | .off | .dark => Answer.of .ok [] (probeTake (joinProbe l s))
    | .queued | .measuring | .loop => refuse .lineMeasure rq .busy s

/-- A loopback test as it begins (R18). -/
def newTest (rq : Request) (prior : LoopPrior) (rate : Nat) (pattern : List Byte) : LoopTest :=
  { prior, restartPending := false, rate, pattern, sent := 0, received := 0, matched := 0, firstMismatch := none,
    wait := none, origin := rq.origin, session := rq.session, tag := rq.tag }

/-- LINE TEST's own part, by the line's state; an accepted test is answered when it ends (R18). DESIGN CHOICE (assumption
log 37): a pattern of 0 bytes or more than 16 is refused OUT_OF_RANGE whatever the line's state, before BUSY and NOT_LIVE. -/
def lineTest (rq : Request) (s : State) : Answer :=
  onLine .lineTest rq s fun l =>
    let count := numAt rq.body 1 1
    let pattern := slice rq.body 2 count
    if count = 0 ∨ 16 < count then refuse .lineTest rq .outOfRange s
    else
      let u := s.line l
      match u.state with
      | .live =>
        let rate := match u.current with | none => 0 | some r => r.rate
        { reply := none, state := enterLoop l (newTest rq .live rate pattern) (exitLive l s) }
      | .off =>
        { reply := none, state := enterLoop l (newTest rq .off (s.rateAt u.record.fallbackIndex) pattern) s }
      | .queued | .measuring | .loop => refuse .lineTest rq .busy s
      | .dark => refuse .lineTest rq .notLive s

/-- MARKS READ's own part: up to 16 marks at or above the offset (R56, section 11.3). -/
def marksRead (rq : Request) (s : State) : Answer :=
  onLine .marksRead rq s fun l =>
    let u := s.line l
    let found := u.marksFrom (numAt rq.body 1 6)
    let sent := found.take 16
    Answer.of .ok
      (beBytes 6 u.ring.oldest ++ beBytes 6 u.ring.newest ++ beBytes 4 u.markLoss.toNat ++ beBytes 1 found.length
        ++ beBytes 1 sent.length ++ sent.flatMap Mark.bytes)
      s

/-- LINE_READ (R24). -/
def execLineRead (s : State) : Host.Outcome State Fault Refusal := .next (serve .lineRead lineRead s)

/-- LINE_SET (R22). -/
def execLineSet (s : State) : Host.Outcome State Fault Refusal := .next (serve .lineSet lineSet s)

/-- LINE_ENABLE (R5). -/
def execLineEnable (s : State) : Host.Outcome State Fault Refusal := .next (serve .lineEnable lineEnable s)

/-- LINE_DISABLE (R6). -/
def execLineDisable (s : State) : Host.Outcome State Fault Refusal := .next (serve .lineDisable lineDisable s)

/-- LINE_MEASURE (R38). -/
def execLineMeasure (s : State) : Host.Outcome State Fault Refusal := .next (serve .lineMeasure lineMeasure s)

/-- LINE_TEST (R18). -/
def execLineTest (s : State) : Host.Outcome State Fault Refusal := .next (serve .lineTest lineTest s)

/-- MARKS_READ (R56). -/
def execMarksRead (s : State) : Host.Outcome State Fault Refusal := .next (serve .marksRead marksRead s)

end Sys2Proof.Machine
end

