-- ==== Sys2Proof/Machine/MeasureEvents.lean ====
section
/-! DEFINITION. The events of the Rate Probe: edges (R30, R33), the measure window (R31), a break during measurement
(R32), the end of the probe character (R29). What arrives after its measurement has ended has no effect on the engine
(R31, R37): an edge names its measurement (assumption log 34), a window ends when its milliseconds have passed, a break
needs a pulse as long as a break (assumption log 18). An event that cannot occur in the state it meets changes nothing
(assumption log 1). -/

namespace Sys2Proof.Machine

/-- The measurement in progress, when an edge belongs to it (assumption log 34). -/
def State.measuredBy? (s : State) (edge : MeasuredEdge) : Option Measurement :=
  match s.engine with
  | none => none
  | some m => if m.number = edge.measurement ∧ m.line = edge.line then some m else none

/-- MEASURE_EDGE (R30). An edge whose measurement has ended reaches the pin only. -/
def execMeasureEdge (edge : MeasuredEdge) (s : State) : Host.Outcome State Fault Refusal :=
  .next
    (match s.measuredBy? edge with
    | none => s.modLine edge.line Line.strayEdge
    | some m => upGrant (measuredEdge m edge.periods s))

/-- EDGE_COUNT_REACHED (R33): the edge that comes is the S-th. -/
def execEdgeCountReached (edge : MeasuredEdge) (s : State) : Host.Outcome State Fault Refusal :=
  .next
    (match s.measuredBy? edge with
    | none => s.modLine edge.line Line.strayEdge
    | some m => if m.edges.num ≤ m.edgeCount + 1 then upGrant (measuredEdge m edge.periods s) else s)

/-- MEASURE_WINDOW_EXPIRY (R31): the milliseconds of the window have passed. -/
def execMeasureWindowExpiry (s : State) : Host.Outcome State Fault Refusal :=
  .next
    (match s.engine with
    | none => s
    | some m => if m.windowLeft = 0 then upGrant (failAttempt m .noTraffic s) else s)

/-- MEASURE_BREAK (R32): the pulse that runs began with a mark-to-space edge, and its counter reaches 65,535 within the
present millisecond. -/
def execMeasureBreak (s : State) : Host.Outcome State Fault Refusal :=
  .next
    (match s.engine with
    | none => s
    | some m => if s.breaksPulse m m.periodsToTick then upGrant (failAttempt m .brk s) else s)

/-- A transmitter that sent the probe character idles at mark (R29). -/
def Transmitter.probeDone : Transmitter → Transmitter
  | .probe _ _ => .idle
  | t => t

/-- PROBE_CHARACTER_END (R29). -/
def execProbeCharacterEnd (s : State) : Host.Outcome State Fault Refusal :=
  .next
    (match s.engine with
    | none => s
    | some m => s.modLine m.line fun u => { u with tx := u.tx.probeDone })

end Sys2Proof.Machine
end

