-- ==== Sys2Proof/Machine/PortEvents.lean ====
section
/-! DEFINITION. The events of the chain ports: links (R154), frames arriving (R155, R172), transmissions ending (R156,
R158, R168). -/

namespace Sys2Proof.Machine

/-- UP_LINK_DOWN (R154): the frame in transmission is cut off, the UP-bound queue emptied, each loss counted. A cut-off
response of UNIT RESET has left the port (R168). -/
def execUpLinkDown (s : State) : Host.Outcome State Fault Refusal :=
  .next
    (if s.upLink then
      let t := { s with upLink := false, upTx := none, upQueue := [] }
      let t := match s.upTx with
        | none => t
        | some f => cutOffUp f { t with resetPhase := if f.isReset then .due else t.resetPhase }
      repeated dropUp s.upQueue.length t
    else s)

/-- DOWN_LINK_DOWN (R154). -/
def execDownLinkDown (s : State) : Host.Outcome State Fault Refusal :=
  .next
    (if s.downLink then
      let t := { s with downLink := false, downTx := none, downQueue := [] }
      upGrant (repeated dropDown (s.downTx.toList.length + s.downQueue.length) t)
    else s)

/-- LINK_COMES_UP (R154). -/
def execLinkComesUp (port : Port) (s : State) : Host.Outcome State Fault Refusal :=
  .next
    (match port with
    | .up => if s.upLink then s else upGrant { s with upLink := true }
    | .down => if s.downLink then s else downStart { s with downLink := true })

/-- UP_FRAME_ARRIVAL (R155): a port whose link is down, or a frame whose check sequence fails, receives nothing (R154,
R172). -/
def execUpFrameArrival (frame : Frame) (fcsGood : Bool) (s : State) : Host.Outcome State Fault Refusal :=
  .next (if fcsGood && s.upLink then upGrant (filterUp frame s) else s)

/-- DOWN_FRAME_ARRIVAL (R155): not filtered, every frame joins the UP-bound queue. -/
def execDownFrameArrival (frame : Frame) (fcsGood : Bool) (s : State) : Host.Outcome State Fault Refusal :=
  .next (if fcsGood && s.downLink then upGrant (joinUp frame s) else s)

/-- UP_TRANSMIT_COMPLETE (R158): the transmitter is idle and the arbiter chooses; when the response of UNIT RESET has
left, the reset is due and nothing is granted before it (R168). -/
def execUpTransmitComplete (s : State) : Host.Outcome State Fault Refusal :=
  .next
    (match s.upTx with
    | none => s
    | some f =>
      if f.isReset then { s with upTx := none, resetPhase := .due } else upGrant { s with upTx := none })

/-- DOWN_TRANSMIT_COMPLETE (R156). -/
def execDownTransmitComplete (s : State) : Host.Outcome State Fault Refusal :=
  .next
    (match s.downTx with
    | none => s
    | some _ => downStart { s with downTx := none })

end Sys2Proof.Machine
end

