-- ==== Sys2Proof/Machine/PowerAndReset.lean ====
section
/-! DEFINITION. The two resets: POWER_ON (R2, R40, R57, R60, R94, R106, R125, R146, R153, R154, R164, R166, R170) and
UNIT_RESET_APPLIED (R169 and each block's part). -/

namespace Sys2Proof.Machine

/-- A line with no activity: OFF for the moment, with the record, parameters, RXD level and summary given. -/
def blankLine (record : LineRecord) (params : MonitorParams) (rxd : Level) (summary : LineSummary) : Line :=
  { Line.reset with
    record := record
    state := .off
    current := none
    last := none
    rxd := rxd
    marks := []
    monitor := .reset
    params := params
    summary := summary }

/-- The line record's reset values under the straps (R21). -/
def strappedRecord (straps : Straps) : LineRecord :=
  let i : RateIndex := if straps.ratesel then 8 else 4
  { LineRecord.reset with
    policy := if straps.autosel then .auto else .fixed
    fixedIndex := i
    fallbackIndex := i }

/-- The unit number from the straps, 0 taken as 1 (R164). -/
def strappedNumber (straps : Straps) : BitVec 4 := if straps.unit = 0 then 1 else straps.unit

/-- The unit record's power-on values under the straps (R164). -/
def strappedUnit (straps : Straps) : UnitRecord :=
  { UnitRecord.reset with
    station := 0x0E4E4A000000#48 + (strappedNumber straps).setWidth 48
    period := if straps.attsel then .s60 else .off }

/-- Every block at its power-on values, the lines not yet started; the RXD pins and the waiting commands are not the
part's to change, and the measurements are numbered on (assumption log 34). -/
def powered (straps : Straps) (s : State) : State :=
  { State.reset with
    pending := s.pending
    begun := s.begun
    lines := Vector.ofFn fun l : LineNo =>
      blankLine (strappedRecord straps) .reset (s.line l).rxd .reset
    unitSummary := { kinds := 0, outcome := .none }
    unitNumber := strappedNumber straps
    unit := strappedUnit straps
    attendance := Attendance.started { state := .off, left := none, lapses := 0 } (strappedUnit straps).period }

/-- Start every line by its record in ascending order, then let the engine take the head of the probe queue (R2, R40). -/
def startLines (s : State) : State := probeTake (s.forLines startByRecord)

/-- POWER_ON (R2). -/
def execPowerOn (straps : Straps) (s : State) : Host.Outcome State Fault Refusal :=
  .next (startLines (raiseUnit .resetDone (powered straps s)))

/-- The ABORTED responses of the loopback tests that run, in ascending line order (R20, R169). -/
def State.abortedTests (s : State) : List OutFrame :=
  (List.finRange 24).filterMap fun l => (s.line l).test.map fun t => s.testFrame t .aborted

/-- UNIT RESET: the queues are emptied, uncounted, and every session is FREE; the tests' responses take places and the
first goes out (R158, assumption log 6); the unit's own activity is cleared. A frame in transmission on DOWN is sent to its
end (R125, R169, R176). -/
def resetQueues (s : State) : State :=
  upGrant (placeWaiting
    { s with
      sessions := Vector.replicate 32 .reset
      requests := []
      responses := []
      upQueue := []
      downQueue := []
      heldPlaces := 0
      waitingTests := s.waitingTests ++ s.abortedTests
      counters := .reset
      lastMember := .data
      lastSession := 31
      attendance := Attendance.started { s.attendance with lapses := 0 } s.unit.period
      resetPhase := .idle })

/-- UNIT RESET at the Alert Unit: every summary cleared, then RESET_DONE (R153). -/
def resetAlerts (s : State) : State :=
  raiseUnit .resetDone
    { s.mapLines fun _ u => { u with summary := .reset } with unitSummary := { kinds := 0, outcome := .none } }

/-- UNIT RESET at the Snapshot Store: every FILLING slot is truncated (R106). DESIGN CHOICE (assumption log 11): in
ascending slot number, an order that the manual does not give and that the SNAPSHOT_DONE ALERTs show (R153). -/
def resetSlots (s : State) : State :=
  s.forSlots fun k t => if (t.slot k).state = .filling then completeSlot k true t else t

/-- UNIT RESET at the blocks that keep state for lines: records and parameters kept, activity cleared (R2, R40, R58, R60,
R94, R146). -/
def resetActivity (s : State) : State :=
  { s.mapLines fun _ u => blankLine u.record u.params u.rxd u.summary with
    probeQueue := []
    engine := none }

/-- UNIT_RESET_APPLIED, once the response of UNIT RESET has left the UP port (R168, R169). -/
def execUnitResetApplied (s : State) : Host.Outcome State Fault Refusal :=
  .next
    (if s.resetPhase = .due then upGrant (startLines (resetActivity (resetSlots (resetAlerts (resetQueues s)))))
    else s)

end Sys2Proof.Machine
end

