-- ==== Sys2Proof/Machine/ReceiveEvents.lean ====
section
/-! DEFINITION. The events of a line's receiver: characters and framing errors captured (R9), breaks in (R10), the
edges of RXD outside a measurement (R9, R10, R11), and looped-back characters (R19). An event that cannot occur in
the state it meets changes nothing (assumption log 1). -/

namespace Sys2Proof.Machine

/-- CHARACTER_CAPTURE (R9). -/
def execCharacterCapture (line : LineNo) (data : Byte) (parityBit : Bool) (s : State) :
    Host.Outcome State Fault Refusal :=
  .next (upGrant (captureCharacter line data parityBit false s))

/-- FRAMING_ERROR_CAPTURE (R9): the stop bit was at space and RXD has returned to mark. -/
def execFramingErrorCapture (line : LineNo) (data : Byte) (parityBit : Bool) (s : State) :
    Host.Outcome State Fault Refusal :=
  .next (upGrant (captureCharacter line data parityBit true s))

/-- A break is detected on a LIVE line: counted, marked, raised, and a trigger of the break snapshot option (R10). The
held-back character is dropped and the receiver waits for RXD to return to mark. -/
def detectBreak (l : LineNo) (s : State) : State :=
  let t := s.modLine l fun u =>
    { u with
      counters := { u.counters with breaksIn := u.counters.breaksIn + 1 }
      rx := .awaitMark
      rxd := .space }
  optionTrigger l .breakIn (s.line l).record.breakSnapshot (raisePlain l .breakIn (appendMark l .breakIn 0 t))

/-- BREAK_IN (R10): one for each continuous space, so none while the receiver waits for mark. -/
def execBreakIn (line : LineNo) (s : State) : Host.Outcome State Fault Refusal :=
  .next
    (if (s.line line).state = .live ∧ (s.line line).rx ≠ .awaitMark then upGrant (detectBreak line s) else s)

/-- What a mark-to-space edge leaves on RXD, by the sample at mid start bit (R9). -/
def edgeLevel (stillSpace : Bool) : Level := if stillSpace then .space else .mark

/-- A line at a mark-to-space edge of RXD: a LIVE receiver that waits at mark begins a character, or takes the edge for
noise (R9); one that assembles a character goes on with it while the level of the pin changes (R9, R11); in OFF, QUEUED,
DARK and LOOP only the level changes; in MEASURING the edges belong to the Rate Probe and come by MEASURE_EDGE (R1,
assumption log 5). -/
def Line.atStartEdge (u : Line) (stillSpace : Bool) : Line :=
  match u.state with
  | .live =>
    match u.rx with
    | .waiting =>
      { u with
        rxd := edgeLevel stillSpace
        rx := if stillSpace then .assembling u.record.framing else .waiting }
    | .assembling _ => { u with rxd := edgeLevel stillSpace }
    | .awaitMark => u
  | .measuring => u
  | .off | .queued | .dark | .loop => { u with rxd := edgeLevel stillSpace }

/-- START_EDGE (R9). -/
def execStartEdge (line : LineNo) (stillSpace : Bool) (s : State) : Host.Outcome State Fault Refusal :=
  .next (s.modLine line fun u => u.atStartEdge stillSpace)

/-- RXD_RETURN_TO_MARK (R10, R11). -/
def execRxdReturnToMark (line : LineNo) (s : State) : Host.Outcome State Fault Refusal :=
  .next (s.modLine line Line.atReturnToMark)

/-- The framing of the character that comes back in a loopback test: that of the one being sent (R19, R22). -/
def Line.loopFraming (u : Line) : Framing :=
  match u.tx with
  | .pattern _ f => f
  | .idle | .byte _ _ | .breakSpace _ | .breakMark _ | .probe _ _ => u.record.framing

/-- A received character matches its pattern byte (R19). -/
def LoopTest.matchesNext (t : LoopTest) (f : Framing) (data : Byte) (parityBit stopBit : Bool) : Bool :=
  stopBit && !f.parityError data parityBit && decide (t.pattern[t.received]? = some (f.capturedByte data))

/-- A test after one more received character (R19). -/
def LoopTest.afterCharacter (t : LoopTest) (good : Bool) : LoopTest :=
  { t with
    received := t.received + 1
    matched := if good then t.matched + 1 else t.matched
    firstMismatch := if good then t.firstMismatch else some (t.firstMismatch.getD t.received) }

/-- Every pattern byte was sent and as many characters were received (R19, assumption log 16). -/
def LoopTest.allBack (t : LoopTest) : Bool := decide (t.sent = t.pattern.length ∧ t.received = t.sent)

/-- A looped character reaches the receiver of a line under test (R19). -/
def loopReceive (l : LineNo) (t : LoopTest) (data : Byte) (parityBit stopBit : Bool) (s : State) : State :=
  let t' := t.afterCharacter (t.matchesNext (s.line l).loopFraming data parityBit stopBit)
  if t'.allBack then upGrant (completeTest l t' s) else s.modLine l fun u => { u with test := some t' }

/-- LOOP_CHARACTER_RECEIVED (R19): at most the characters sent and the one in transmission can be received. -/
def execLoopCharacterReceived (line : LineNo) (data : Byte) (parityBit stopBit : Bool) (s : State) :
    Host.Outcome State Fault Refusal :=
  .next
    (match (s.line line).test with
    | none => s
    | some t =>
      if t.received < t.pattern.length ∧ t.received ≤ t.sent then loopReceive line t data parityBit stopBit s else s)

end Sys2Proof.Machine
end

