-- ==== Sys2Proof/Machine/SessionRequests.lean ====
section
/-! DEFINITION. The requests of sessions: OPEN (R110, R111), CLOSE (R112), SEEK (R113), CREDIT (R114), FLOOR REQUEST (R129,
R130), FLOOR RELEASE (R134), TYPE (R141, R142), SEND BREAK (R143). -/

namespace Sys2Proof.Machine

/-- The record that a passing OPEN sets (R111). -/
def openRecord (rq : Request) (o : OpenOperands) (cursor gather : Nat) (s : State) : Session :=
  { isOpen := true, origin := rq.origin, line := o.line, role := o.role, cls := o.cls, cursor, credit := o.credit,
    gather, gap := 0, lost := 0, lastHeard := s.unitTime, keepLeft := s.keepFull }

/-- OPEN's own part: the checks in the order of R110, then the lowest FREE record set (R111). -/
def openSession (rq : Request) (s : State) : Answer :=
  match readOpen rq.body with
  | none => refuse .openSession rq .outOfRange s
  | some o =>
    if o.cls = .supervisor ∧ s.supervises rq.origin = false then refuse .openSession rq .denied s
    else
      match s.freeSession? with
      | none => refuse .openSession rq .noSlot s
      | some i =>
        let ring := (s.line o.line).ring
        let cursor := ring.positionOf o.position
        let gather := readGather o.gather
        Answer.of (okOr (cursor.clamped || gather.clamped))
          (beBytes 1 i.val ++ beBytes 6 ring.oldest ++ beBytes 6 ring.newest ++ beBytes 6 cursor.val)
          (s.setSession i (openRecord rq o cursor.val gather.val s))

/-- Close a session: its standing at the floor first, then its record FREE (R112, R116, R135). -/
def closeRecord (i : SessionNo) (reason : Option LostReason) (s : State) : State :=
  (leaveFloor i reason s).setSession i .reset

/-- Do a session request on the session its header names, which the engine has checked (R109). -/
def onSession (k : RequestKind) (rq : Request) (s : State) (own : SessionNo → Answer) : Answer :=
  match rq.sessionNo with
  | none => refuse k rq .noSession s
  | some i => own i

/-- CLOSE's own part (R112). -/
def closeSession (rq : Request) (s : State) : Answer :=
  onSession .closeSession rq s fun i =>
    let r := s.session i
    Answer.of .ok (beBytes 1 i.val ++ beBytes 6 r.cursor ++ beBytes 4 r.lost) (closeRecord i none s)

/-- SEEK's own part (R113). -/
def seek (rq : Request) (s : State) : Answer :=
  onSession .seek rq s fun i =>
    match Position.ofCode (numAt rq.body 0 1) (numAt rq.body 1 6) with
    | none => refuse .seek rq .outOfRange s
    | some p =>
      let r := s.session i
      let ring := (s.line r.line).ring
      let cursor := ring.positionOf p
      Answer.of (okOr cursor.clamped)
        (beBytes 6 ring.oldest ++ beBytes 6 ring.newest ++ beBytes 6 cursor.val ++ beBytes 2 r.credit
          ++ beBytes 4 r.gap ++ beBytes 4 r.lost ++ beBytes 4 r.lastHeard.toNat)
        (s.setSession i { r with cursor := cursor.val })

/-- CREDIT's own part: the sum saturates; there is no response (R114). -/
def credit (rq : Request) (s : State) : Answer :=
  match rq.sessionNo with
  | none => { reply := none, state := dropCredit s }
  | some i =>
    { reply := none
      state := s.modSession i fun r => { r with credit := min 65535 (r.credit + numAt rq.body 0 2) } }

/-- Why a FLOOR REQUEST by a TYPE session is not taken on its line, if it is not (R129). -/
def Line.floorShut (u : Line) : Option Status :=
  match u.state with
  | .off => some .lineOff
  | .dark => some .notLive
  | .loop =>
    match u.test with
    | none => none
    | some t => match t.prior with | .off => some .lineOff | .live => none
  | .live | .queued | .measuring => none

/-- FLOOR REQUEST's own part: a takeover flag outside its set, then the checks of R129, then R130 (assumption log 14). -/
def floorRequest (rq : Request) (s : State) : Answer :=
  onSession .floorRequest rq s fun i =>
    let r := s.session i
    match flagOf (numAt rq.body 0 1) with
    | none => refuse .floorRequest rq .outOfRange s
    | some takeover =>
      if r.role = .watcher then refuse .floorRequest rq .denied s
      else
        match (s.line r.line).floorShut with
        | some st => refuse .floorRequest rq st s
        | none =>
          let a := settleRequest r.line i takeover s
          Answer.of a.status (a.state.floorReport i) a.state

/-- FLOOR RELEASE's own part (R134). -/
def floorRelease (rq : Request) (s : State) : Answer :=
  onSession .floorRelease rq s fun i =>
    let t := leaveFloor i none s
    Answer.of .ok (t.floorReport i) t

/-- The session may type on a floor: it is the holder or the parked session (R142). -/
def FloorState.admits (f : FloorState) (i : SessionNo) : Bool := decide (f = .held i) || decide (f = .parked i)

/-- The bytes of an accepted TYPE: a parked session becomes holder, the idle timer starts afresh, the bytes join the
injection queue and the head element may start (R138, R141, R142). -/
def typeInto (l : LineNo) (i : SessionNo) (bytes : List Byte) (s : State) : State :=
  let t := if (s.line l).floor.state = .parked i then becomeHolder l i s else s
  startElement l (injectBytes l bytes (restartIdle l t))

/-- TYPE's own part: the checks in the order of R142. -/
def typeBytes (rq : Request) (s : State) : Answer :=
  onSession .typeBytes rq s fun i =>
    let l := (s.session i).line
    let u := s.line l
    let count := numAt rq.body 0 2
    if count = 0 ∨ 512 < count then refuse .typeBytes rq .outOfRange s
    else if u.floor.state.admits i = false then refuse .typeBytes rq .notHolder s
    else if u.state ≠ .live then refuse .typeBytes rq .notLive s
    else
      let accepted := min count u.room
      Answer.of (if accepted = count then .ok else .partTaken) (beBytes 2 accepted)
        (typeInto l i (slice rq.body 2 count) s)

/-- The break policy allows the holder to send a break (R143). -/
def BreakPolicy.allows (p : BreakPolicy) (c : SessionClass) : Bool :=
  match p with
  | .forbid => false
  | .holder => true
  | .supervisor => decide (c = .supervisor)

/-- SEND BREAK's own part: the checks in the order of R143. -/
def sendBreak (rq : Request) (s : State) : Answer :=
  onSession .sendBreak rq s fun i =>
    let r := s.session i
    let u := s.line r.line
    let ms := clamp 50 2000 (numAt rq.body 0 2)
    if u.floor.state ≠ .held i then refuse .sendBreak rq .notHolder s
    else if u.record.breakPolicy.allows r.cls = false then refuse .sendBreak rq .denied s
    else if u.state ≠ .live then refuse .sendBreak rq .notLive s
    else if u.room = 0 then refuse .sendBreak rq .noRoom s
    else
      Answer.of (okOr ms.clamped) (beBytes 2 ms.val)
        (startElement r.line
          ((restartIdle r.line s).modLine r.line fun v => { v with injection := v.injection ++ [.brk ms.val] }))

/-- OPEN (R110). -/
def execOpenSession (s : State) : Host.Outcome State Fault Refusal := .next (serve .openSession openSession s)

/-- CLOSE (R112). -/
def execCloseSession (s : State) : Host.Outcome State Fault Refusal := .next (serve .closeSession closeSession s)

/-- SEEK (R113). -/
def execSeek (s : State) : Host.Outcome State Fault Refusal := .next (serve .seek seek s)

/-- CREDIT (R114). -/
def execCredit (s : State) : Host.Outcome State Fault Refusal := .next (serve .credit credit s)

/-- FLOOR_REQUEST (R130). -/
def execFloorRequest (s : State) : Host.Outcome State Fault Refusal := .next (serve .floorRequest floorRequest s)

/-- FLOOR_RELEASE (R134). -/
def execFloorRelease (s : State) : Host.Outcome State Fault Refusal := .next (serve .floorRelease floorRelease s)

/-- TYPE (R142). -/
def execTypeBytes (s : State) : Host.Outcome State Fault Refusal := .next (serve .typeBytes typeBytes s)

/-- SEND_BREAK (R143). -/
def execSendBreak (s : State) : Host.Outcome State Fault Refusal := .next (serve .sendBreak sendBreak s)

end Sys2Proof.Machine
end

