-- ==== Sys2Proof/Machine/SnapshotRequests.lean ====
section
/-! DEFINITION. The requests on the Snapshot Store: SNAPSHOT LIST (R103), READ (R104), FREE (R105), TAKE (R102). -/

namespace Sys2Proof.Machine

/-- SNAPSHOT LIST's own part (R103, section 11.3). -/
def snapshotList (_rq : Request) (s : State) : Answer :=
  Answer.of .ok
    (s.slots.toList.flatMap Slot.bytes ++ beBytes 1 s.unit.policy.code ++ beBytes 1 s.unit.fillLimit ++ zeros 2) s

/-- SNAPSHOT READ's own part: bytes of a slot's data from a data offset (R104, section 11.3). -/
def snapshotRead (rq : Request) (s : State) : Answer :=
  match slotOf? (numAt rq.body 0 1) with
  | none => refuse .snapshotRead rq .outOfRange s
  | some k =>
    let r := s.slot k
    let start := numAt rq.body 1 2
    let length := clamp 0 Config.payloadBytes (numAt rq.body 3 2)
    let bytes := slice r.data start length.val
    Answer.of (okOr length.clamped)
      (beBytes 1 r.state.code ++ beBytes 1 r.line.val ++ beBytes 6 r.offset ++ beBytes 2 r.preHeld
        ++ beBytes 2 start ++ beBytes 2 bytes.length ++ bytes)
      s

/-- SNAPSHOT FREE's own part, by the slot's state (R105). -/
def snapshotFree (rq : Request) (s : State) : Answer :=
  match slotOf? (numAt rq.body 0 1) with
  | none => refuse .snapshotFree rq .outOfRange s
  | some k =>
    match (s.slot k).state with
    | .complete => Answer.of .ok [] (s.setSlot k .reset)
    | .filling => refuse .snapshotFree rq .busy s
    | .free => Answer.of .ok [] s

/-- The trigger of a SNAPSHOT TAKE that passed its checks, with the answer to how it was settled (R98, R102). -/
def takeSnapshot (l : LineNo) (pre post : Clamped Nat) (s : State) : Answer :=
  let g : Trigger := { line := l, cause := .request, pre := pre.val, post := post.val, others := 0 }
  let t := fireTrigger g s
  match s.settleTrigger g with
  | .taken k =>
    Answer.of (okOr (pre.clamped || post.clamped || decide (g.reducedPost ≠ g.post))) (beBytes 1 k.val) t
  | .filling k => Answer.of .busy (beBytes 1 k.val) t
  | .missed => Answer.of .noRoom (beBytes 1 255) t

/-- SNAPSHOT TAKE's own part (R102). -/
def snapshotTake (rq : Request) (s : State) : Answer :=
  onLine .snapshotTake rq s fun l =>
    match (s.line l).state with
    | .off => refuse .snapshotTake rq .lineOff s
    | .queued | .measuring | .dark | .loop => refuse .snapshotTake rq .notLive s
    | .live =>
      takeSnapshot l (clamp 0 Config.slotBytes (numAt rq.body 1 2)) (clamp 0 Config.slotBytes (numAt rq.body 3 2)) s

/-- SNAPSHOT_LIST (R103). -/
def execSnapshotList (s : State) : Host.Outcome State Fault Refusal := .next (serve .snapshotList snapshotList s)

/-- SNAPSHOT_READ (R104). -/
def execSnapshotRead (s : State) : Host.Outcome State Fault Refusal := .next (serve .snapshotRead snapshotRead s)

/-- SNAPSHOT_FREE (R105). -/
def execSnapshotFree (s : State) : Host.Outcome State Fault Refusal := .next (serve .snapshotFree snapshotFree s)

/-- SNAPSHOT_TAKE (R102). -/
def execSnapshotTake (s : State) : Host.Outcome State Fault Refusal := .next (serve .snapshotTake snapshotTake s)

end Sys2Proof.Machine
end

