-- ==== Sys2Proof/Machine/TableRequests.lean ====
section
/-! DEFINITION. The requests on tables: RATE TABLE READ and SET (R42, R43), MONITOR READ and SET (R77, R76), WATCH READ and
SET (R93, R91). -/

namespace Sys2Proof.Machine

/-- RATE TABLE READ's own part (R42, section 11.3). -/
def rateTableRead (_rq : Request) (s : State) : Answer :=
  Answer.of .ok (s.rates.toList.flatMap (beBytes 4) ++ beBytes 1 s.unit.tolerance) s

/-- A table is empty at an index that some line record names (R43). -/
def State.emptiesNamed (s : State) (table : Vector Nat 16) : Bool :=
  (List.finRange 24).any fun l =>
    let r := (s.line l).record
    decide (table[r.fixedIndex.val] = 0) || decide (table[r.fallbackIndex.val] = 0)

/-- RATE TABLE SET's own part: the checks in the order of R43, then the whole table replaced. -/
def rateTableSet (rq : Request) (s : State) : Answer :=
  let table := readRates rq.body
  if table.toList.all rateGood = false then refuse .rateTableSet rq .outOfRange s
  else if s.emptiesNamed table then refuse .rateTableSet rq .busy s
  else Answer.of .ok [] { s with rates := table }

/-- MONITOR READ's own part (R77, section 11.3). -/
def monitorRead (rq : Request) (s : State) : Answer :=
  onLine .monitorRead rq s fun l =>
    let u := s.line l
    Answer.of .ok (beBytes 1 l.val ++ u.params.bytes ++ u.monitor.bytes) s

/-- MONITOR SET's own part: the same values for every line of the set; an empty set is answered OK whatever the values
(R76). -/
def monitorSet (rq : Request) (s : State) : Answer :=
  match readLineSet (numAt rq.body 0 4) with
  | none => refuse .monitorSet rq .outOfRange s
  | some set =>
    let p := readMonitorParams (rq.body.drop 4)
    Answer.of (if set = 0 then .ok else okOr p.clamped) []
      (s.mapLines fun l u => if set.getLsbD l.val then { u with params := p.val } else u)

/-- WATCH READ's own part (R93, section 11.3). -/
def watchRead (rq : Request) (s : State) : Answer :=
  match entryOf? (numAt rq.body 0 1) with
  | none => refuse .watchRead rq .outOfRange s
  | some i =>
    Answer.of .ok
      (beBytes 1 i.val ++ (s.entry i).bytes
        ++ (List.finRange 24).flatMap fun l => ((s.line l).pair i).bytes)
      s

/-- Replace a watch entry: its counts are cleared and its holdoffs stopped on every line (R91). -/
def replaceEntry (i : EntryNo) (e : WatchEntry) (s : State) : State :=
  State.mapLines (s.setEntry i e) fun _ u => u.setPair i .reset

/-- WATCH SET's own part (R91). -/
def watchSet (rq : Request) (s : State) : Answer :=
  match entryOf? (numAt rq.body 0 1) with
  | none => refuse .watchSet rq .outOfRange s
  | some i =>
    match readWatchEntry (rq.body.drop 1) with
    | none => refuse .watchSet rq .outOfRange s
    | some c => Answer.of (okOr c.clamped) [] (replaceEntry i c.val s)

/-- RATE_TABLE_READ (R42). -/
def execRateTableRead (s : State) : Host.Outcome State Fault Refusal := .next (serve .rateTableRead rateTableRead s)

/-- RATE_TABLE_SET (R43). -/
def execRateTableSet (s : State) : Host.Outcome State Fault Refusal := .next (serve .rateTableSet rateTableSet s)

/-- MONITOR_READ (R77). -/
def execMonitorRead (s : State) : Host.Outcome State Fault Refusal := .next (serve .monitorRead monitorRead s)

/-- MONITOR_SET (R76). -/
def execMonitorSet (s : State) : Host.Outcome State Fault Refusal := .next (serve .monitorSet monitorSet s)

/-- WATCH_READ (R93). -/
def execWatchRead (s : State) : Host.Outcome State Fault Refusal := .next (serve .watchRead watchRead s)

/-- WATCH_SET (R91). -/
def execWatchSet (s : State) : Host.Outcome State Fault Refusal := .next (serve .watchSet watchSet s)

end Sys2Proof.Machine
end

