-- ==== Sys2Proof/Machine/TimerEvents.lean ====
section
/-! DEFINITION. The expiries of the blocks' timers: sample timer and error streak (R61, R39), burst timeout (R70),
holdoff (R82), fill limit (R101), gather timer (R120), keep timer (R116), floor idle timer (R140), attendance (R171). An
expiry whose timer does not run, or has time left, changes nothing (assumption logs 1, 3). -/

namespace Sys2Proof.Machine

/-- The errors of an interval make the streak rise (R39). -/
def streakRises (n e : Nat) : Bool := decide (max 4 (n / 8) ≤ e)

/-- The error streak after an expiry with the counts of its interval (R39). -/
def Line.judgedStreak (u : Line) (n e : Nat) : Nat :=
  if u.record.policy = .auto ∧ u.record.streakLimit ≠ 0 ∧ streakRises n e = true then u.streak + 1 else 0

/-- A LIVE line has lost its rate: marked, raised, out of LIVE, to the tail of the probe queue (R39). -/
def loseRate (l : LineNo) (s : State) : State :=
  probeTake (joinProbe l (exitLive l (raisePlain l .rateLost (appendMark l .rateLost 0 s))))

/-- The Line Unit judges the error streak at an expiry (R39). A streak at or above the limit loses the rate. -/
def judgeStreak (l : LineNo) (n e : Nat) (s : State) : State :=
  let streak := (s.line l).judgedStreak n e
  let t := s.modLine l fun u => { u with streak := streak }
  if 0 < streak ∧ (s.line l).record.streakLimit ≤ streak then loseRate l t else t

/-- The next interval begins: its counts are 0 and its expiry falls 100 ms from now (R61). -/
def nextInterval (l : LineNo) (s : State) : State :=
  s.modLine l fun u => { u with monitor := { u.monitor with chars := 0, errors := 0, sampleLeft := some 100 } }

/-- A sample expiry of a LIVE line (R61): the monitor's steps, then the streak, judged on the interval's counts. -/
def sampleLine (l : LineNo) (s : State) : State :=
  let m := (s.line l).monitor
  judgeStreak l m.chars m.errors (nextInterval l (monitorExpiry l s))

/-- SAMPLE_EXPIRY (R61). -/
def execSampleExpiry (line : LineNo) (s : State) : Host.Outcome State Fault Refusal :=
  .next
    (if (s.line line).state = .live ∧ ranOut (s.line line).monitor.sampleLeft = true then upGrant (sampleLine line s)
    else s)

/-- BURST_TIMEOUT (R70). -/
def execBurstTimeout (line : LineNo) (s : State) : Host.Outcome State Fault Refusal :=
  .next
    (if ranOut (s.line line).monitor.burstLeft = true ∧ (s.line line).monitor.state.bursting = true then
      upGrant (burstTimesOut line s)
    else s)

/-- HOLDOFF_EXPIRY (R82): the entry is considered again on the line, its hit count kept. -/
def execHoldoffExpiry (entry : EntryNo) (line : LineNo) (s : State) : Host.Outcome State Fault Refusal :=
  .next
    (if ranOut ((s.line line).pair entry).holdoff = true then
      s.modLine line fun u => u.setPair entry { u.pair entry with holdoff := none }
    else s)

/-- FILL_LIMIT_EXPIRY (R101). -/
def execFillLimitExpiry (slot : SlotNo) (s : State) : Host.Outcome State Fault Refusal :=
  .next
    (if (s.slot slot).state = .filling ∧ ranOut (s.slot slot).fillLeft = true then upGrant (completeSlot slot true s)
    else s)

/-- GATHER_TIMER_EXPIRY (R120): the line is settled, which may make sessions ready. -/
def execGatherTimerExpiry (line : LineNo) (s : State) : Host.Outcome State Fault Refusal :=
  .next
    (if endsThisMs (s.line line).gather = true then
      upGrant (s.modLine line fun u => { u with settled := true, gather := none })
    else s)

/-- KEEP_TIMER_EXPIRY (R116): the session is closed with cause EXPIRED. -/
def execKeepTimerExpiry (session : SessionNo) (s : State) : Host.Outcome State Fault Refusal :=
  .next
    (if (s.session session).isOpen = true ∧ ranOut (s.session session).keepLeft = true then
      upGrant (closeRecord session (some .expired) s)
    else s)

/-- The floor that an idle holder leaves when nobody waits, by the park mode at the expiry (R140). -/
def ParkMode.leaves (p : ParkMode) (holder : SessionNo) : FloorState :=
  match p with
  | .none => .free
  | .last => .parked holder

/-- IDLE_EXPIRY (R140). -/
def execIdleExpiry (line : LineNo) (s : State) : Host.Outcome State Fault Refusal :=
  .next
    (match (s.line line).floor.state, (s.line line).floor.idle with
    | .held h, .running 0 =>
      upGrant (releaseHeld line h (some .idle) ((s.line line).record.parkMode.leaves h) s)
    | _, _ => s)

/-- An attendance lapse: UNATTENDED, counted, raised, every floor freed in ascending line order, every LIVE line flushed
(R171, R144, R17). -/
def lapse (s : State) : State :=
  let t := raiseUnit .attendLapse
    { s with attendance := { state := .unattended, left := none, lapses := s.attendance.lapses + 1 } }
  (t.forLines fun l => clearFloor l .attendance).mapLines fun _ u => u.flushed

/-- ATTENDANCE_EXPIRY (R171). -/
def execAttendanceExpiry (s : State) : Host.Outcome State Fault Refusal :=
  .next
    (if s.attendance.state = .attended ∧ ranOut s.attendance.left = true then upGrant (lapse s) else s)

end Sys2Proof.Machine
end

