-- ==== Sys2Proof/Machine/TransmitEvents.lean ====
section
/-! DEFINITION. The events of a line's transmitter: elements that end (R14, R15), the pacing gap (R15), the hold (R16),
and the pattern bytes of a loopback test (R19). An event that cannot occur in the state it meets changes nothing
(assumption log 1), nor does an expiry whose timer has time left (assumption log 3). -/

namespace Sys2Proof.Machine

/-- The gap after a BYTE: the character gap, and the line gap too after CR (R15). -/
def LineRecord.gapAfter (r : LineRecord) (b : Byte) : Nat := if b = crByte then r.charGap + r.lineGap else r.charGap

/-- The stop bits of a BYTE complete: it is counted and its gap begins (R12, R15). -/
def byteDone (l : LineNo) (b : Byte) (s : State) : State :=
  beginGap l ((s.line l).record.gapAfter b)
    (s.modLine l fun u =>
      { u with counters := { u.counters with bytesTransmitted := u.counters.bytesTransmitted + 1 } })

/-- BYTE_TRANSMITTED (R15). -/
def execByteTransmitted (line : LineNo) (s : State) : Host.Outcome State Fault Refusal :=
  .next
    (match (s.line line).tx with
    | .byte b _ => byteDone line b s
    | .idle | .breakSpace _ | .breakMark _ | .probe _ _ | .pattern _ _ => s)

/-- The trailing mark time of a BREAK: a character time of the line's current framing and rate (R14). -/
def Line.breakMarkTime (u : Line) : Nat :=
  match u.current with
  | none => 0
  | some r => charTime u.record.framing r.rate

/-- BREAK_SPACE_END (R14): the space has lasted the BREAK's duration, and TXD goes to mark for a character time. Before
that the space goes on. -/
def execBreakSpaceEnd (line : LineNo) (s : State) : Host.Outcome State Fault Refusal :=
  .next
    (match (s.line line).tx with
    | .breakSpace left =>
      if ranOut (some left) = true then s.modLine line fun u => { u with tx := .breakMark u.breakMarkTime } else s
    | .idle | .byte _ _ | .breakMark _ | .probe _ _ | .pattern _ _ => s)

/-- BREAK_OUT_END (R14): the trailing mark has lasted its character time, the BREAK element ends and the character gap
begins. Before that the mark goes on, and in the space of the BREAK the element has not come to its mark. -/
def execBreakOutEnd (line : LineNo) (s : State) : Host.Outcome State Fault Refusal :=
  .next
    (match (s.line line).tx with
    | .breakMark left =>
      if endsThisMs (some left) = true then beginGap line (s.line line).record.charGap s else s
    | .idle | .byte _ _ | .breakSpace _ | .probe _ _ | .pattern _ _ => s)

/-- PACING_GAP_EXPIRY (R15). -/
def execPacingGapExpiry (line : LineNo) (s : State) : Host.Outcome State Fault Refusal :=
  .next
    (if (s.line line).state = .live ∧ ranOut (s.line line).gap = true then
      startElement line (s.modLine line fun u => { u with gap := none })
    else s)

/-- HOLD_EXPIRY (R16): the hold no longer runs by unit time. -/
def execHoldExpiry (line : LineNo) (s : State) : Host.Outcome State Fault Refusal :=
  .next
    (if (s.line line).hold.isSome = true ∧ (s.line line).held s.unitTime = false then
      startElement line (s.modLine line fun u => { u with hold := none })
    else s)

/-- A pattern byte's stop bits complete: the next byte follows at once; after the last, the test completes when every
character came back, or waits four character times for the rest (R19). DESIGN CHOICE (assumption log 31): a byte counts as
sent, for the response of an aborted test too, when its stop bits complete. -/
def patternSent (l : LineNo) (t : LoopTest) (s : State) : State :=
  let f := (s.line l).record.framing
  let t' := { t with sent := t.sent + 1 }
  if t'.sent < t.pattern.length then
    s.modLine l fun u => { u with test := some t', tx := t'.transmit f }
  else if t'.received = t'.sent then upGrant (completeTest l t' s)
  else
    s.modLine l fun u => { u with test := some { t' with wait := some (4 * charTime f t.rate) }, tx := .idle }

/-- PATTERN_BYTE_SENT (R19). -/
def execPatternByteSent (line : LineNo) (s : State) : Host.Outcome State Fault Refusal :=
  .next
    (match (s.line line).tx, (s.line line).test with
    | .pattern _ _, some t => patternSent line t s
    | _, _ => s)

/-- LOOP_TEST_TIMEOUT (R19). -/
def execLoopTestTimeout (line : LineNo) (s : State) : Host.Outcome State Fault Refusal :=
  .next
    (match (s.line line).test with
    | none => s
    | some t => if endsThisMs t.wait = true then upGrant (completeTest line t s) else s)

end Sys2Proof.Machine
end

