-- ==== Sys2Proof/Machine/UnitRequests.lean ====
section
/-! DEFINITION. The requests on the unit: UNIT STATUS (R167), UNIT SET (R165), SET TIME (R166), UNIT RESET (R168), EVENTS
READ (R152), and the answer to a kind the unit does not carry out (R161). -/

namespace Sys2Proof.Machine

/-- The response body of UNIT STATUS, 102 bytes (R167, section 11.3). The request input queue is counted as the taking of
the request left it (DESIGN CHOICE, assumption log 39). -/
def State.statusBytes (s : State) : List Byte :=
  beBytes 2 0x2410 ++ beBytes 1 1 ++ beBytes 1 s.unitNumber.toNat ++ beBytes 1 (flagCode s.upLink)
    ++ beBytes 1 (flagCode s.downLink) ++ beBytes 1 s.attendance.state.code ++ zeros 1 ++ s.unit.bytes
    ++ beBytes 4 (s.attendance.left.getD 0) ++ beBytes 4 s.attendance.lapses.toNat ++ beBytes 4 s.unitTime.toNat
    ++ s.counters.bytes ++ beBytes 1 s.downQueue.length ++ beBytes 1 s.upQueue.length
    ++ beBytes 1 s.requests.length ++ beBytes 1 (s.responses.length + s.heldPlaces)

/-- UNIT STATUS's own part. -/
def unitStatus (_rq : Request) (s : State) : Answer := Answer.of .ok s.statusBytes s

/-- Apply a unit record that passed its checks: a changed period starts attendance afresh (R170), a changed session
keep acts on every OPEN session (R115); the other fields are read by their blocks (R165). -/
def applyUnit (new : UnitRecord) (s : State) : State :=
  let t := { s with unit := new }
  let t := if new.period ≠ s.unit.period then { t with attendance := t.attendance.started new.period } else t
  if new.keep ≠ s.unit.keep then
    t.mapSessions fun _ r => if r.isOpen then { r with keepLeft := t.keepFull } else r
  else t

/-- UNIT SET's own part (R165). -/
def unitSet (rq : Request) (s : State) : Answer :=
  match readUnitRecord rq.body with
  | none => refuse .unitSet rq .outOfRange s
  | some c => Answer.of (okOr c.clamped) [] (applyUnit c.val s)

/-- A SET TIME leaves a line's hold running, or ends it and the head element may start (R16, R166). -/
def settleHold (l : LineNo) (s : State) : State :=
  let u := s.line l
  if u.hold.isSome && !u.held s.unitTime then startElement l (s.setLine l { u with hold := none }) else s

/-- SET TIME's own part (R166). -/
def setTime (rq : Request) (s : State) : Answer :=
  let value := numAt rq.body 0 4
  Answer.of .ok (beBytes 4 s.unitTime.toNat ++ beBytes 4 value)
    (State.forLines { s with unitTime := BitVec.ofNat 32 value } settleHold)

/-- UNIT RESET's own part: answered OK; the reset waits until the response has left the UP port (R168). -/
def unitReset (_rq : Request) (s : State) : Answer :=
  { reply := some { status := .ok, body := [], resets := true }, state := { s with resetPhase := .answered } }

/-- The response body of EVENTS READ (R152, section 11.3). -/
def eventsBytes (scope kinds watches reasons : Nat) (outcome : AlertOutcome) : List Byte :=
  beBytes 1 scope ++ beBytes 2 kinds ++ beBytes 8 watches ++ beBytes 1 reasons ++ beBytes 1 outcome.code

/-- EVENTS READ's own part: the summary of the scope is returned and cleared (R152). -/
def eventsRead (rq : Request) (s : State) : Answer :=
  let scope := numAt rq.body 0 1
  if scope = unitScope then
    let m := s.unitSummary
    Answer.of .ok (eventsBytes scope m.kinds.toNat 0 0 m.outcome)
      { s with unitSummary := { kinds := 0, outcome := .none } }
  else
    match lineOf? scope with
    | none => refuse .eventsRead rq .outOfRange s
    | some l =>
      let m := (s.line l).summary
      Answer.of .ok (eventsBytes scope m.kinds.toNat m.watches.toNat m.reasons.toNat m.outcome)
        (s.modLine l fun u => { u with summary := .reset })

/-- UNIT_STATUS (R167). -/
def execUnitStatus (s : State) : Host.Outcome State Fault Refusal := .next (serve .unitStatus unitStatus s)

/-- UNIT_SET (R165). -/
def execUnitSet (s : State) : Host.Outcome State Fault Refusal := .next (serve .unitSet unitSet s)

/-- SET_TIME (R166). -/
def execSetTime (s : State) : Host.Outcome State Fault Refusal := .next (serve .setTime setTime s)

/-- UNIT_RESET (R168). -/
def execUnitReset (s : State) : Host.Outcome State Fault Refusal := .next (serve .unitReset unitReset s)

/-- EVENTS_READ (R152). -/
def execEventsRead (s : State) : Host.Outcome State Fault Refusal := .next (serve .eventsRead eventsRead s)

/-- UNKNOWN_KIND_REQUEST (R161): the request at the head of the input queue has a kind the unit does not carry out. -/
def execUnknownKindRequest (s : State) : Host.Outcome State Fault Refusal :=
  .next
    (match s.requests with
    | [] => s
    | f :: rest =>
      if RequestKind.ofCode (frameKind f) = none ∧ s.mayTake .unitStatus = true then
        let rq := Request.ofFrame f
        upGrant (deliver rq (Answer.of .unknownKind [] (greet rq { s with requests := rest, heldPlaces := 1 })))
      else s)

end Sys2Proof.Machine
end

