-- ==== Sys2Proof/Machine/Dispatch.lean ====
section
/-! DEFINITION. The meaning of every command: one arm for each row of spec/opcode_table.json, in the table's order. -/

namespace Sys2Proof.Machine

/-- The effect of a command on everything but the queue of waiting commands. -/
def exec (i : Instr) (s : State) : Host.Outcome State Fault Refusal :=
  match i with
  | .powerOn straps => Sys2Proof.Machine.execPowerOn straps s
  | .upLinkDown => Sys2Proof.Machine.execUpLinkDown s
  | .downLinkDown => Sys2Proof.Machine.execDownLinkDown s
  | .linkComesUp port => Sys2Proof.Machine.execLinkComesUp port s
  | .upFrameArrival frame fcsGood => Sys2Proof.Machine.execUpFrameArrival frame fcsGood s
  | .downFrameArrival frame fcsGood => Sys2Proof.Machine.execDownFrameArrival frame fcsGood s
  | .upTransmitComplete => Sys2Proof.Machine.execUpTransmitComplete s
  | .downTransmitComplete => Sys2Proof.Machine.execDownTransmitComplete s
  | .unitResetApplied => Sys2Proof.Machine.execUnitResetApplied s
  | .unitStatus => Sys2Proof.Machine.execUnitStatus s
  | .unitSet => Sys2Proof.Machine.execUnitSet s
  | .setTime => Sys2Proof.Machine.execSetTime s
  | .unitReset => Sys2Proof.Machine.execUnitReset s
  | .lineRead => Sys2Proof.Machine.execLineRead s
  | .lineSet => Sys2Proof.Machine.execLineSet s
  | .lineEnable => Sys2Proof.Machine.execLineEnable s
  | .lineDisable => Sys2Proof.Machine.execLineDisable s
  | .lineMeasure => Sys2Proof.Machine.execLineMeasure s
  | .lineTest => Sys2Proof.Machine.execLineTest s
  | .rateTableRead => Sys2Proof.Machine.execRateTableRead s
  | .rateTableSet => Sys2Proof.Machine.execRateTableSet s
  | .monitorRead => Sys2Proof.Machine.execMonitorRead s
  | .monitorSet => Sys2Proof.Machine.execMonitorSet s
  | .marksRead => Sys2Proof.Machine.execMarksRead s
  | .eventsRead => Sys2Proof.Machine.execEventsRead s
  | .watchRead => Sys2Proof.Machine.execWatchRead s
  | .watchSet => Sys2Proof.Machine.execWatchSet s
  | .snapshotList => Sys2Proof.Machine.execSnapshotList s
  | .snapshotRead => Sys2Proof.Machine.execSnapshotRead s
  | .snapshotFree => Sys2Proof.Machine.execSnapshotFree s
  | .snapshotTake => Sys2Proof.Machine.execSnapshotTake s
  | .openSession => Sys2Proof.Machine.execOpenSession s
  | .closeSession => Sys2Proof.Machine.execCloseSession s
  | .seek => Sys2Proof.Machine.execSeek s
  | .credit => Sys2Proof.Machine.execCredit s
  | .floorRequest => Sys2Proof.Machine.execFloorRequest s
  | .floorRelease => Sys2Proof.Machine.execFloorRelease s
  | .typeBytes => Sys2Proof.Machine.execTypeBytes s
  | .sendBreak => Sys2Proof.Machine.execSendBreak s
  | .unknownKindRequest => Sys2Proof.Machine.execUnknownKindRequest s
  | .characterCapture line data parityBit => Sys2Proof.Machine.execCharacterCapture line data parityBit s
  | .framingErrorCapture line data parityBit => Sys2Proof.Machine.execFramingErrorCapture line data parityBit s
  | .breakIn line => Sys2Proof.Machine.execBreakIn line s
  | .loopCharacterReceived line data parityBit stopBit => Sys2Proof.Machine.execLoopCharacterReceived line data parityBit stopBit s
  | .loopTestTimeout line => Sys2Proof.Machine.execLoopTestTimeout line s
  | .byteTransmitted line => Sys2Proof.Machine.execByteTransmitted line s
  | .breakOutEnd line => Sys2Proof.Machine.execBreakOutEnd line s
  | .pacingGapExpiry line => Sys2Proof.Machine.execPacingGapExpiry line s
  | .holdExpiry line => Sys2Proof.Machine.execHoldExpiry line s
  | .edgeCountReached edge => Sys2Proof.Machine.execEdgeCountReached edge s
  | .measureWindowExpiry => Sys2Proof.Machine.execMeasureWindowExpiry s
  | .measureBreak => Sys2Proof.Machine.execMeasureBreak s
  | .sampleExpiry line => Sys2Proof.Machine.execSampleExpiry line s
  | .burstTimeout line => Sys2Proof.Machine.execBurstTimeout line s
  | .holdoffExpiry entry line => Sys2Proof.Machine.execHoldoffExpiry entry line s
  | .fillLimitExpiry slot => Sys2Proof.Machine.execFillLimitExpiry slot s
  | .gatherTimerExpiry line => Sys2Proof.Machine.execGatherTimerExpiry line s
  | .keepTimerExpiry session => Sys2Proof.Machine.execKeepTimerExpiry session s
  | .idleExpiry line => Sys2Proof.Machine.execIdleExpiry line s
  | .attendanceExpiry => Sys2Proof.Machine.execAttendanceExpiry s
  | .measureEdge edge => Sys2Proof.Machine.execMeasureEdge edge s
  | .startEdge line stillSpace => Sys2Proof.Machine.execStartEdge line stillSpace s
  | .rxdReturnToMark line => Sys2Proof.Machine.execRxdReturnToMark line s
  | .probeCharacterEnd => Sys2Proof.Machine.execProbeCharacterEnd s
  | .patternByteSent line => Sys2Proof.Machine.execPatternByteSent line s
  | .breakSpaceEnd line => Sys2Proof.Machine.execBreakSpaceEnd line s

end Sys2Proof.Machine
end

