-- ==== Sys2Proof/Safety.lean ====
section
/-! DEFINITION. What holds of the part at every moment between two steps: the laws that the chapters state about the
state of each block, in the terms that claims use. `State.wellKept` gathers them. -/

namespace Sys2Proof.Machine

/-! ### Capture Store and sessions -/

/-- The ring of a line (R44): `oldest` is at or below `newest`, the bytes held are those between, and they fit. -/
def Line.ringLaw (u : Line) : Prop :=
  u.ring.oldest ≤ u.ring.newest ∧ u.ring.bytes.length = u.ring.held ∧ u.ring.held ≤ u.record.ringBytes

/-- The mark law (R53): at most 32 marks, each within the ring's offsets, in non-decreasing offset order. -/
def Line.markLaw (u : Line) : Prop :=
  u.marks.length ≤ Config.markCapacity ∧ (∀ m ∈ u.marks, u.ring.oldest ≤ m.offset ∧ m.offset ≤ u.ring.newest)
    ∧ u.marks.Pairwise fun a b => a.offset ≤ b.offset

/-- The law of the Capture Store: rings and marks in order, and the sizes of the twenty-four rings within 1–64 KiB and
within capture memory (R44, R49, R53). -/
def State.storeLaw (s : State) : Prop :=
  (∀ l, (s.line l).ringLaw ∧ (s.line l).markLaw ∧ 1 ≤ (s.line l).record.ringKiB ∧ (s.line l).record.ringKiB ≤ 64)
    ∧ ((List.finRange 24).map fun l => (s.line l).record.ringBytes).sum ≤ Config.captureBytes

/-- The cursor law (R117): every OPEN session's cursor is within the offsets of its line's ring. -/
def State.cursorLaw (s : State) : Prop :=
  ∀ i, (s.session i).isOpen = true →
    (s.line (s.session i).line).ring.oldest ≤ (s.session i).cursor
      ∧ (s.session i).cursor ≤ (s.line (s.session i).line).ring.newest

/-- The ranges of a session record (R108, R114); a FREE record reads the FREE values. -/
def Session.inRange (r : Session) : Prop :=
  r.credit ≤ 65535 ∧ (r.gather = 1 ∨ r.gather = 64 ∨ r.gather = 256 ∨ r.gather = 1024) ∧ r.gap < 2 ^ 32
    ∧ r.lost < 2 ^ 32 ∧ (r.isOpen = false → r = .reset)

/-! ### Line Units, Rate Probe, Activity Monitor -/

/-- What a transmitter may be doing in each line state (R1). -/
def Line.txLaw (u : Line) : Prop :=
  match u.state, u.tx with
  | _, .idle => True
  | .live, .byte _ _ | .live, .breakSpace _ | .live, .breakMark _ => True
  | .measuring, .probe _ _ => True
  | .loop, .pattern _ _ => True
  | _, _ => False

/-- A line in a state other than LIVE: no queue, no hold, a QUIET monitor without expiries or counts, no gather timer
(R1, R60, R62, R120). -/
def Line.stillLaw (u : Line) : Prop :=
  u.state ≠ .live →
    u.injection = [] ∧ u.hold = none ∧ u.monitor.state = .quiet ∧ u.monitor.count = 0 ∧ u.monitor.sampleLeft = none
      ∧ u.monitor.burstLeft = none ∧ u.monitor.chars = 0 ∧ u.monitor.errors = 0 ∧ u.gather = none

/-- The state of a line and what it decides (R1, R3, R4, R18, R61, R120). -/
def Line.stateLaw (u : Line) : Prop :=
  (u.test.isSome = true ↔ u.state = .loop) ∧ (u.current.isSome = true ↔ u.state = .live)
    ∧ (u.state = .live → u.monitor.sampleLeft.isSome = true) ∧ u.stillLaw ∧ u.txLaw
    ∧ u.settled = u.gather.isNone

/-- The probe queue and the engine (R25, R27): the lines of the queue are the QUEUED lines, each once; the engine holds
the MEASURING line, under a number given out before (assumption log 34); and it is idle only when nobody waits. -/
def State.probeLaw (s : State) : Prop :=
  s.probeQueue.Nodup ∧ (∀ l, l ∈ s.probeQueue ↔ (s.line l).state = .queued)
    ∧ (∀ l, (s.line l).state = .measuring ↔ s.engine.any (fun m => decide (m.line = l)) = true)
    ∧ (∀ m, s.engine = some m → m.number < s.begun) ∧ (s.engine = none → s.probeQueue = [])

/-- The lines' states and the probe queue together. -/
def State.linesLaw (s : State) : Prop := (∀ l, (s.line l).stateLaw) ∧ s.probeLaw

/-- The ranges of a monitor record (R60, R69). -/
def Monitor.inRange (m : Monitor) : Prop :=
  m.fast ≤ 65535 ∧ m.long ≤ 65535 ∧ m.count ≤ 15 ∧ m.chars ≤ 4095 ∧ m.errors ≤ 8190

/-! ### Configuration -/

/-- The lengths of a snapshot option lie in 0–8192 (R21, R78). -/
def snapshotInRange (o : Option SnapshotLengths) : Prop :=
  ∀ p, o = some p → p.pre ≤ Config.slotBytes ∧ p.post ≤ Config.slotBytes

/-- The ranges of a line record (R21), its rate indices naming non-empty entries of the table. -/
def LineRecord.inRange (r : LineRecord) (rates : Vector Nat 16) : Prop :=
  rates[r.fixedIndex.val] ≠ 0 ∧ rates[r.fallbackIndex.val] ≠ 0 ∧ r.streakLimit ≤ 15 ∧ r.charGap ≤ 250
    ∧ r.lineGap ≤ 2000 ∧ r.floorIdle ≤ 3600 ∧ 1 ≤ r.ringKiB ∧ r.ringKiB ≤ 64
    ∧ snapshotInRange r.burstSnapshot ∧ snapshotInRange r.breakSnapshot

/-- The ranges of the monitor parameters (R75). -/
def MonitorParams.inRange (p : MonitorParams) : Prop :=
  p.bf ≤ 7 ∧ p.bl ≤ 15 ∧ p.te ≤ 255 ∧ p.th ≤ 255 ∧ p.dfloor ≤ 65535 ∧ 1 ≤ p.ce ∧ p.ce ≤ 15 ∧ 1 ≤ p.cx ∧ p.cx ≤ 15
    ∧ p.tb ≤ 255 ∧ p.group ≤ 3

/-- The ranges of a watch entry (R78). -/
def WatchEntry.inRange (e : WatchEntry) : Prop :=
  1 ≤ e.pattern.length ∧ e.pattern.length ≤ 24 ∧ 1 ≤ e.hitsNeeded ∧ e.hitsNeeded ≤ 15 ∧ e.holdoff ≤ 255
    ∧ snapshotInRange e.snapshot ∧ ∀ t, e.holdType = some t → 1 ≤ t ∧ t ≤ 60

/-- The ranges of the unit record (R164). -/
def UnitRecord.inRange (r : UnitRecord) : Prop :=
  isGroup r.group = true ∧ 0x0600 ≤ r.etherType.toNat ∧ isStation r.station = true ∧ isGroup r.collector = false
    ∧ r.keep ≤ 240 ∧ 1 ≤ r.fillLimit ∧ r.fillLimit ≤ 255 ∧ 5 ≤ r.tolerance ∧ r.tolerance ≤ 100
    ∧ r.supervisors.length ≤ 4 ∧ r.supervisors.all isStation = true ∧ r.supervisors.Nodup

/-- Every setting of the part is in its range (R21, R41, R75, R78, R164). -/
def State.configLaw (s : State) : Prop :=
  (∀ l, (s.line l).record.inRange s.rates ∧ (s.line l).params.inRange) ∧ (∀ i, (s.entry i).inRange)
    ∧ (∀ i, rateGood (s.rateAt i) = true) ∧ s.unit.inRange ∧ s.unitNumber ≠ 0

/-! ### Snapshot Store -/

/-- The record and data of a slot (R95, R100). -/
def Slot.law (k : Slot) : Prop :=
  k.data.length = k.preHeld + k.postHeld ∧ k.postHeld ≤ k.postTarget ∧ k.preHeld + k.postTarget ≤ Config.slotBytes
    ∧ k.retriggers ≤ 65535
    ∧ match k.state with
      | .free => k = .reset
      | .filling => k.postHeld < k.postTarget ∧ k.truncated = false ∧ k.fillLeft.isSome = true ∧ k.cause.isSome = true
      | .complete =>
        (k.truncated = true ↔ k.postHeld < k.postTarget) ∧ k.fillLeft = none ∧ k.cause.isSome = true

/-- The slots (R95, R98): each in order, at most one FILLING for a line, and that line LIVE (R101). -/
def State.slotsLaw (s : State) : Prop :=
  (∀ k, (s.slot k).law) ∧ (∀ k, (s.slot k).state = .filling → (s.line (s.slot k).line).state = .live)
    ∧ ∀ j k, (s.slot j).state = .filling → (s.slot k).state = .filling → (s.slot j).line = (s.slot k).line → j = k

/-! ### Floor Arbiter -/

/-- A session that may stand at the floor of a line: OPEN, role TYPE, attached to it (R127). -/
def State.maySpeak (s : State) (l : LineNo) (i : SessionNo) : Prop :=
  (s.session i).isOpen = true ∧ (s.session i).role = .typist ∧ (s.session i).line = l

/-- What the idle timer of a line shows (R127, R138, R139). -/
def Line.idleLaw (u : Line) : Prop :=
  match u.floor.state with
  | .free | .parked _ => u.floor.idle = .stopped
  | .held _ =>
    if u.record.floorIdle = 0 then u.floor.idle = .stopped
    else if u.floor.busy then u.floor.idle = .heldStill
    else ∃ left, u.floor.idle = .running left

/-- The floor of a line (R127): the holder or parked session and the waiters may speak on it, no waiter stands twice or
holds, and nobody waits unless the floor is HELD. -/
def State.floorLaw (s : State) (l : LineNo) : Prop :=
  let f := (s.line l).floor
  f.waiting.Nodup ∧ (∀ i ∈ f.waiting, s.maySpeak l i)
    ∧ (match f.state with
      | .free => f.waiting = []
      | .parked p => s.maySpeak l p ∧ f.waiting = []
      | .held h => s.maySpeak l h ∧ h ∉ f.waiting)

/-- A line that is OFF or DARK, or in LOOP with prior state OFF, has a FREE floor (R129, R136). -/
def Line.floorClosedLaw (u : Line) : Prop :=
  (u.state = .off ∨ u.state = .dark ∨ ∃ t, u.test = some t ∧ t.prior = .off) → u.floor.state = .free

/-- Every floor in order, every idle timer as its floor says, and line busy as the monitor last reported (R127, R139,
R74). -/
def State.floorsLaw (s : State) : Prop :=
  ∀ l, s.floorLaw l ∧ (s.line l).idleLaw ∧ (s.line l).floorClosedLaw
    ∧ (s.line l).floor.busy = (s.line l).monitor.state.bursting

/-- The Attendance Monitor (R170): OFF exactly while the period is, its timer running exactly in ATTENDED; and while
UNATTENDED every floor is FREE (R144). -/
def State.attendanceLaw (s : State) : Prop :=
  (s.attendance.state = .off ↔ s.unit.period = .off) ∧ (s.attendance.left.isSome = true ↔ s.attendance.state = .attended)
    ∧ (s.attendance.state = .unattended → ∀ l, (s.line l).floor.state = .free)

/-! ### Alert Unit -/

/-- A line summary (R147): an empty one has outcome NONE; indices stand beside WATCH_FIRED and reasons beside RATE_FAIL
only. -/
def LineSummary.law (m : LineSummary) : Prop :=
  (m.kinds = 0 → m.outcome = .none) ∧ (m.watches ≠ 0 → m.has .watchFired = true)
    ∧ (m.reasons ≠ 0 → m.has .rateFail = true)

/-- Every event summary in order (R147). -/
def State.summariesLaw (s : State) : Prop :=
  (∀ l, (s.line l).summary.law) ∧ (s.unitSummary.kinds = 0 → s.unitSummary.outcome = .none)

/-! ### Ports and queues -/

/-- The frame queues hold what they may (R154, R156, R160, R162): no place stays held between steps, a port whose link is
down has nothing to send, a LINE TEST response waits only for want of room. -/
def State.queuesLaw (s : State) : Prop :=
  s.requests.length ≤ Config.requestCapacity ∧ s.upQueue.length ≤ Config.forwardCapacity
    ∧ s.downQueue.length ≤ Config.forwardCapacity ∧ s.responses.length ≤ Config.responseCapacity
    ∧ s.heldPlaces = 0 ∧ (s.upLink = false → s.upQueue = [] ∧ s.upTx = none)
    ∧ (s.downLink = false → s.downQueue = [] ∧ s.downTx = none)
    ∧ (s.waitingTests ≠ [] → s.responses.length = Config.responseCapacity)

/-- No transmitter stands idle beside a frame it could send (R156, R158). -/
def State.transmitLaw (s : State) : Prop :=
  (s.upFree = true → ∀ m, s.eligible m = false) ∧ (s.downLink = true → s.downTx = none → s.downQueue = [])

/-! ### Counts of one line -/

/-- The ranges of what a line counts and keeps in lists (R13, R28, R39, R60, R80, R81). -/
def Line.countsLaw (u : Line) : Prop :=
  u.injection.length ≤ Config.injectionCapacity ∧ u.matchWindow.length ≤ Config.windowBytes ∧ u.streak ≤ 15
    ∧ (u.state = .live → u.streak ≤ 14) ∧ u.monitor.inRange

/-- The attempt counts (R28): 0–6, and below 6 on a line whose round goes on, since the attempt that fails last ends
the round (R36). -/
def State.attemptsLaw (s : State) : Prop :=
  ∀ l, (s.line l).attempts ≤ 6
    ∧ ((s.line l).state = .queued ∨ (s.line l).state = .measuring → (s.line l).attempts < 6)

/-- Hit counts stay below the hits their entry needs (R81, R84). -/
def State.hitsLaw (s : State) : Prop := ∀ l i, ((s.line l).pair i).hits < (s.entry i).hitsNeeded

/-! ### Everything -/

/-- The part is well kept: every law above. -/
structure State.wellKept (s : State) : Prop where
  store : s.storeLaw
  cursors : s.cursorLaw
  sessions : ∀ i, (s.session i).inRange
  lines : s.linesLaw
  counts : ∀ l, (s.line l).countsLaw
  attempts : s.attemptsLaw
  hits : s.hitsLaw
  config : s.configLaw
  slots : s.slotsLaw
  floors : s.floorsLaw
  attendance : s.attendanceLaw
  summaries : s.summariesLaw
  queues : s.queuesLaw
  transmit : s.transmitLaw

/-! ### Marks and triggers, as claims speak of them -/

/-- Marks that join a list of at most 32 at its tail, one after the other: the list keeps the last 32 (R53). -/
def marksAfter (list new : List Mark) : List Mark := (list ++ new).drop (list.length + new.length - 32)

/-- What a trigger does to the slots (R97 to R99), from `before` to `after`: the first slot FILLING for its line counts a
retrigger and the others handed with it; with none FILLING, the lowest FREE slot, or under RECYCLE the COMPLETE one with
the smallest stamp, is taken; else the trigger is missed. `u` is the line's record at that moment, `s` gives unit time and
settings. -/
def Trigger.settles (g : Trigger) (s : State) (u : Line) (before after : SlotNo → Slot) (how : Settled) : Prop :=
  let post := min g.post (8192 - g.pre)
  let held := min g.pre (u.ring.newest - u.ring.oldest)
  let fills (k : SlotNo) : Prop := (before k).state = .filling ∧ (before k).line = g.line
  let taken : Slot :=
    { state := .filling, line := g.line, cause := some g.cause, stamp := s.unitTime, offset := u.ring.newest
      preHeld := held, postTarget := post, postHeld := 0, truncated := false, retriggers := min g.others 65535
      data := u.ring.read (u.ring.newest - held) held, fillLeft := some (s.unit.fillLimit * 1000) }
  (∀ k, fills k → (∀ j, j < k → ¬ fills j) →
    how = .filling k
    ∧ after k = { before k with retriggers := min ((before k).retriggers + 1 + g.others) 65535 }
    ∧ ∀ j, j ≠ k → after j = before j)
  ∧ ((∀ k, ¬ fills k) → (∀ k, (before k).state ≠ .free) →
    (s.unit.policy = .keep ∨ ∀ k, (before k).state ≠ .complete) →
    how = .missed ∧ ∀ k, after k = before k)
  ∧ ∀ k, (∀ j, ¬ fills j) →
    ((before k).state = .free ∧ (∀ j, j < k → (before j).state ≠ .free)
      ∨ s.unit.policy = .recycle ∧ (∀ j, (before j).state ≠ .free) ∧ (before k).state = .complete
        ∧ ∀ j, (before j).state = .complete →
            (before k).stamp.toNat < (before j).stamp.toNat ∨ (before k).stamp = (before j).stamp ∧ k ≤ j) →
    how = .taken k
    ∧ after k = (if post = 0 then { taken with state := .complete, fillLeft := none } else taken)
    ∧ ∀ j, j ≠ k → after j = before j

/-- The SNAPSHOT mark that a trigger leaves where it took a slot (R99). -/
def Settled.marks (how : Settled) (offset : Nat) (now : Word32) : List Mark :=
  match how with
  | .taken k => [{ offset := offset, stamp := now, kind := .snapshot, arg := k.val }]
  | .filling _ | .missed => []

/-! ### Exits from LIVE and notices, as claims speak of them -/

/-- What an exit from LIVE does to the slots, from `s` to `t` (R4, R100, R101): the first slot FILLING for the line is
COMPLETE with truncated yes, its data kept and its fill limit stopped, and SNAPSHOT_DONE is in the line's summary; every
other slot is as it was, and with none FILLING for the line nothing of this happens. -/
def State.truncates (s : State) (l : LineNo) (t : State) : Prop :=
  let fills (k : SlotNo) : Prop := (s.slot k).state = .filling ∧ (s.slot k).line = l
  (∀ k, fills k → (∀ j, j < k → ¬ fills j) →
    t.slot k = { s.slot k with state := .complete, truncated := true, fillLeft := none }
    ∧ (t.line l).summary.has .snapshotDone = true
    ∧ ∀ j, j ≠ k → t.slot j = s.slot j)
  ∧ ((∀ k, ¬ fills k) →
    t.slots = s.slots ∧ (t.line l).summary.has .snapshotDone = (s.line l).summary.has .snapshotDone)

/-- Two states agree in the frames that the unit has made, placed, sent or lost. -/
def State.framesAs (t n : State) : Prop :=
  t.responses = n.responses ∧ t.waitingTests = n.waitingTests ∧ t.upTx = n.upTx ∧ t.lastMember = n.lastMember
    ∧ t.unitSummary = n.unitSummary ∧ t.counters = n.counters

/-- The frames of `t` are those of `r` and, where the floor of a line was HELD or PARKED in `r`, the LOST notice that its
holder or parked session then gets, the floor FREE and nobody waiting (R128, R136). -/
def State.losesFloor (t : State) (l : LineNo) (reason : LostReason) (r : State) : Prop :=
  let v := r.line l
  let freed := r.setLine l { v with floor := { v.floor with state := .free, waiting := [], idle := .stopped } }
  (v.floor.state = .free → t.framesAs r)
  ∧ ∀ h, v.floor.state = .held h ∨ v.floor.state = .parked h →
    t.framesAs (placeNotice (freed.noticeFrame l h (some reason)) freed)

/-! ### Requests, as claims speak of them -/

/-- The request `rq`, of kind `k`, stands at the head of the request input queue with `rest` behind it, and the Message
Engine may take it (R161). -/
def State.offers (s : State) (k : RequestKind) (rq : Request) (rest : List Frame) : Prop :=
  ∃ f, s.requests = f :: rest ∧ rq = Request.ofFrame f ∧ RequestKind.ofCode rq.kind = some k ∧ s.mayTake k = true

/-- The request offered passes the checks the engine makes on its kind, body, session and origin (R161). -/
def State.admits (s : State) (k : RequestKind) (rq : Request) (rest : List Frame) : Prop :=
  s.offers k rq rest ∧ s.engineCheck k rq = none

/-- The state in which the own part of a request begins: it has left the input queue, a place is held for its response,
a lapse is over and the session it names is refreshed (R161, R109, R170). -/
def State.taken (s : State) (rq : Request) (rest : List Frame) : State :=
  greet rq { s with requests := rest, heldPlaces := 1 }

/-- The state with the response of a request in its place, once a session that the request made ready was granted (R158,
R161). -/
def State.answered (t : State) (rq : Request) (status : Status) (body : List Byte) : State :=
  respond rq { status := status, body := body } (grantData t)

/-- The engine is idle only when nobody waits for it (R27). -/
def State.engineReady (s : State) : Prop := s.engine = none → s.probeQueue = []

end Sys2Proof.Machine
end

