-- ==== Sys2Proof/Certificates/Slice0/Obligations.lean ====
section
/-! DEFINITION. The statements for the provers. A statement about a request gives the state its step leaves as
`upGrant (t.answered …)`: a session that the request made ready is granted, the response enters its held place and the UP
Transmit Arbiter then grants if it may (R161, R158); what a grant does is stated by `Obligations.ArbiterGrantsInRotation`
and `Obligations.DataFrameFormed`. -/

section
open Sys2Proof Sys2Proof.Machine

/-! ### The step -/

/-- One step with a command at the front of the queue is that command's effect on the state that holds the rest. The queue
is the model's own (DESIGN CHOICE): that commands wait in one and run one at a time in its order is no rule of the manual
(assumption logs 2, 25). -/
def Obligations.StepRunsFrontCommand : Prop :=
  ∀ (s : State) (c : Instr), step { s with pending := c :: s.pending } = exec c s

/-- The model's choice (assumption log 2): with no command waiting a step is one millisecond. Unit time rises by one and
wraps (R166), running timers have a millisecond less, the space and the mark of a BREAK and a running idle timer among them
(those in 4608ths of a millisecond 4608 of these, log 22), a measurement's pulse counter counts the periods of that
millisecond after its last edge: of 14,745,600 a second (R8), those that are whole by the millisecond's end and were not by
its begin (logs 18, 20), and nothing else changes. -/
def Obligations.EmptyQueuePassesMillisecond : Prop :=
  (∀ n, periodsInMs n = 14745600 * (n + 1) / 1000 - 14745600 * n / 1000)
  ∧ ∀ s : State, s.pending = [] →
    ∃ t : State, step s = .next t ∧ t.unitTime = s.unitTime + 1
      ∧ (∀ l,
        t.line l =
          { s.line l with
            gap := (s.line l).gap.map (· - 1)
            tx :=
              match (s.line l).tx with
              | .breakSpace left => .breakSpace (left - 1)
              | .breakMark left => .breakMark (left - 4608)
              | .idle => .idle
              | .byte b f => .byte b f
              | .probe f rate => .probe f rate
              | .pattern b f => .pattern b f
            test := (s.line l).test.map fun x => { x with wait := x.wait.map (· - 4608) }
            monitor := { (s.line l).monitor with
              burstLeft := (s.line l).monitor.burstLeft.map (· - 1)
              sampleLeft := (s.line l).monitor.sampleLeft.map (· - 1) }
            gather := (s.line l).gather.map (· - 4608)
            floor := { (s.line l).floor with
              idle :=
                match (s.line l).floor.idle with
                | .running left => .running (left - 1)
                | .stopped => .stopped
                | .heldStill => .heldStill }
            watch := (t.line l).watch }
        ∧ ∀ i, (t.line l).pair i =
            { (s.line l).pair i with holdoff := ((s.line l).pair i).holdoff.map (· - 1) })
      ∧ (∀ i, t.session i = { s.session i with keepLeft := (s.session i).keepLeft.map (· - 1) })
      ∧ (∀ k, t.slot k = { s.slot k with fillLeft := (s.slot k).fillLeft.map (· - 1) })
      ∧ t = { s with
          lines := t.lines, sessions := t.sessions, slots := t.slots, unitTime := s.unitTime + 1
          engine := s.engine.map fun m =>
            { m with
              pulse :=
                if m.edgeCount = 0 then m.pulse else min 65535 (m.pulse + (periodsInMs m.elapsed - m.phase))
              phase := m.phase - periodsInMs m.elapsed
              elapsed := m.elapsed + 1
              windowLeft := m.windowLeft - 1 }
          attendance := { s.attendance with left := s.attendance.left.map (· - 1) } }

/-! ### Laws that every step keeps -/

/-- The part right after reset is well kept: it obeys every law of Safety.lean. -/
def Obligations.ResetStateWellKept : Prop := State.reset.wellKept

/-- Every step keeps every ring within its size, every mark list at most 32 marks long, in offset order and within the
ring's offsets, and the ring sizes within capture memory (R44, R49, R53). -/
def Obligations.StoreLawKept : Prop :=
  ∀ s t : State, s.storeLaw → step s = .next t → t.storeLaw

/-- Every step keeps the cursor of every OPEN session within the offsets of its line's ring (R117). -/
def Obligations.CursorLawKept : Prop :=
  ∀ s t : State, s.storeLaw → s.cursorLaw → step s = .next t → t.cursorLaw

/-- Every step keeps every session's credit, gather, gap and lost total in range, and every FREE record at the FREE
values (R108, R114). -/
def Obligations.SessionRangesKept : Prop :=
  ∀ s t : State, (∀ i, (s.session i).inRange) → step s = .next t → ∀ i, (t.session i).inRange

/-- Every step keeps the law of line states: the probe queue is the QUEUED lines, each once, the engine holds the
MEASURING line and idles only when nobody waits, a line in LOOP alone has a test, a line outside LIVE has an empty
queue, no hold, no sample expiries and a QUIET monitor (R1, R25, R27). That a measurement has a number, given out once, is
the model's (assumption log 34). -/
def Obligations.LineStatesKept : Prop :=
  ∀ s t : State, s.linesLaw → step s = .next t → t.linesLaw

/-- Every step keeps each line's lists and counts in range (R13, R39, R60, R80), the debounce count among them, and every
hit count below the hits its entry needs (R81), in a part whose settings are in range; and every attempt count within 0–6,
below 6 while its round goes on (R28). The error count's limit is the model's reading (assumption log 24). -/
def Obligations.LineCountsKept : Prop :=
  (∀ s t : State, s.configLaw → (∀ l, (s.line l).countsLaw) → s.hitsLaw → step s = .next t →
    (∀ l, (t.line l).countsLaw) ∧ t.hitsLaw)
  ∧ ∀ s t : State, s.linesLaw → s.attemptsLaw → step s = .next t → t.attemptsLaw

/-- Every step keeps every setting of the part in its range, and no line's record names an empty rate table entry (R21,
R41, R43, R75, R78, R164). -/
def Obligations.ConfigurationKept : Prop :=
  ∀ s t : State, s.configLaw → step s = .next t → t.configLaw

/-- Every step keeps the slots in order: data of pre held + post held bytes within 8192, at most one slot FILLING for a
line, that line LIVE, a FREE slot at the FREE values (R95, R98, R101). -/
def Obligations.SlotsKept : Prop :=
  ∀ s t : State, s.storeLaw → s.linesLaw → s.configLaw → s.slotsLaw → step s = .next t → t.slotsLaw

/-- Every step keeps every floor in order: its holder or parked session and its waiters OPEN, TYPE and of that line, no
waiter twice, nobody waiting unless it is HELD, its idle timer as the floor says, and no floor taken on a line that
is OFF or DARK (R127, R136, R138, R139). -/
def Obligations.FloorsKept : Prop :=
  ∀ s t : State, s.linesLaw → s.floorsLaw → step s = .next t → t.floorsLaw

/-- Every step keeps the attendance timer running exactly while ATTENDED, and every floor FREE while UNATTENDED (R170,
R144). -/
def Obligations.AttendanceKept : Prop :=
  ∀ s t : State, s.attendanceLaw → step s = .next t → t.attendanceLaw

/-- Every step keeps the event summaries in order: an empty one has outcome NONE, watch indices stand only beside
WATCH_FIRED and failure reasons only beside RATE_FAIL (R147). -/
def Obligations.SummariesKept : Prop :=
  ∀ s t : State, s.summariesLaw → step s = .next t → t.summariesLaw

/-- Every step keeps the frame queues within what they hold, keeps no place of the response queue held, sends nothing
from a port whose link is down, and lets a LINE TEST response wait only while the response queue is full (R154,
R156, R160, R162). -/
def Obligations.QueuesKept : Prop :=
  ∀ s t : State, s.queuesLaw → step s = .next t → t.queuesLaw

/-- No transmitter idles beside a frame it could send: after every step the UP transmitter is busy or no member of its
arbiter is eligible, and the DOWN transmitter is busy, or its link down, or its queue empty (R156, R158). Exempt at UP:
a port whose link is down (R154), and the moment between the response of UNIT RESET and the reset, when the model
grants nothing (its choice, assumption log 12). -/
def Obligations.TransmittersNeverIdle : Prop :=
  ∀ s t : State, s.transmitLaw → step s = .next t → t.transmitLaw

/-! ### Resets -/

/-- What POWER_ON leaves, whatever went before, the whole state (R2, R41, R57, R60, R75, R78, R95, R108, R127, R153, R154,
R157, R164): every setting at its reset value under the straps, the unit record, the sixteen rates and the watch entries
among them, the counters 0; rings, marks, slots, sessions, floors and queues empty, both links down, unit time 0,
RESET_DONE in the unit summary; under FIXED every line LIVE at its fixed rate with its RATE_SET mark and event; under AUTO
every line in the probe queue in ascending order, and line 0, which the engine takes, MEASURING with its probe character
in transmission. The model's choices: the levels of RXD are kept (assumption log 5) and measurements are numbered on (log
34). -/
def Obligations.PowerOnState : Prop :=
  ∀ (straps : Straps) (s : State),
    let i : RateIndex := if straps.ratesel then 8 else 4
    let rate : TakenRate := { index := i, rate := if straps.ratesel then 115200 else 9600 }
    let number : BitVec 4 := if straps.unit = 0 then 1 else straps.unit
    let auto := straps.autosel
    let framing : Framing := { dataBits := .eight, parity := .absent, stopBits := .one }
    let line (l : LineNo) : Line :=
      { record :=
          { policy := if auto then .auto else .fixed, fixedIndex := i, fallbackIndex := i, framing := framing
            probe := .cr, edges := .e32, window := .s5, attempts := .a2, failure := .fallback, streakLimit := 3
            charGap := 0, lineGap := 0, breakPolicy := .forbid, floorIdle := 300, parkMode := .none, ringKiB := 16
            burstSnapshot := none, breakSnapshot := none, alerts := true }
        state := if auto then (if l = 0 then .measuring else .queued) else .live
        current := if auto then none else some rate
        last := if auto then none else some rate
        counters :=
          { bytesCaptured := 0, parityErrors := 0, framingErrors := 0, breaksIn := 0, breaksOut := 0, bytesTyped := 0
            bytesTransmitted := 0 }
        injection := [], hold := none, gap := none
        tx := if auto ∧ l = 0 then .probe framing rate.rate else .idle
        rx := if auto then .waiting else if (s.line l).rxd = .mark then .waiting else .awaitMark
        rxd := (s.line l).rxd
        streak := 0, attempts := 0, test := none, ring := { oldest := 0, newest := 0, bytes := [] }
        marks :=
          if auto then (if l = 0 then [{ offset := 0, stamp := 0, kind := .measureBegin, arg := 0 }] else [])
          else [{ offset := 0, stamp := 0, kind := .rateSet, arg := i.val }]
        markLoss := 0
        monitor :=
          { state := .quiet, fast := 0, long := 0, count := 0, seedPending := !auto, burstLeft := none
            sampleLeft := if auto then none else some 100, chars := 0, errors := 0 }
        params := { bf := 2, bl := 6, te := 48, th := 64, dfloor := 160, ce := 2, cx := 3, tb := 60, group := 0 }
        matchWindow := [], watch := Vector.replicate 64 { hits := 0, holdoff := none, fires := 0 }
        settled := true, gather := none
        floor := { state := .free, waiting := [], idle := .stopped, busy := false }
        summary := { kinds := if auto then 0 else 8#9, watches := 0, reasons := 0, outcome := .none } }
    exec (.powerOn straps) s = .next
      { pending := s.pending, lines := Vector.ofFn line
        rates := #v[300, 1200, 2400, 4800, 9600, 19200, 38400, 57600, 115200, 230400, 0, 0, 0, 0, 0, 0]
        probeQueue := if auto then (List.finRange 24).tail else []
        engine :=
          if auto then some
            { number := s.begun, line := 0, probe := .cr, edges := .e32, window := .s5, framing := framing, start := 0
              edgeCount := 0, pulse := 0, phase := 0, narrowest := none, elapsed := 0, windowLeft := 5000 }
          else none
        begun := if auto then s.begun + 1 else s.begun
        entries := Vector.replicate 64
          { enabled := false, pattern := [.any], lines := 0, hitsNeeded := 1, holdoff := 0, mark := false, note := false
            snapshot := none, dropFloor := false, holdType := none }
        slots := Vector.replicate 8
          { state := .free, line := 0, cause := none, stamp := 0, offset := 0, preHeld := 0, postTarget := 0, postHeld := 0
            truncated := false, retriggers := 0, data := [], fillLeft := none }
        sessions := Vector.replicate 32
          { isOpen := false, origin := 0, line := 0, role := .watcher, cls := .operator, cursor := 0, credit := 0
            gather := 1, gap := 0, lost := 0, lastHeard := 0, keepLeft := none }
        unitSummary := { kinds := 1#4, outcome := .none }
        upLink := false, downLink := false, upTx := none, downTx := none, upQueue := [], downQueue := []
        requests := [], responses := [], heldPlaces := 0, waitingTests := [], lastMember := .data, lastSession := 31
        unitNumber := number
        unit :=
          { group := 0x0F4E4A000000#48, etherType := 0x88B6#16, station := 0x0E4E4A000000#48 + number.setWidth 48
            collector := 0, period := if straps.attsel then .s60 else .off, policy := .keep, keep := 0, fillLimit := 30
            tolerance := 35, supervisors := [] }
        counters :=
          { downDrops := 0, upDrops := 0, responseDrops := 0, dataCutOff := 0, requestDrops := 0, headerDrops := 0
            creditDrops := 0 }
        unitTime := 0
        attendance :=
          if straps.attsel then { state := .attended, left := some 60000, lapses := 0 }
          else { state := .off, left := none, lapses := 0 }
        resetPhase := .idle }

/-- What UNIT_RESET_APPLIED leaves once the reset is due (R169): settings, rate table, watch table, unit time and link
states kept; COMPLETE slots kept and FILLING ones truncated with what they held; sessions FREE; the request input and
forward queues empty; the unit counters and the lapse count 0; attendance restarted with its timer at full length (R170);
every line, in all it holds but its summary, as its own record starts it (R2, R40, R58, R60, R94, R125, R146): counters,
injection queue, hold, gap, streak, attempts, ring, marks, monitor, match window, hit counts, holdoffs and fire counts,
gather timer and floor at their power-on values and the line settled; FIXED lines LIVE at their fixed rate with a RATE_SET
mark alone and no other last rate; AUTO lines in the probe queue in ascending order without a last rate, the first
MEASURING with its MEASURE_BEGIN mark and its probe character. The LINE TEST responses that waited and then the ABORTED
ones are placed, the first going out at once where UP is free, what finds no place waiting on. The model's choices: the
moment between the response and the reset (assumption log 12), the order of the blocks (log 11), the levels of RXD (log
5), the number of the measurement (log 34). -/
def Obligations.UnitResetAppliedState : Prop :=
  ∀ s : State, s.resetPhase = .due →
    let aborted := (List.finRange 24).filterMap fun l => (s.line l).test.map fun x => s.testFrame x .aborted
    let tests := s.waitingTests ++ aborted
    let autos := (List.finRange 24).filter fun l => decide ((s.line l).record.policy = .auto)
    let placed (fs : List OutFrame) : List QueuedFrame := fs.map fun f => { frame := f, resets := false }
    let line (l : LineNo) (summary : LineSummary) : Line :=
      let r := (s.line l).record
      let fixed : Bool := decide (r.policy = .fixed)
      let first : Bool := decide (autos.head? = some l)
      let rate : TakenRate := { index := r.fixedIndex, rate := s.rateAt r.fixedIndex }
      { record := r
        state := if fixed then .live else if first then .measuring else .queued
        current := if fixed then some rate else none
        last := if fixed then some rate else none
        counters :=
          { bytesCaptured := 0, parityErrors := 0, framingErrors := 0, breaksIn := 0, breaksOut := 0, bytesTyped := 0
            bytesTransmitted := 0 }
        injection := [], hold := none, gap := none
        tx := if first ∧ r.probe = .cr then .probe r.framing (s.rateAt r.fallbackIndex) else .idle
        rx := if fixed ∧ (s.line l).rxd = .space then .awaitMark else .waiting
        rxd := (s.line l).rxd
        streak := 0, attempts := 0, test := none, ring := { oldest := 0, newest := 0, bytes := [] }
        marks :=
          if fixed then [{ offset := 0, stamp := s.unitTime, kind := .rateSet, arg := r.fixedIndex.val }]
          else if first then [{ offset := 0, stamp := s.unitTime, kind := .measureBegin, arg := 0 }]
          else []
        markLoss := 0
        monitor :=
          { state := .quiet, fast := 0, long := 0, count := 0, seedPending := fixed, burstLeft := none
            sampleLeft := if fixed then some 100 else none, chars := 0, errors := 0 }
        params := (s.line l).params
        matchWindow := [], watch := Vector.replicate 64 { hits := 0, holdoff := none, fires := 0 }
        settled := true, gather := none
        floor := { state := .free, waiting := [], idle := .stopped, busy := false }
        summary := summary }
    ∃ u : State, exec .unitResetApplied s = .next (upGrant u)
      ∧ u.pending = s.pending ∧ u.unit = s.unit ∧ u.unitNumber = s.unitNumber ∧ u.unitTime = s.unitTime
      ∧ u.rates = s.rates ∧ u.entries = s.entries ∧ u.upLink = s.upLink ∧ u.downLink = s.downLink
      ∧ u.downTx = s.downTx
      ∧ ((s.upLink = false ∨ s.upTx ≠ none) →
          u.upTx = s.upTx ∧ u.lastMember = .data ∧ placed (tests.take 16) <+: u.responses
          ∧ u.waitingTests = tests.drop 16)
      ∧ (∀ f rest, s.upLink = true → s.upTx = none → tests = f :: rest →
          u.upTx = some (.response f false) ∧ u.lastMember = .responses ∧ placed (rest.take 16) <+: u.responses
          ∧ u.waitingTests = rest.drop 16)
      ∧ (s.upLink = true → s.upTx = none → tests = [] →
          u.waitingTests = [] ∧ (s.unit.collector = 0 → u.upTx = none ∧ u.lastMember = .data ∧ u.responses = []))
      ∧ u.counters = { UnitCounters.reset with responseDrops := u.counters.responseDrops }
      ∧ (s.unit.collector = 0 → u.counters = .reset)
      ∧ u.resetPhase = .idle ∧ u.heldPlaces = 0 ∧ u.requests = [] ∧ u.upQueue = [] ∧ u.downQueue = []
      ∧ u.lastSession = 31 ∧ u.sessions = Vector.replicate 32 .reset
      ∧ u.attendance =
          (match s.unit.period with
          | .off => { state := .off, left := none, lapses := 0 }
          | .s10 => { state := .attended, left := some 10000, lapses := 0 }
          | .s60 => { state := .attended, left := some 60000, lapses := 0 }
          | .s300 => { state := .attended, left := some 300000, lapses := 0 })
      ∧ u.unitSummary.has .resetDone = true
      ∧ (∀ k, u.slot k =
          if (s.slot k).state = .filling then
            { s.slot k with state := .complete, truncated := true, fillLeft := none }
          else s.slot k)
      ∧ u.probeQueue = autos.tail ∧ u.begun = s.begun + (if autos = [] then 0 else 1)
      ∧ u.engine = autos.head?.map (fun l =>
          let r := (s.line l).record
          { number := s.begun, line := l, probe := r.probe, edges := r.edges, window := r.window, framing := r.framing
            start := s.unitTime, edgeCount := 0, pulse := 0, phase := 0, narrowest := none, elapsed := 0
            windowLeft := r.window.seconds * 1000 })
      ∧ ∀ l, u.line l = line l (u.line l).summary
          ∧ ((∀ k, (s.slot k).state = .filling → (s.slot k).line ≠ l) →
              (u.line l).summary.kinds = (if (s.line l).record.policy = .fixed then 8#9 else 0))
          ∧ ((∃ k, (s.slot k).state = .filling ∧ (s.slot k).line = l) →
              (u.line l).summary.kinds = (if (s.line l).record.policy = .fixed then 264#9 else 256#9))

/-! ### Ports and queues -/

/-- A link that goes down (R154, R157): the frame in transmission is lost, the forward queue bound for the port is
emptied, each is counted, and any loss raises CHAIN_LOSS. The lines, the sessions and the request input queue are
untouched; the response queue keeps its contents. A UNIT RESET response cut off makes the reset due (R168). A port whose
link is down already takes no notice: the model's choice (assumption log 1). -/
def Obligations.LinkDownLosesFrames : Prop :=
  (∀ s : State, s.upLink = true →
    ∃ t : State, exec .upLinkDown s = .next t
      ∧ t.upLink = false ∧ t.upTx = none ∧ t.upQueue = [] ∧ t.lines = s.lines ∧ t.sessions = s.sessions
      ∧ t.slots = s.slots ∧ t.requests = s.requests ∧ s.responses <+: t.responses ∧ t.downTx = s.downTx
      ∧ t.downQueue = s.downQueue ∧ t.downLink = s.downLink ∧ t.counters.downDrops = s.counters.downDrops
      ∧ t.resetPhase =
          (match s.upTx with | some (.response _ true) => .due | _ => s.resetPhase)
      ∧ t.counters.upDrops = s.counters.upDrops
          + BitVec.ofNat 32 (s.upQueue.length + match s.upTx with | some (.forward _) => 1 | _ => 0)
      ∧ t.counters.dataCutOff = s.counters.dataCutOff
          + (match s.upTx with | some (.data _) => 1 | _ => 0)
      ∧ (s.unit.collector = 0 →
          t.counters.responseDrops = s.counters.responseDrops
            + (match s.upTx with | some (.response _ _) => 1 | _ => 0))
      ∧ (t.unitSummary.has .chainLoss = true ↔
          s.unitSummary.has .chainLoss = true ∨ s.upTx ≠ none ∨ s.upQueue ≠ []))
  ∧ (∀ s : State, s.downLink = true →
    ∃ t : State, exec .downLinkDown s = .next (upGrant t)
      ∧ t.downLink = false ∧ t.downTx = none ∧ t.downQueue = [] ∧ t.lines = s.lines ∧ t.sessions = s.sessions
      ∧ t.slots = s.slots ∧ t.requests = s.requests ∧ s.responses <+: t.responses
      ∧ (s.upFree = false → t.upTx = s.upTx) ∧ (s.unit.collector = 0 → t.upTx = s.upTx)
      ∧ t.resetPhase = s.resetPhase ∧ t.upQueue = s.upQueue ∧ t.upLink = s.upLink ∧ t.counters.upDrops = s.counters.upDrops
      ∧ t.counters.downDrops = s.counters.downDrops
          + BitVec.ofNat 32 (s.downQueue.length + if s.downTx = none then 0 else 1)
      ∧ (t.unitSummary.has .chainLoss = true ↔
          s.unitSummary.has .chainLoss = true ∨ s.downTx ≠ none ∨ s.downQueue ≠ []))
  ∧ (∀ s : State, s.upLink = false → exec .upLinkDown s = .next s)
  ∧ ∀ s : State, s.downLink = false → exec .downLinkDown s = .next s

/-- A link that comes up and a transmission that ends (R154, R156, R158): the port takes its next frame, UP by the
arbiter, DOWN the oldest of its queue. When the response of UNIT RESET has left UP, the reset is due and nothing is
granted before it (R168). What leaves a port is the header and body of section 11.1, filled with zeros to 60 bytes, then
the frame check sequence, each number with its most significant byte first, in the reading of a field too, and each status
with the code of section 11.5 (R172); a forwarded frame leaves UP or DOWN as it arrived, with its check sequence. What the
frames that the unit makes hold: a response goes to its request's origin with the request's kind plus 0x80, its session
and tag (R161, R172), which are those of the frame that brought the request, a LINE TEST response with the counts of its
test (R19, R20); a FLOOR NOTICE goes to the session's origin with the line, the kind, the reason and the floor (R128,
section 11.4), and a floor report tells the floor and the requester's place (R131). The model's choices: that nothing is
granted before a due reset (assumption log 12); a response's status byte at some place among its body (log 7); that the
check sequence is four bytes, which no rule says (PRESUMED, log 35); the EtherType of a frame is that of the moment it is
made (log 36). -/
def Obligations.TransmittersGoOn : Prop :=
  (∀ len n : Nat, (beBytes len n).length = len
    ∧ ∀ i, i < len → (beBytes len n)[i]? = some (BitVec.ofNat 8 (n / 256 ^ (len - 1 - i))))
  ∧ (∀ (b : List Byte) (start len : Nat), start + len ≤ b.length →
    numAt b start len < 256 ^ len ∧ beBytes len (numAt b start len) = (b.drop start).take len)
  ∧ (∀ st : Status, st.code =
    match st with
    | .ok => 0 | .adjusted => 1 | .queued => 2 | .partTaken => 3
    | .unknownKind => 16 | .malformed => 17 | .outOfRange => 18 | .noSession => 19 | .noSlot => 20 | .lineOff => 21
    | .notLive => 22 | .notHolder => 23 | .denied => 24 | .busy => 25 | .noRoom => 26 | .aborted => 27)
  ∧ (∀ s : State, s.upLink = false → exec (.linkComesUp .up) s = .next (upGrant { s with upLink := true }))
  ∧ (∀ s : State, s.downLink = false → s.downTx = none → s.downQueue = [] →
      exec (.linkComesUp .down) s = .next { s with downLink := true })
  ∧ (∀ (s : State) (f : UpFrame), s.upTx = some f → f.isReset = false →
      exec .upTransmitComplete s = .next (upGrant { s with upTx := none }))
  ∧ (∀ (s : State) (f : UpFrame), s.upTx = some f → f.isReset = true →
      exec .upTransmitComplete s = .next { s with upTx := none, resetPhase := .due })
  ∧ (∀ (s : State) (f : Frame), s.downTx = some f → s.downQueue = [] →
      exec .downTransmitComplete s = .next { s with downTx := none })
  ∧ (∀ (s : State) (f g : Frame) (rest : List Frame), s.downTx = some f → s.downLink = true →
      s.downQueue = g :: rest →
      exec .downTransmitComplete s = .next { s with downTx := some g, downQueue := rest })
  ∧ (∀ (f : OutFrame) (n : Nat), n = f.body.length + (if f.status = none then 0 else 1) →
      f.wire.take 22 = beBytes 6 f.dst.toNat ++ beBytes 6 f.src.toNat ++ beBytes 2 f.etherType.toNat
          ++ [1, f.unit, f.kind, f.session] ++ beBytes 2 f.tag.toNat ++ beBytes 2 f.body.length
      ∧ f.wire.length = max 60 (22 + n) ∧ (∀ b ∈ f.wire.drop (22 + n), b = 0)
      ∧ (f.status = none → (f.wire.drop 22).take n = f.body)
      ∧ ∀ st, f.status = some st → ∃ before after, f.body = before ++ after
          ∧ (f.wire.drop 22).take n = before ++ [BitVec.ofNat 8 st.code] ++ after)
  ∧ (∀ (f : OutFrame) (g : Frame) (resets : Bool), ∃ c d : BitVec 32,
      (UpFrame.response f resets).sent = f.wire ++ beBytes 4 c.toNat ∧ (UpFrame.data f).sent = f.wire ++ beBytes 4 c.toNat
      ∧ (UpFrame.forward g).sent = g ++ beBytes 4 d.toNat
      ∧ (∀ s : State, s.downTx = some g → s.downWire = some (g ++ beBytes 4 d.toNat))
      ∧ ∀ (s : State) (x : UpFrame), s.upTx = some x → s.upWire = some x.sent)
  ∧ (∀ (dst src : Addr) (etherType : Word16) (unit kind session : Byte) (tag : Word16) (body filling : List Byte),
      body.length < 65536 →
      Request.ofFrame (beBytes 6 dst.toNat ++ beBytes 6 src.toNat ++ beBytes 2 etherType.toNat
          ++ [1, unit, kind, session] ++ beBytes 2 tag.toNat ++ beBytes 2 body.length ++ body ++ filling)
        = { origin := src, kind := kind, session := session, tag := tag, body := body })
  ∧ (∀ (s : State) (rq : Request) (rep : Reply), rq.kind.toNat < 0x80 →
      let frame : OutFrame :=
        { dst := rq.origin, src := s.unit.station, etherType := s.unit.etherType, unit := s.unitNumber.setWidth 8
          kind := BitVec.ofNat 8 (rq.kind.toNat + 0x80), session := rq.session, tag := rq.tag
          status := some rep.status, body := rep.body }
      s.responseFrame rq rep = frame
      ∧ respond rq rep s =
          { s with heldPlaces := 0, responses := s.responses ++ [{ frame := frame, resets := rep.resets }] }
      ∧ (rep.resets = false → s.answered rq rep.status rep.body = respond rq rep (grantData s)))
  ∧ (∀ (s : State) (x : LoopTest) (status : Status),
      s.testFrame x status =
        { dst := x.origin, src := s.unit.station, etherType := s.unit.etherType, unit := s.unitNumber.setWidth 8
          kind := 0x95, session := x.session, tag := x.tag, status := some status
          body := [BitVec.ofNat 8 x.sent, BitVec.ofNat 8 x.matched,
            match x.firstMismatch with | none => 255 | some i => BitVec.ofNat 8 i] })
  ∧ (∀ (s : State) (l : LineNo) (i : SessionNo) (reason : Option LostReason),
      let f := (s.line l).floor
      s.noticeFrame l i reason =
        { dst := (s.session i).origin, src := s.unit.station, etherType := s.unit.etherType
          unit := s.unitNumber.setWidth 8, kind := 0xC2, session := BitVec.ofNat 8 i.val, tag := 0, status := none
          body :=
            [BitVec.ofNat 8 l.val]
              ++ (match reason with
                | none => [0, 0]
                | some .takeover => [1, 1]
                | some .expired => [1, 2]
                | some .watch => [1, 3]
                | some .idle => [1, 4]
                | some .lineOff => [1, 5]
                | some .dark => [1, 6]
                | some .attendance => [1, 7])
              ++ (match f.state with
                | .free => [0, 255]
                | .held h => [1, BitVec.ofNat 8 h.val]
                | .parked p => [2, BitVec.ofNat 8 p.val])
              ++ [BitVec.ofNat 8 f.waiting.length] })
  ∧ ∀ (s : State) (i : SessionNo),
      let f := (s.line (s.session i).line).floor
      let report (place : Nat) : List Byte :=
        (match f.state with
          | .free => [0, 255]
          | .held h => [1, BitVec.ofNat 8 h.val]
          | .parked p => [2, BitVec.ofNat 8 p.val])
        ++ [BitVec.ofNat 8 f.waiting.length, BitVec.ofNat 8 place]
      (i ∉ f.waiting → s.floorReport i = report 0)
      ∧ ∀ ahead behind, f.waiting = ahead ++ i :: behind → i ∉ ahead → s.floorReport i = report (ahead.length + 1)

/-- How an arriving frame is sorted (R155, R156, R160): a chain message has the unit's group address and chain EtherType
and is long enough for a message header, whose version must be 1 and whose body length at most the bytes that follow it;
one for this unit, or a broadcast, is checked and joins the request input queue as a valid message, which starts the
attendance period afresh (R170), or is dropped and counted for its header or for want of room; all but one for this unit
alone go on DOWN: to the queue, at once out where the DOWN transmitter is idle, or, the link down (R154) or the queue
full, dropped and counted; one from DOWN joins the UP-bound queue or is dropped and counted alike. One whose frame check
sequence fails, or at a port whose link is down, has not arrived (R172, R154). -/
def Obligations.ArrivalsSorted : Prop :=
  (∀ (s : State) (f : Frame),
    (s.isChainMessage f = true ↔
      22 ≤ f.length ∧ numAt f 0 6 = s.unit.group.toNat ∧ numAt f 12 2 = s.unit.etherType.toNat)
    ∧ frameUnitField f = numAt f 15 1
    ∧ s.unit.period.ms =
        (match s.unit.period with | .off => none | .s10 => some 10000 | .s60 => some 60000 | .s300 => some 300000)
    ∧ (22 ≤ f.length → (frameHeaderGood f = true ↔ numAt f 14 1 = 1 ∧ 22 + numAt f 20 2 ≤ f.length)))
  ∧ (∀ (s : State) (f : Frame), s.upLink = true → s.unitNumber ≠ 0 →
    let forward := ¬ (s.isChainMessage f = true ∧ frameUnitField f = s.unitNumber.toNat)
    let t : State :=
      if s.isChainMessage f = true ∧ (frameUnitField f = s.unitNumber.toNat ∨ frameUnitField f = 0) then
        if frameHeaderGood f = false then
          { s with counters := { s.counters with headerDrops := s.counters.headerDrops + 1 } }
        else if 8 ≤ s.requests.length then
          { s with counters := { s.counters with requestDrops := s.counters.requestDrops + 1 } }
        else
          { s with
            requests := s.requests ++ [f]
            attendance :=
              if s.unit.period = .off then s.attendance
              else { s.attendance with state := .attended, left := s.unit.period.ms } }
      else s
    (¬ forward → exec (.upFrameArrival f true) s = .next (upGrant t))
    ∧ (forward → s.downLink = true → s.downTx ≠ none → s.downQueue.length < 8 →
      exec (.upFrameArrival f true) s = .next (upGrant { t with downQueue := s.downQueue ++ [f] }))
    ∧ (forward → s.downLink = true → s.downTx = none → s.downQueue = [] →
      exec (.upFrameArrival f true) s = .next (upGrant { t with downTx := some f }))
    ∧ (forward → (s.downLink = false ∨ 8 ≤ s.downQueue.length) →
      ∃ u : State, exec (.upFrameArrival f true) s = .next (upGrant u) ∧ u.requests = t.requests
        ∧ u.attendance = t.attendance ∧ u.downQueue = s.downQueue ∧ u.downTx = s.downTx
        ∧ u.counters.downDrops = s.counters.downDrops + 1 ∧ u.counters.headerDrops = t.counters.headerDrops
        ∧ u.counters.requestDrops = t.counters.requestDrops ∧ u.unitSummary.has .chainLoss = true
        ∧ u.lines = s.lines ∧ u.sessions = s.sessions ∧ u.slots = s.slots))
  ∧ (∀ (s : State) (f : Frame), s.downLink = true → s.upLink = true → s.upQueue.length < 8 →
    exec (.downFrameArrival f true) s = .next (upGrant { s with upQueue := s.upQueue ++ [f] }))
  ∧ (∀ (s : State) (f : Frame), s.downLink = true → (s.upLink = false ∨ 8 ≤ s.upQueue.length) →
    ∃ t : State, exec (.downFrameArrival f true) s = .next (upGrant t) ∧ t.upQueue = s.upQueue
      ∧ t.counters.upDrops = s.counters.upDrops + 1 ∧ t.unitSummary.has .chainLoss = true
      ∧ t.lines = s.lines ∧ t.sessions = s.sessions)
  ∧ (∀ (s : State) (f : Frame), exec (.upFrameArrival f false) s = .next s
      ∧ exec (.downFrameArrival f false) s = .next s)
  ∧ ∀ (s : State) (f : Frame) (good : Bool),
      (s.upLink = false → exec (.upFrameArrival f good) s = .next s)
      ∧ (s.downLink = false → exec (.downFrameArrival f good) s = .next s)

/-- The rotation of the UP Transmit Arbiter (R158): a free transmitter with an eligible member sends one frame, of the
first eligible member after the one served last; the frame is the oldest of that member's queue, and no line, slot
or request changes. A place that frees in the response queue goes to a waiting LINE TEST response (R162). A frame that
enters an empty response queue beside a free transmitter goes out at that moment. Beside a transmitter that is not free
nothing is granted: one that sends, one whose link is down, and one that awaits a due reset, which is the model's choice
(assumption log 12). -/
def Obligations.ArbiterGrantsInRotation : Prop :=
  (∀ (s : State) (q : QueuedFrame) (rest : List QueuedFrame), s.upFree = true → s.responses = q :: rest →
    (s.lastMember = .data ∨ (s.lastMember = .forward ∧ s.nextReady? = none)
      ∨ (s.upQueue = [] ∧ s.nextReady? = none)) →
    let n := 16 - (rest.length + s.heldPlaces)
    upGrant s =
      { s with
        upTx := some (.response q.frame q.resets)
        responses := rest ++ (s.waitingTests.take n).map fun f => { frame := f, resets := false }
        waitingTests := s.waitingTests.drop n
        lastMember := .responses })
  ∧ (∀ (s : State) (f : Frame) (rest : List Frame), s.upFree = true → s.upQueue = f :: rest →
    (s.lastMember = .responses ∨ (s.lastMember = .data ∧ s.responses = [])
      ∨ (s.responses = [] ∧ s.nextReady? = none)) →
    upGrant s = { s with upTx := some (.forward f), upQueue := rest, lastMember := .forward })
  ∧ (∀ (s : State) (i : SessionNo), s.upFree = true → s.nextReady? = some i →
    (s.lastMember = .forward ∨ (s.lastMember = .responses ∧ s.upQueue = [])
      ∨ (s.upQueue = [] ∧ s.responses = [])) →
    upGrant s =
      { formData i s with upTx := some (.data (s.dataFrame i)), lastMember := .data, lastSession := i })
  ∧ (∀ s : State, s.upFree = true → s.responses = [] → s.upQueue = [] → s.nextReady? = none → upGrant s = s)
  ∧ (∀ (s : State) (f : OutFrame), s.upFree = true → s.responses = [] →
    s.pushResponse f = { s with upTx := some (.response f false), lastMember := .responses })
  ∧ (∀ (s : State) (f : OutFrame), (s.upFree = false ∨ s.responses ≠ []) →
    s.pushResponse f = { s with responses := s.responses ++ [{ frame := f, resets := false }] })
  ∧ ∀ s : State, s.upFree = false → upGrant s = s

/-- The session that DATA serves next (R159): a ready one, and no ready session lies between the one served last and it
in ascending order with 31 followed by 0. A session is ready when it is OPEN, has credit, its line holds bytes beyond its
cursor, and they are at or above its gather or its credit or the line is settled (R121). -/
def Obligations.DataSessionRotation : Prop :=
  (∀ (s : State) (i : SessionNo),
    s.nextReady? = some i ↔
      s.ready i = true
      ∧ ∀ j, s.ready j = true →
          (i.val + 31 - s.lastSession.val) % 32 ≤ (j.val + 31 - s.lastSession.val) % 32)
  ∧ ∀ (s : State) (i : SessionNo),
    let r := s.session i
    let v := s.line r.line
    s.ready i = true ↔
      r.isOpen = true ∧ 0 < r.credit ∧ r.cursor < v.ring.newest
      ∧ (r.cursor + r.gather ≤ v.ring.newest ∨ r.cursor + r.credit ≤ v.ring.newest ∨ v.settled = true)

/-- The DATA frame of a ready session (R122): as many bytes as are available, credited and within 1024, read from its
cursor, with its gap, the byte at an offset being the one as many places behind the ring's first as the offset lies above
`oldest` (R44); cursor up, credit down by that length, gap 0, lost total as it was, and no other session
changed. -/
def Obligations.DataFrameFormed : Prop :=
  (∀ (ring : Ring) (o : Nat), ring.byteAt o = if ring.oldest ≤ o then ring.bytes[o - ring.oldest]? else none)
  ∧ ∀ (s : State) (i : SessionNo), s.storeLaw → s.cursorLaw → s.ready i = true →
    let r := s.session i
    let ring := (s.line r.line).ring
    let n := min (min (ring.newest - r.cursor) r.credit) 1024
    1 ≤ n
    ∧ (formData i s).session i = { r with cursor := r.cursor + n, credit := r.credit - n, gap := 0 }
    ∧ (∀ j, j ≠ i → (formData i s).session j = s.session j)
    ∧ (formData i s).lines = s.lines
    ∧ ∃ bytes, bytes.length = n ∧ (∀ k, k < n → bytes[k]? = ring.byteAt (r.cursor + k))
      ∧ s.dataFrame i =
          { dst := r.origin, src := s.unit.station, etherType := s.unit.etherType
            unit := s.unitNumber.setWidth 8, kind := 0xC0, session := BitVec.ofNat 8 i.val, tag := 0, status := none
            body := beBytes 6 r.cursor ++ beBytes 2 n ++ beBytes 4 r.gap ++ bytes }

/-! ### Requests on the unit -/

/-- The requests that only read are answered OK with what they read, and change nothing (R24, R42, R56, R77, R93, R103,
R104, R167): every field of the layouts of section 11.3 in its order, with the codes of section 11.5, an absent field as
0, an absent index as 255 and reserved bytes as 0 (R174), the divisor and the effective rate of a line by R8. A watch
entry above 63 and a slot above 7 are refused OUT_OF_RANGE (R93, R104) with a body of zeros (R175). The model's readings:
a SNAPSHOT READ above 1024 bytes is ADJUSTED (assumption log 28); the entry that a refused WATCH READ returns has no
pattern element, so its body is 232 bytes long (DEDUCED, log 27). That UNIT STATUS does not count itself among the frames
of the request input queue is the model's choice (log 39). -/
def Obligations.ReadsChangeNothing : Prop :=
  (let flag (b : Bool) : Nat := if b then 1 else 0
    let lengths : Option SnapshotLengths → List Byte
      | none => [0, 0, 0, 0]
      | some o => beBytes 2 o.pre ++ beBytes 2 o.post
    (∀ s : State, s.statusBytes =
      [0x24#8, 0x10#8, 1#8] ++ beBytes 1 s.unitNumber.toNat ++ beBytes 1 (flag s.upLink) ++ beBytes 1 (flag s.downLink)
        ++ beBytes 1 (match s.attendance.state with | .off => 0 | .attended => 1 | .unattended => 2) ++ [0]
        ++ s.unit.bytes ++ beBytes 4 (s.attendance.left.getD 0) ++ beBytes 4 s.attendance.lapses.toNat
        ++ beBytes 4 s.unitTime.toNat ++ s.counters.bytes ++ beBytes 1 s.downQueue.length ++ beBytes 1 s.upQueue.length
        ++ beBytes 1 s.requests.length ++ beBytes 1 (s.responses.length + s.heldPlaces))
    ∧ (∀ r : UnitRecord, r.bytes =
      beBytes 6 r.group.toNat ++ beBytes 2 r.etherType.toNat ++ beBytes 6 r.station.toNat ++ beBytes 6 r.collector.toNat
        ++ beBytes 1 (match r.period with | .off => 0 | .s10 => 1 | .s60 => 2 | .s300 => 3)
        ++ beBytes 1 (match r.policy with | .keep => 0 | .recycle => 1)
        ++ beBytes 1 r.keep ++ beBytes 1 r.fillLimit ++ beBytes 1 r.tolerance ++ beBytes 1 r.supervisors.length
        ++ r.supervisors.flatMap (fun a => beBytes 6 a.toNat) ++ List.replicate (6 * (4 - r.supervisors.length)) 0)
    ∧ (∀ c : UnitCounters, c.bytes =
      [c.downDrops, c.upDrops, c.responseDrops, c.dataCutOff, c.requestDrops, c.headerDrops, c.creditDrops].flatMap
        fun n => beBytes 4 n.toNat)
    ∧ (∀ r : LineRecord, r.bytes =
      beBytes 1 (match r.policy with | .fixed => 0 | .auto => 1) ++ beBytes 1 r.fixedIndex.val
        ++ beBytes 1 r.fallbackIndex.val ++ beBytes 1 (match r.framing.dataBits with | .seven => 7 | .eight => 8)
        ++ beBytes 1 (match r.framing.parity with | .absent => 0 | .even => 1 | .odd => 2)
        ++ beBytes 1 (match r.framing.stopBits with | .one => 1 | .two => 2)
        ++ beBytes 1 (match r.probe with | .silent => 0 | .cr => 1)
        ++ beBytes 1 (match r.edges with | .e16 => 16 | .e32 => 32 | .e64 => 64 | .e128 => 128)
        ++ beBytes 1 (match r.window with | .s1 => 1 | .s2 => 2 | .s5 => 5 | .s10 => 10)
        ++ beBytes 1 (match r.attempts with | .a1 => 1 | .a2 => 2 | .a4 => 4 | .a6 => 6)
        ++ beBytes 1 (match r.failure with | .hold => 0 | .fallback => 1 | .dark => 2)
        ++ beBytes 1 r.streakLimit ++ beBytes 2 r.charGap ++ beBytes 2 r.lineGap
        ++ beBytes 1 (match r.breakPolicy with | .forbid => 0 | .holder => 1 | .supervisor => 2)
        ++ beBytes 2 r.floorIdle ++ beBytes 1 (match r.parkMode with | .none => 0 | .last => 1) ++ beBytes 1 r.ringKiB
        ++ beBytes 1 (flag r.burstSnapshot.isSome) ++ lengths r.burstSnapshot
        ++ beBytes 1 (flag r.breakSnapshot.isSome) ++ lengths r.breakSnapshot ++ beBytes 1 (flag r.alerts))
    ∧ (∀ (v : Line) (now : Word32),
      let place : Option TakenRate → Nat
        | none => 255
        | some r => r.index.val
      let divisor := match v.current with | none => 0 | some r => (2 * 921600 + r.rate) / (2 * r.rate)
      v.conditionBytes now =
        beBytes 1
            (match v.state with | .off => 0 | .queued => 1 | .measuring => 2 | .live => 3 | .dark => 4 | .loop => 5)
          ++ beBytes 1 (match v.test with | none => 255 | some x => match x.prior with | .off => 0 | .live => 3)
          ++ beBytes 1 (match v.test with | none => 0 | some x => flag x.restartPending)
          ++ beBytes 1 (place v.current) ++ beBytes 2 divisor
          ++ beBytes 4 (if divisor = 0 then 0 else 921600 / divisor) ++ beBytes 1 (place v.last)
          ++ ([v.counters.bytesCaptured, v.counters.parityErrors, v.counters.framingErrors, v.counters.breaksIn,
              v.counters.breaksOut, v.counters.bytesTyped, v.counters.bytesTransmitted].flatMap
            fun n => beBytes 4 n.toNat)
          ++ beBytes 2 v.injection.length
          ++ beBytes 4
            (match v.hold with | none => 0 | some e => if holdRuns now e = true then (e - now).toNat else 0)
          ++ beBytes 1 v.streak ++ beBytes 1 v.attempts
          ++ beBytes 1 (match v.monitor.state with | .quiet => 0 | .rising => 1 | .burst => 2 | .falling => 3)
          ++ beBytes 2 v.monitor.fast ++ beBytes 2 v.monitor.long ++ beBytes 1 v.monitor.count)
    ∧ (∀ p : MonitorParams, p.bytes =
      beBytes 1 p.bf ++ beBytes 1 p.bl ++ beBytes 1 p.te ++ beBytes 1 p.th ++ beBytes 2 p.dfloor ++ beBytes 1 p.ce
        ++ beBytes 1 p.cx ++ beBytes 1 p.tb ++ beBytes 1 p.group)
    ∧ (∀ m : Monitor, m.bytes =
      beBytes 1 (match m.state with | .quiet => 0 | .rising => 1 | .burst => 2 | .falling => 3) ++ beBytes 2 m.fast
        ++ beBytes 2 m.long ++ beBytes 1 m.count ++ beBytes 1 (flag m.seedPending) ++ beBytes 2 m.chars
        ++ beBytes 2 m.errors ++ beBytes 4 (m.burstLeft.getD 0))
    ∧ (∀ m : Mark, m.bytes =
      beBytes 6 m.offset ++ beBytes 4 m.stamp.toNat
        ++ beBytes 1
          (match m.kind with
            | .breakIn => 1 | .breakOut => 2 | .burstBegin => 3 | .burstEnd => 4 | .watchHit => 5 | .rateSet => 6
            | .rateLost => 7 | .measureBegin => 8 | .lineOff => 9 | .snapshot => 10)
        ++ [0] ++ beBytes 2 m.arg)
    ∧ (∀ e : WatchEntry, e.bytes =
      beBytes 1 (flag e.enabled) ++ beBytes 1 e.pattern.length ++ beBytes 4 e.lines.toNat ++ beBytes 1 e.hitsNeeded
        ++ beBytes 2 e.holdoff
        ++ beBytes 1 (flag e.mark + 2 * flag e.note + 4 * flag e.snapshot.isSome + 8 * flag e.dropFloor
          + 16 * flag e.holdType.isSome)
        ++ lengths e.snapshot ++ beBytes 1 (e.holdType.getD 0)
        ++ e.pattern.flatMap fun
          | .literal b fold => beBytes 1 (flag fold) ++ [b]
          | .any => [2, 0])
    ∧ (∀ p : WatchPair, p.bytes =
      beBytes 1 p.hits ++ beBytes 4 (p.holdoff.getD 0) ++ beBytes 4 p.fires.toNat)
    ∧ ∀ k : Slot, k.bytes =
      beBytes 1 (match k.state with | .free => 0 | .filling => 1 | .complete => 2) ++ beBytes 1 k.line.val
        ++ beBytes 1
          (match k.cause with
            | none => 0 | some (.watch _) => 1 | some .burst => 2 | some .breakIn => 3 | some .request => 4)
        ++ beBytes 1 (match k.cause with | some (.watch i) => i.val | _ => 255)
        ++ beBytes 4 k.stamp.toNat ++ beBytes 6 k.offset ++ beBytes 2 k.preHeld ++ beBytes 2 k.postTarget
        ++ beBytes 2 k.postHeld ++ beBytes 1 (flag k.truncated) ++ [0] ++ beBytes 2 k.retriggers
        ++ beBytes 4 (k.fillLeft.getD 0))
  ∧ ∀ (s : State) (rq : Request) (rest : List Frame),
    let u := s.taken rq rest
    (s.admits .unitStatus rq rest → exec .unitStatus s = .next (upGrant (u.answered rq .ok u.statusBytes)))
    ∧ (s.admits .rateTableRead rq rest →
      exec .rateTableRead s = .next (upGrant
        (u.answered rq .ok (s.rates.toList.flatMap (beBytes 4) ++ beBytes 1 s.unit.tolerance))))
    ∧ (∀ l : LineNo, numAt rq.body 0 1 = l.val →
      (s.admits .lineRead rq rest →
        exec .lineRead s = .next (upGrant (u.answered rq .ok
          (beBytes 1 l.val ++ (s.line l).record.bytes ++ (s.line l).conditionBytes s.unitTime))))
      ∧ (s.admits .monitorRead rq rest →
        exec .monitorRead s = .next (upGrant (u.answered rq .ok
          (beBytes 1 l.val ++ (s.line l).params.bytes ++ (s.line l).monitor.bytes))))
      ∧ (s.admits .marksRead rq rest →
        let found := (s.line l).marks.filter fun m => decide (numAt rq.body 1 6 ≤ m.offset)
        exec .marksRead s = .next (upGrant (u.answered rq .ok
          (beBytes 6 (s.line l).ring.oldest ++ beBytes 6 (s.line l).ring.newest
            ++ beBytes 4 (s.line l).markLoss.toNat ++ beBytes 1 found.length ++ beBytes 1 (min 16 found.length)
            ++ (found.take 16).flatMap Mark.bytes)))))
    ∧ (∀ i : EntryNo, numAt rq.body 0 1 = i.val → s.admits .watchRead rq rest →
      exec .watchRead s = .next (upGrant (u.answered rq .ok
        (beBytes 1 i.val ++ (s.entry i).bytes
          ++ (List.finRange 24).flatMap fun l => ((s.line l).pair i).bytes))))
    ∧ (64 ≤ numAt rq.body 0 1 → s.admits .watchRead rq rest →
      exec .watchRead s = .next (upGrant (u.answered rq .outOfRange (zeros 232))))
    ∧ (8 ≤ numAt rq.body 0 1 → s.admits .snapshotRead rq rest →
      exec .snapshotRead s = .next (upGrant (u.answered rq .outOfRange (zeros 14))))
    ∧ (s.admits .snapshotList rq rest →
      exec .snapshotList s = .next (upGrant (u.answered rq .ok
        (s.slots.toList.flatMap Slot.bytes ++ beBytes 1 (match s.unit.policy with | .keep => 0 | .recycle => 1)
          ++ beBytes 1 s.unit.fillLimit ++ [0, 0]))))
    ∧ (∀ k : SlotNo, numAt rq.body 0 1 = k.val → s.admits .snapshotRead rq rest →
      let start := numAt rq.body 1 2
      let bytes := ((s.slot k).data.drop start).take (min 1024 (numAt rq.body 3 2))
      exec .snapshotRead s = .next (upGrant
        (u.answered rq (if 1024 < numAt rq.body 3 2 then .adjusted else .ok)
          (beBytes 1 (match (s.slot k).state with | .free => 0 | .filling => 1 | .complete => 2)
            ++ beBytes 1 (s.slot k).line.val ++ beBytes 6 (s.slot k).offset
            ++ beBytes 2 (s.slot k).preHeld ++ beBytes 2 start ++ beBytes 2 bytes.length ++ bytes))))

/-- RATE TABLE READ (R42): all sixteen entries in index order, 0 for empty ones, and the tolerance, answered OK to any
origin, nothing changed. -/
def Obligations.RateTableReadReturnsTable : Prop :=
  ∀ (s : State) (rq : Request) (rest : List Frame), s.offers .rateTableRead rq rest →
    exec .rateTableRead s = .next (upGrant ((s.taken rq rest).answered rq .ok
      ((List.finRange 16).flatMap (fun i => beBytes 4 (s.rateAt i)) ++ beBytes 1 s.unit.tolerance)))

/-- UNIT SET (R165): a record that passes its checks is applied whole and answered from the new station address, OK or
ADJUSTED when a clamp was made; a changed attendance period starts attendance afresh (R170), a changed keep setting
restarts or stops every OPEN session's keep timer (R115), and nothing else changes. A record that does not is refused
OUT_OF_RANGE and changes nothing. What each field of the block may be: a group address that is one, a station that is
neither zero nor a group address, a collector that is no group address, an EtherType from 0x0600 on, a period and a policy
of their sets, at most four supervisors, none zero, a group address or named twice; a keep above 240, a fill limit of 0
and a tolerance outside 5–100 are clamped (R165, section 11.3). That the response carries the new EtherType is the model's
choice (assumption log 36): R165 settles its station address alone. -/
def Obligations.UnitSetApplies : Prop :=
  (∀ b : List Byte, 50 ≤ b.length →
    let field := numAt b
    let fits : Prop :=
      field 0 1 % 2 = 1 ∧ 0x0600 ≤ field 6 2 ∧ field 8 6 ≠ 0 ∧ field 8 1 % 2 = 0 ∧ field 14 1 % 2 = 0
      ∧ field 20 1 ≤ 3 ∧ field 21 1 ≤ 1
      ∧ field 25 1 ≤ 4 ∧ (∀ i, i < field 25 1 → field (26 + 6 * i) 6 ≠ 0 ∧ field (26 + 6 * i) 1 % 2 = 0)
      ∧ ∀ i j, i < j → j < field 25 1 → field (26 + 6 * i) 6 ≠ field (26 + 6 * j) 6
    (¬ fits → readUnitRecord b = none)
    ∧ (fits → readUnitRecord b = some
        { val :=
            { group := BitVec.ofNat 48 (field 0 6), etherType := BitVec.ofNat 16 (field 6 2)
              station := BitVec.ofNat 48 (field 8 6), collector := BitVec.ofNat 48 (field 14 6)
              period := (match field 20 1 with | 0 => .off | 1 => .s10 | 2 => .s60 | _ => .s300)
              policy := if field 21 1 = 0 then .keep else .recycle
              keep := min 240 (field 22 1), fillLimit := max 1 (field 23 1), tolerance := max 5 (min 100 (field 24 1))
              supervisors := (List.range (field 25 1)).map fun i => BitVec.ofNat 48 (field (26 + 6 * i) 6) }
          clamped := decide (240 < field 22 1 ∨ field 23 1 = 0 ∨ field 24 1 < 5 ∨ 100 < field 24 1) }))
  ∧ ∀ (s : State) (rq : Request) (rest : List Frame), s.admits .unitSet rq rest →
    (readUnitRecord rq.body = none →
      exec .unitSet s = .next (upGrant ((s.taken rq rest).answered rq .outOfRange [])))
    ∧ ∀ c, readUnitRecord rq.body = some c →
      ∃ t : State, exec .unitSet s = .next (upGrant (t.answered rq (if c.clamped then .adjusted else .ok) []))
        ∧ t.unit = c.val
        ∧ t.attendance =
          (if c.val.period = s.unit.period then (s.taken rq rest).attendance
          else
            match c.val.period.ms with
            | none => { (s.taken rq rest).attendance with state := .off, left := none }
            | some ms => { (s.taken rq rest).attendance with state := .attended, left := some ms })
        ∧ (∀ i, t.session i =
            let r := (s.taken rq rest).session i
            if c.val.keep = s.unit.keep ∨ r.isOpen = false then r
            else { r with keepLeft := if c.val.keep = 0 then none else some (c.val.keep * 60000) })
        ∧ t = { s.taken rq rest with unit := t.unit, attendance := t.attendance, sessions := t.sessions }

/-- SET TIME (R166): unit time takes the value, the answer gives the old and the new time, and where every hold still
runs under the new time nothing else changes: a hold runs while its forward distance is above 0 and below 2^31 (R16). UNIT
RESET is answered OK and waits for its response to leave (R168).
-/
def Obligations.SetTimeAndUnitReset : Prop :=
  (∀ now e : Word32, holdRuns now e = true ↔ 0 < (e - now).toNat ∧ (e - now).toNat < 2 ^ 31)
  ∧ (∀ (s : State) (rq : Request) (rest : List Frame), s.admits .setTime rq rest →
    ∃ t : State, exec .setTime s =
        .next (upGrant (t.answered rq .ok (beBytes 4 s.unitTime.toNat ++ beBytes 4 (numAt rq.body 0 4))))
      ∧ t.unitTime = BitVec.ofNat 32 (numAt rq.body 0 4)
      ∧ (∀ l, (s.line l).hold = none → t.line l = s.line l)
      ∧ (∀ l e, (s.line l).hold = some e → holdRuns t.unitTime e = true → t.line l = s.line l)
      ∧ (∀ l e, (s.line l).hold = some e → holdRuns t.unitTime e = false →
          (t.line l).hold = none ∧ (t.line l).ring = (s.line l).ring ∧ (t.line l).state = (s.line l).state)
      ∧ t = { s.taken rq rest with unitTime := t.unitTime, lines := t.lines })
  ∧ ∀ (s : State) (rq : Request) (rest : List Frame), s.admits .unitReset rq rest →
    exec .unitReset s =
      .next (upGrant (respond rq { status := .ok, body := [], resets := true }
        (grantData { s.taken rq rest with resetPhase := .answered })))

/-- EVENTS READ (R152): the summary of the scope is returned and cleared, and nothing else changes; a scope that is
neither a line nor UNIT is refused OUT_OF_RANGE. Any origin may ask. -/
def Obligations.EventsReadClears : Prop :=
  ∀ (s : State) (rq : Request) (rest : List Frame), s.offers .eventsRead rq rest → 1 ≤ rq.body.length →
    let u := s.taken rq rest
    (numAt rq.body 0 1 = 255 →
      exec .eventsRead s = .next (upGrant
        (State.answered { u with unitSummary := { kinds := 0, outcome := .none } } rq .ok
          (beBytes 1 255 ++ beBytes 2 s.unitSummary.kinds.toNat ++ zeros 8 ++ zeros 1
            ++ beBytes 1 (match s.unitSummary.outcome with | .none => 0 | .sent => 1 | .lost => 2)))))
    ∧ (∀ l : LineNo, numAt rq.body 0 1 = l.val →
      exec .eventsRead s = .next (upGrant
        ((u.setLine l { s.line l with summary := .reset }).answered rq .ok
          (beBytes 1 l.val ++ beBytes 2 (s.line l).summary.kinds.toNat
            ++ beBytes 8 (s.line l).summary.watches.toNat ++ beBytes 1 (s.line l).summary.reasons.toNat
            ++ beBytes 1 (match (s.line l).summary.outcome with | .none => 0 | .sent => 1 | .lost => 2)))))
    ∧ (24 ≤ numAt rq.body 0 1 → numAt rq.body 0 1 ≠ 255 →
      exec .eventsRead s = .next (upGrant (u.answered rq .outOfRange (zeros 13))))

/-- What the engine itself refuses (R161, R163, R109): a kind it does not carry out is answered UNKNOWN_KIND; a short body
MALFORMED; a session request that names no OPEN session NO_SESSION, and one of another origin DENIED; a configuration
request from an origin outside a non-empty supervisor list DENIED. The body of a refusal is its kind's at zeros, but for
the floor report (R131, R173, R175). The request has no effect but to leave the queue, refresh the session it names and
end a lapse. Each kind has its code of section 11.5, and no other code is one; the engine takes a request when the
response queue has a free place, which a CREDIT does not need, no LINE TEST response waits and no UNIT RESET was taken
(R161, R162, R168); one that none of these checks refuses is carried out. The model's reading (DEDUCED, assumption log
27): a DENIED FLOOR REQUEST or RELEASE reports the floor of the session that the header names. -/
def Obligations.EngineRefuses : Prop :=
  let leastOf (k : RequestKind) (body : List Byte) : Nat := match k with
    | .unitStatus | .unitReset | .rateTableRead | .snapshotList | .closeSession | .floorRelease => 0
    | .lineRead | .lineEnable | .lineDisable | .lineMeasure | .monitorRead | .eventsRead | .watchRead
    | .snapshotFree | .floorRequest => 1
    | .typeBytes => if body.length < 2 then 2 else 2 + min 512 (numAt body 0 2)
    | .lineTest => if body.length < 2 then 2 else 2 + min 16 (numAt body 1 1)
    | .sendBreak | .credit => 2
    | .setTime => 4
    | .snapshotRead | .snapshotTake => 5
    | .marksRead | .seek => 7
    | .monitorSet | .openSession => 14
    | .watchSet => if body.length < 16 then 16 else 16 + 2 * min 24 (numAt body 2 1)
    | .lineSet => 33
    | .unitSet => 50
    | .rateTableSet => 64
  (∀ (c : Byte) (k : RequestKind), RequestKind.ofCode c = some k ↔ c =
    match k with
    | .unitStatus => 0x01 | .unitSet => 0x02 | .setTime => 0x03 | .unitReset => 0x04 | .lineRead => 0x10
    | .lineSet => 0x11 | .lineEnable => 0x12 | .lineDisable => 0x13 | .lineMeasure => 0x14 | .lineTest => 0x15
    | .rateTableRead => 0x16 | .rateTableSet => 0x17 | .monitorRead => 0x18 | .monitorSet => 0x19 | .marksRead => 0x1A
    | .eventsRead => 0x1B | .watchRead => 0x20 | .watchSet => 0x21 | .snapshotList => 0x28 | .snapshotRead => 0x29
    | .snapshotFree => 0x2A | .snapshotTake => 0x2B | .openSession => 0x30 | .closeSession => 0x31 | .seek => 0x32
    | .floorRequest => 0x33 | .floorRelease => 0x34 | .typeBytes => 0x35 | .sendBreak => 0x36 | .credit => 0x40)
  ∧ (∀ (rq : Request) (i : SessionNo), rq.sessionNo = some i ↔ rq.session.toNat = i.val)
  ∧ (∀ (s : State) (k : RequestKind), s.mayTake k = true ↔
    s.resetPhase = .idle ∧ s.waitingTests = [] ∧ (k = .credit ∨ s.responses.length + s.heldPlaces < 16))
  ∧ (∀ (s : State) (k : RequestKind) (rq : Request), s.engineCheck k rq = none ↔
    leastOf k rq.body ≤ rq.body.length
    ∧ ((k = .closeSession ∨ k = .seek ∨ k = .credit ∨ k = .floorRequest ∨ k = .floorRelease ∨ k = .typeBytes
        ∨ k = .sendBreak) →
      ∃ i, rq.sessionNo = some i ∧ (s.session i).isOpen = true ∧ (s.session i).origin = rq.origin)
    ∧ ((k = .lineSet ∨ k = .lineEnable ∨ k = .lineDisable ∨ k = .lineMeasure ∨ k = .lineTest ∨ k = .rateTableSet
        ∨ k = .monitorSet ∨ k = .watchSet ∨ k = .unitSet ∨ k = .setTime ∨ k = .unitReset ∨ k = .snapshotFree) →
      s.unit.supervisors = [] ∨ rq.origin ∈ s.unit.supervisors))
  ∧ (∀ (s : State) (f : Frame) (rest : List Frame), s.requests = f :: rest →
    RequestKind.ofCode (frameKind f) = none → s.resetPhase = .idle → s.waitingTests = [] →
    s.responses.length + s.heldPlaces < 16 →
    exec .unknownKindRequest s =
      .next (upGrant ((s.taken (Request.ofFrame f) rest).answered (Request.ofFrame f) .unknownKind [])))
  ∧ ∀ (s : State) (rq : Request) (rest : List Frame) (k : RequestKind), k ≠ .credit → s.offers k rq rest →
    let command : Instr := match k with
      | .unitStatus => .unitStatus | .unitSet => .unitSet | .setTime => .setTime | .unitReset => .unitReset
      | .lineRead => .lineRead | .lineSet => .lineSet | .lineEnable => .lineEnable | .lineDisable => .lineDisable
      | .lineMeasure => .lineMeasure | .lineTest => .lineTest | .rateTableRead => .rateTableRead
      | .rateTableSet => .rateTableSet | .monitorRead => .monitorRead | .monitorSet => .monitorSet
      | .marksRead => .marksRead | .eventsRead => .eventsRead | .watchRead => .watchRead | .watchSet => .watchSet
      | .snapshotList => .snapshotList | .snapshotRead => .snapshotRead | .snapshotFree => .snapshotFree
      | .snapshotTake => .snapshotTake | .openSession => .openSession | .closeSession => .closeSession | .seek => .seek
      | .floorRequest => .floorRequest | .floorRelease => .floorRelease | .typeBytes => .typeBytes
      | .sendBreak => .sendBreak | .credit => .credit
    let least := leastOf k rq.body
    let refused (st : Status) (body : List Byte) : Host.Outcome State Fault Refusal :=
      .next (upGrant ((s.taken rq rest).answered rq st body))
    (rq.body.length < least → exec command s = refused .malformed [])
    ∧ (least ≤ rq.body.length →
      (∀ n, ((k = .closeSession ∧ n = 11) ∨ (k = .seek ∧ n = 32) ∨ ((k = .typeBytes ∨ k = .sendBreak) ∧ n = 2)) →
        ((rq.sessionNo = none ∨ ∃ i, rq.sessionNo = some i ∧ (s.session i).isOpen = false) →
          exec command s = refused .noSession (zeros n))
        ∧ (∀ i, rq.sessionNo = some i → (s.session i).isOpen = true → (s.session i).origin ≠ rq.origin →
          exec command s = refused .denied (zeros n)))
      ∧ ((k = .floorRequest ∨ k = .floorRelease) →
        ((rq.sessionNo = none ∨ ∃ i, rq.sessionNo = some i ∧ (s.session i).isOpen = false) →
          exec command s = refused .noSession [0, 255, 0, 0])
        ∧ (∀ i, rq.sessionNo = some i → (s.session i).isOpen = true → (s.session i).origin ≠ rq.origin →
          exec command s = refused .denied (s.floorReport i)))
      ∧ ((k = .lineSet ∨ k = .lineEnable ∨ k = .lineDisable ∨ k = .lineMeasure ∨ k = .lineTest ∨ k = .rateTableSet
          ∨ k = .monitorSet ∨ k = .watchSet ∨ k = .unitSet ∨ k = .setTime ∨ k = .unitReset ∨ k = .snapshotFree) →
        s.unit.supervisors ≠ [] → rq.origin ∉ s.unit.supervisors →
        exec command s = refused .denied (zeros (if k = .lineTest then 3 else if k = .setTime then 8 else 0))))

/-- A line number above 23 is refused OUT_OF_RANGE and changes nothing (R5, R6, R18, R22, R24, R38, R56, R77, R102). -/
def Obligations.LineNumberRefused : Prop :=
  ∀ (s : State) (rq : Request) (rest : List Frame), 24 ≤ numAt rq.body 0 1 →
    let refused (n : Nat) : Host.Outcome State Fault Refusal :=
      .next (upGrant ((s.taken rq rest).answered rq .outOfRange (zeros n)))
    (s.admits .lineRead rq rest → exec .lineRead s = refused 86)
    ∧ (s.admits .lineSet rq rest → exec .lineSet s = refused 0)
    ∧ (s.admits .lineEnable rq rest → exec .lineEnable s = refused 0)
    ∧ (s.admits .lineDisable rq rest → exec .lineDisable s = refused 0)
    ∧ (s.admits .lineMeasure rq rest → exec .lineMeasure s = refused 0)
    ∧ (s.admits .lineTest rq rest → exec .lineTest s = refused 3)
    ∧ (s.admits .monitorRead rq rest → exec .monitorRead s = refused 26)
    ∧ (s.admits .marksRead rq rest → exec .marksRead s = refused 18)
    ∧ (s.admits .snapshotTake rq rest →
        exec .snapshotTake s = .next (upGrant ((s.taken rq rest).answered rq .outOfRange (beBytes 1 255))))

/-- What taking a request does before it is carried out (R109, R161, R170): it leaves the queue, a lapse ends with the
timer at full length, and the OPEN session of the request's origin that its header names is refreshed; nothing else
changes. That the request leaves the queue before and not after it is carried out is the model's choice (assumption log
39). -/
def Obligations.TakenRequestRefreshes : Prop :=
  ∀ (s : State) (rq : Request) (rest : List Frame),
    let t := s.taken rq rest
    t = { s with requests := rest, heldPlaces := 1, attendance := t.attendance, sessions := t.sessions }
    ∧ (s.attendance.state ≠ .unattended → t.attendance = s.attendance)
    ∧ (∀ ms, s.attendance.state = .unattended → s.unit.period.ms = some ms →
        t.attendance = { s.attendance with state := .attended, left := some ms })
    ∧ ∀ i, t.session i =
        if rq.session.toNat = i.val ∧ (s.session i).isOpen = true ∧ (s.session i).origin = rq.origin then
          { s.session i with
            lastHeard := s.unitTime
            keepLeft := if s.unit.keep = 0 then none else some (s.unit.keep * 60000) }
        else s.session i

/-! ### Requests on lines -/

/-- LINE ENABLE (R5): an OFF or DARK line under FIXED enters LIVE at the rate of its fixed index; under AUTO it joins
the probe queue with its attempt count cleared, and an idle engine takes it at once; a line in another state is left
as it is. The answer is OK. A line number above 23 is refused OUT_OF_RANGE, an origin that a non-empty supervisor
list lacks DENIED. -/
def Obligations.LineEnableStartsLine : Prop :=
  ∀ (s : State) (rq : Request) (rest : List Frame) (l : LineNo),
    (s.offers .lineEnable rq rest → 1 ≤ rq.body.length → s.unit.supervisors ≠ [] → rq.origin ∉ s.unit.supervisors →
      exec .lineEnable s = .next (upGrant ((s.taken rq rest).answered rq .denied [])))
    ∧ (s.admits .lineEnable rq rest → 24 ≤ numAt rq.body 0 1 →
      exec .lineEnable s = .next (upGrant ((s.taken rq rest).answered rq .outOfRange [])))
    ∧ (s.admits .lineEnable rq rest → numAt rq.body 0 1 = l.val → s.engineReady →
    let u := s.taken rq rest
    let v := s.line l
    let rate : TakenRate := { index := v.record.fixedIndex, rate := s.rateAt v.record.fixedIndex }
    ((v.state = .off ∨ v.state = .dark) → v.record.policy = .fixed →
      exec .lineEnable s = .next (upGrant (State.answered
        (raisePlain l .rateSet (appendMark l .rateSet v.record.fixedIndex.val
          (u.setLine l
            { v with
              state := .live, current := some rate, last := some rate, matchWindow := [], streak := 0
              gap := none, tx := .idle, rx := if v.rxd = .mark then .waiting else .awaitMark, test := none
              monitor := { state := .quiet, fast := 0, long := 0, count := 0, seedPending := true,
                           burstLeft := none, sampleLeft := some 100, chars := 0, errors := 0 } })))
        rq .ok [])))
    ∧ ((v.state = .off ∨ v.state = .dark) → v.record.policy = .auto → s.engine ≠ none →
      exec .lineEnable s = .next (upGrant (State.answered
        { u.setLine l { v with state := .queued, attempts := 0, test := none } with
          probeQueue := s.probeQueue ++ [l] } rq .ok [])))
    ∧ ((v.state = .off ∨ v.state = .dark) → v.record.policy = .auto → s.engine = none →
      ∃ (t : State) (m : Measurement), exec .lineEnable s = .next (upGrant (t.answered rq .ok [])) ∧ t.probeQueue = []
        ∧ t.engine = some m ∧ m.line = l ∧ m.edgeCount = 0 ∧ m.windowLeft = v.record.window.seconds * 1000
        ∧ (t.line l).state = .measuring ∧ (t.line l).attempts = 0
        ∧ (t.line l).marks.getLast? =
            some { offset := v.ring.newest, stamp := s.unitTime, kind := .measureBegin, arg := 0 }
        ∧ (∀ j, j ≠ l → t.line j = s.line j))
    ∧ ((v.state = .queued ∨ v.state = .measuring ∨ v.state = .live ∨ v.state = .loop) →
      exec .lineEnable s = .next (upGrant (u.answered rq .ok []))))

/-- LINE DISABLE (R6, R81, R136): from any state but OFF the line goes OFF with a LINE_OFF mark, its floor FREE and its
list cleared, its hit counts and holdoffs cleared and its fire counts kept; a HELD floor's holder or a PARKED one's
session is sent LOST with reason LINE_OFF, after the response or the SNAPSHOT_DONE that the exit makes (assumption log
21); a slot FILLING for a LIVE line is truncated (R4, R101); record, counters and ring are kept, no session is closed (one
that the settled line makes ready is granted: assumption log 6), and but for a line the freed engine takes no other line
changes. A line already OFF is left unchanged. The answer is OK. -/
def Obligations.LineDisableTurnsOff : Prop :=
  ∀ (s : State) (rq : Request) (rest : List Frame) (l : LineNo),
    s.admits .lineDisable rq rest → numAt rq.body 0 1 = l.val → s.linesLaw →
    ((s.line l).state = .off →
      exec .lineDisable s = .next (upGrant ((s.taken rq rest).answered rq .ok [])))
    ∧ ((s.line l).state ≠ .off →
      ∃ t : State, exec .lineDisable s = .next (upGrant (t.answered rq .ok []))
        ∧ (t.line l).state = .off ∧ (t.line l).tx = .idle ∧ (t.line l).injection = [] ∧ (t.line l).hold = none
        ∧ (t.line l).current = none ∧ (t.line l).test = none ∧ (t.line l).monitor.state = .quiet
        ∧ (t.line l).floor.state = .free ∧ (t.line l).floor.waiting = [] ∧ (t.line l).floor.idle = .stopped
        ∧ (∀ i, (t.line l).pair i = { (s.line l).pair i with hits := 0, holdoff := none })
        ∧ (t.line l).record = (s.line l).record ∧ (t.line l).counters = (s.line l).counters
        ∧ (t.line l).ring = (s.line l).ring
        ∧ (t.line l).marks.getLast? =
            some { offset := (s.line l).ring.newest, stamp := s.unitTime, kind := .lineOff, arg := 0 }
        ∧ l ∉ t.probeQueue
        ∧ t.sessions =
            (if (s.line l).state = .live then
              grantData ((s.taken rq rest).setLine l { s.line l with settled := true })
            else s.taken rq rest).sessions
        ∧ ((s.line l).state = .live → s.truncates l t)
        ∧ ((s.line l).state ≠ .live → t.slots = s.slots)
        ∧ t.losesFloor l .lineOff
            (if (s.line l).state = .live then
              let g := grantData ((s.taken rq rest).setLine l { s.line l with settled := true })
              if (s.fillingSlot? l).isSome then raiseLine l .snapshotDone 0 0 0 g else g
            else match (s.line l).test with
              | none => s.taken rq rest
              | some x => placeTest (s.testFrame x .aborted) (s.taken rq rest))
        ∧ ((s.line l).state ≠ .measuring → t.engine = s.engine ∧ ∀ j, j ≠ l → t.line j = s.line j)
        ∧ ((s.line l).state = .measuring → t.engine.map (·.line) = s.probeQueue.head?
            ∧ ∀ j, j ≠ l → s.probeQueue.head? ≠ some j → t.line j = s.line j)
        ∧ ∀ x, (s.line l).test = some x →
            { frame := s.testFrame x .aborted, resets := false } ∈ t.responses
              ∨ s.testFrame x .aborted ∈ t.waitingTests ∨ t.upTx = some (.response (s.testFrame x .aborted) false))

/-- LINE MEASURE (R38): a line in LIVE, OFF or DARK goes to the tail of the probe queue with its attempt count cleared,
or straight into measurement where the engine is idle; its floor and record are kept and no other line changes; a slot FILLING
for a LIVE line is truncated (R4, R101); a session
that a settled line makes ready is granted at once (assumption log 6). In
QUEUED, MEASURING and LOOP it is refused BUSY. -/
def Obligations.LineMeasureQueuesLine : Prop :=
  ∀ (s : State) (rq : Request) (rest : List Frame) (l : LineNo),
    s.admits .lineMeasure rq rest → numAt rq.body 0 1 = l.val → s.engineReady →
    let u := s.taken rq rest
    let v := s.line l
    ((v.state = .live ∨ v.state = .off ∨ v.state = .dark) →
      ∃ t : State, exec .lineMeasure s = .next (upGrant (t.answered rq .ok []))
        ∧ (t.line l).attempts = 0 ∧ (t.line l).record = v.record ∧ (t.line l).ring = v.ring
        ∧ (t.line l).floor.state = v.floor.state ∧ (t.line l).floor.waiting = v.floor.waiting
        ∧ (∀ j, j ≠ l → t.line j = s.line j)
        ∧ t.sessions = (if v.state = .live then grantData (u.setLine l { v with settled := true }) else u).sessions
        ∧ (s.engine ≠ none →
            (t.line l).state = .queued ∧ t.probeQueue = s.probeQueue ++ [l] ∧ t.engine = s.engine)
        ∧ (s.engine = none →
            (t.line l).state = .measuring ∧ t.probeQueue = [] ∧ t.engine.map (·.line) = some l)
        ∧ (v.state = .live →
            s.truncates l t
            ∧ (t.line l).injection = [] ∧ (t.line l).hold = none ∧ (t.line l).current = none
            ∧ (t.line l).last = v.last ∧ (t.line l).monitor.state = .quiet)
        ∧ (v.state ≠ .live → t.slots = s.slots))
    ∧ ((v.state = .queued ∨ v.state = .measuring ∨ v.state = .loop) →
      exec .lineMeasure s = .next (upGrant (u.answered rq .busy [])))

/-- LINE TEST (R18): a LIVE line leaves LIVE, a slot FILLING for it being truncated (R4, R101), and enters LOOP at its
current rate, an OFF line enters LOOP at its fallback rate, the first pattern byte goes out, and no response is made yet;
a line in QUEUED, MEASURING or LOOP is refused BUSY, one in DARK NOT_LIVE, a pattern of 0 bytes or more than 16
OUT_OF_RANGE, whatever the state: that this check comes first is the model's choice (assumption log 37). A session that
the settled line makes ready is granted at once: log 6. -/
def Obligations.LineTestEntersLoop : Prop :=
  ∀ (s : State) (rq : Request) (rest : List Frame) (l : LineNo),
    s.admits .lineTest rq rest → numAt rq.body 0 1 = l.val →
    let u := s.taken rq rest
    let v := s.line l
    let count := numAt rq.body 1 1
    let pattern := (rq.body.drop 2).take count
    (1 ≤ count → count ≤ 16 → v.state = .off →
      ∃ b, pattern[0]? = some b
        ∧ exec .lineTest s = .next (upGrant
          { u.setLine l
              { v with
                state := .loop
                tx := .pattern b v.record.framing
                test := some
                  { prior := .off, restartPending := false, rate := s.rateAt v.record.fallbackIndex
                    pattern := pattern, sent := 0, received := 0, matched := 0, firstMismatch := none
                    wait := none, origin := rq.origin, session := rq.session, tag := rq.tag } } with
            heldPlaces := 0 }))
    ∧ (∀ r, 1 ≤ count → count ≤ 16 → v.state = .live → v.current = some r →
      ∃ (t : State) (b : Byte) (x : LoopTest), pattern[0]? = some b ∧ exec .lineTest s = .next (upGrant t) ∧ t.heldPlaces = 0
        ∧ (t.line l).state = .loop ∧ (t.line l).test = some x ∧ x.prior = .live ∧ x.rate = r.rate
        ∧ x.pattern = pattern ∧ x.sent = 0 ∧ x.received = 0 ∧ (t.line l).tx = .pattern b v.record.framing
        ∧ (t.line l).injection = [] ∧ (t.line l).hold = none ∧ (t.line l).current = none
        ∧ (t.line l).last = v.last ∧ (t.line l).monitor.state = .quiet ∧ (t.line l).ring = v.ring
        ∧ (t.line l).floor.state = v.floor.state ∧ (t.line l).floor.waiting = v.floor.waiting
        ∧ (∀ j, j ≠ l → t.line j = s.line j)
        ∧ s.truncates l t
        ∧ t.sessions = (grantData (u.setLine l { v with settled := true })).sessions)
    ∧ (1 ≤ count → count ≤ 16 → (v.state = .queued ∨ v.state = .measuring ∨ v.state = .loop) →
      exec .lineTest s = .next (upGrant (u.answered rq .busy (zeros 3))))
    ∧ (1 ≤ count → count ≤ 16 → v.state = .dark →
      exec .lineTest s = .next (upGrant (u.answered rq .notLive (zeros 3))))
    ∧ ((count = 0 ∨ 16 < count) → exec .lineTest s = .next (upGrant (u.answered rq .outOfRange (zeros 3))))

/-- LINE SET (R22, R23, R50, R138): a record that passes its checks is stored whole and answered OK, or ADJUSTED when a
clamp was made; one written back unchanged has no effect. A changed floor idle time starts a HELD floor's timer afresh. A
changed ring size empties the ring at `newest`, clears the marks and moves the line's cursors. A restart brings a QUEUED,
MEASURING, LIVE or DARK line LIVE at the new fixed rate under FIXED, and a MEASURING, LIVE or DARK one to the tail of the
probe queue under AUTO; a line in LOOP has it pending, one that is OFF or QUEUED under AUTO is left. A restart of a LIVE
line truncates a slot FILLING for it (R4, R101). A field outside its set is refused OUT_OF_RANGE, a ring that does not fit
NO_ROOM, and a refusal changes nothing. What each field of the block may be (R21, section 11.3): the coded fields are of
their sets, the rate indices name non-empty entries, the streak limit is at most 15 and the ring 1–64 KiB; gaps above 250
and 2000 ms, an idle time above 3600 s and snapshot lengths above 8192 are clamped; that the lengths of an option that is
off are not is the model's reading (assumption log 13). A session that the settled line of a restart makes ready is
granted at once, after a resize has moved the cursors (R121, R158): the model's order, assumption log 6. -/
def Obligations.LineSetApplies : Prop :=
  (∀ (rates : Vector Nat 16) (b : List Byte),
    let field := numAt b
    let names (n : Nat) (i : RateIndex) : Prop := n = i.val ∧ rates[i.val] ≠ 0
    let coded : Prop :=
      field 0 1 ≤ 1 ∧ (field 3 1 = 7 ∨ field 3 1 = 8) ∧ field 4 1 ≤ 2 ∧ (field 5 1 = 1 ∨ field 5 1 = 2) ∧ field 6 1 ≤ 1
      ∧ (field 7 1 = 16 ∨ field 7 1 = 32 ∨ field 7 1 = 64 ∨ field 7 1 = 128)
      ∧ (field 8 1 = 1 ∨ field 8 1 = 2 ∨ field 8 1 = 5 ∨ field 8 1 = 10)
      ∧ (field 9 1 = 1 ∨ field 9 1 = 2 ∨ field 9 1 = 4 ∨ field 9 1 = 6) ∧ field 10 1 ≤ 2 ∧ field 11 1 ≤ 15 ∧ field 16 1 ≤ 2
      ∧ field 19 1 ≤ 1 ∧ 1 ≤ field 20 1 ∧ field 20 1 ≤ 64 ∧ field 21 1 ≤ 1 ∧ field 26 1 ≤ 1 ∧ field 31 1 ≤ 1
    let option (flag pre post : Nat) : Option SnapshotLengths :=
      if flag = 0 then none else some { pre := min 8192 pre, post := min 8192 post }
    ((¬ coded ∨ (∀ i, ¬ names (field 1 1) i) ∨ ∀ i, ¬ names (field 2 1) i) → readLineRecord rates b = none)
    ∧ ∀ i j, coded → names (field 1 1) i → names (field 2 1) j →
      readLineRecord rates b = some
        { val :=
            { policy := if field 0 1 = 0 then .fixed else .auto
              fixedIndex := i, fallbackIndex := j
              framing :=
                { dataBits := if field 3 1 = 7 then .seven else .eight
                  parity := (match field 4 1 with | 0 => .absent | 1 => .even | _ => .odd)
                  stopBits := if field 5 1 = 1 then .one else .two }
              probe := if field 6 1 = 0 then .silent else .cr
              edges := (match field 7 1 with | 16 => .e16 | 32 => .e32 | 64 => .e64 | _ => .e128)
              window := (match field 8 1 with | 1 => .s1 | 2 => .s2 | 5 => .s5 | _ => .s10)
              attempts := (match field 9 1 with | 1 => .a1 | 2 => .a2 | 4 => .a4 | _ => .a6)
              failure := (match field 10 1 with | 0 => .hold | 1 => .fallback | _ => .dark)
              streakLimit := field 11 1
              charGap := min 250 (field 12 2), lineGap := min 2000 (field 14 2)
              breakPolicy := (match field 16 1 with | 0 => .forbid | 1 => .holder | _ => .supervisor)
              floorIdle := min 3600 (field 17 2)
              parkMode := if field 19 1 = 0 then .none else .last
              ringKiB := field 20 1
              burstSnapshot := option (field 21 1) (field 22 2) (field 24 2)
              breakSnapshot := option (field 26 1) (field 27 2) (field 29 2)
              alerts := decide (field 31 1 = 1) }
          clamped := decide (250 < field 12 2 ∨ 2000 < field 14 2 ∨ 3600 < field 17 2
            ∨ field 21 1 = 1 ∧ (8192 < field 22 2 ∨ 8192 < field 24 2)
            ∨ field 26 1 = 1 ∧ (8192 < field 27 2 ∨ 8192 < field 29 2)) })
  ∧ ∀ (s : State) (rq : Request) (rest : List Frame) (l : LineNo),
    s.admits .lineSet rq rest → numAt rq.body 0 1 = l.val →
    let u := s.taken rq rest
    let v := s.line l
    let sum (kib : Nat) := ((List.finRange 24).map fun j =>
      (if j = l then kib else (s.line j).record.ringKiB) * 1024).sum
    (readLineRecord s.rates (rq.body.drop 1) = none →
      exec .lineSet s = .next (upGrant (u.answered rq .outOfRange [])))
    ∧ ∀ c, readLineRecord s.rates (rq.body.drop 1) = some c →
      (393216 < sum c.val.ringKiB → exec .lineSet s = .next (upGrant (u.answered rq .noRoom [])))
      ∧ (sum c.val.ringKiB ≤ 393216 →
        let new := c.val
        let restart := new.policy ≠ v.record.policy ∨ new.policy = .fixed ∧ new.fixedIndex ≠ v.record.fixedIndex
        let resized := new.ringKiB ≠ v.record.ringKiB
        let idle : IdleTimer := match v.floor.state with
          | .held _ =>
            if new.floorIdle = v.record.floorIdle then v.floor.idle
            else if new.floorIdle = 0 then .stopped
            else if v.floor.busy then .heldStill else .running (new.floorIdle * 1000)
          | .free | .parked _ => v.floor.idle
        let ring : Ring :=
          if resized then { oldest := v.ring.newest, newest := v.ring.newest, bytes := [] } else v.ring
        let moved (i : SessionNo) : Session :=
          let r := u.session i
          if resized ∧ r.isOpen = true ∧ r.line = l ∧ r.cursor < v.ring.newest then
            { r with
              cursor := v.ring.newest
              gap := min (r.gap + (v.ring.newest - r.cursor)) (2 ^ 32 - 1)
              lost := min (r.lost + (v.ring.newest - r.cursor)) (2 ^ 32 - 1) }
          else r
        let w : State := { u with sessions := Vector.ofFn moved }
        ∃ t : State, exec .lineSet s = .next (upGrant (t.answered rq (if c.clamped then .adjusted else .ok) []))
          ∧ (t.line l).record = new ∧ (new = v.record → t = u)
          ∧ (t.line l).ring = ring ∧ (resized → (t.line l).markLoss = v.markLoss
              ∧ ∀ m ∈ (t.line l).marks, m.offset = v.ring.newest)
          ∧ (t.line l).floor.state = v.floor.state ∧ (t.line l).floor.waiting = v.floor.waiting
          ∧ ((¬ restart ∨ v.state = .off ∨ v.state = .loop ∨ v.state = .queued ∧ new.policy = .auto) →
              t.line l =
                { v with
                  record := new, ring := ring, marks := if resized then [] else v.marks
                  floor := { v.floor with idle := idle }
                  test := if restart ∧ v.state = .loop then v.test.map fun x => { x with restartPending := true }
                    else v.test }
              ∧ (∀ j, j ≠ l → t.line j = s.line j)
              ∧ (∀ i, t.session i = moved i)
              ∧ t = { u with lines := t.lines, sessions := t.sessions })
          ∧ (restart → s.linesLaw → (v.state = .queued ∧ new.policy = .fixed ∨ v.state = .measuring ∨ v.state = .live
                ∨ v.state = .dark) →
              (t.line l).injection = [] ∧ (t.line l).hold = none ∧ (t.line l).test = none
              ∧ (v.state = .live → s.truncates l t) ∧ (v.state ≠ .live → t.slots = s.slots)
              ∧ (new.policy = .fixed →
                  let rate : TakenRate := { index := new.fixedIndex, rate := s.rateAt new.fixedIndex }
                  (t.line l).state = .live ∧ (t.line l).current = some rate ∧ (t.line l).last = some rate
                  ∧ (t.line l).monitor.seedPending = true
                  ∧ (t.line l).marks.getLast? =
                      some { offset := v.ring.newest, stamp := s.unitTime, kind := .rateSet, arg := new.fixedIndex.val }
                  ∧ (v.state = .queued → t.probeQueue = s.probeQueue.erase l ∧ t.engine = s.engine)
                  ∧ (v.state = .measuring →
                      t.engine.map (·.line) = s.probeQueue.head? ∧ t.probeQueue = s.probeQueue.tail)
                  ∧ ((v.state = .live ∨ v.state = .dark) → t.probeQueue = s.probeQueue ∧ t.engine = s.engine))
              ∧ (new.policy = .auto →
                  (t.line l).current = none ∧ (t.line l).attempts = 0
                  ∧ ((v.state = .live ∨ v.state = .dark) → s.engine ≠ none →
                      (t.line l).state = .queued ∧ t.probeQueue = s.probeQueue ++ [l] ∧ t.engine = s.engine)
                  ∧ ((v.state = .live ∨ v.state = .dark) → s.engine = none →
                      (t.line l).state = .measuring ∧ t.probeQueue = [] ∧ t.engine.map (·.line) = some l)
                  ∧ (v.state = .measuring →
                      (t.line l).state = (if s.probeQueue = [] then .measuring else .queued)
                      ∧ t.engine.map (·.line) = (s.probeQueue ++ [l]).head?
                      ∧ t.probeQueue = (s.probeQueue ++ [l]).tail))
              ∧ (∀ j, j ≠ l → (v.state = .measuring → s.probeQueue.head? ≠ some j) → t.line j = s.line j)
              ∧ t.sessions =
                  (if v.state = .live then grantData (w.setLine l { v with ring := ring, settled := true })
                  else w).sessions))

/-- RATE TABLE SET (R43), MONITOR SET (R76) and WATCH SET (R91): what passes its checks replaces the whole table, the
parameters of every line of the set, or the whole entry with its counts cleared and its holdoffs stopped on every
line; what does not is refused and changes nothing. A MONITOR SET of an empty line set is OK and changes nothing. What each
field may be (R75, R76, R78, R91, section 11.3): every monitor parameter is clamped into its range; a watch entry's flag,
pattern of 1–24 elements of their kinds, lines 0–23, hits needed of 1–15 and actions are of their sets or the entry is
refused, and its holdoff, snapshot lengths and hold seconds are clamped; the fields of an absent action are neither kept
(R91) nor clamped, the latter the model's reading (assumption log 13). -/
def Obligations.TableSetsReplace : Prop :=
  (∀ b : List Byte,
    let field := numAt b
    readMonitorParams b =
      { val :=
          { bf := min 7 (field 0 1), bl := min 15 (field 1 1), te := field 2 1, th := field 3 1, dfloor := field 4 2
            ce := max 1 (min 15 (field 6 1)), cx := max 1 (min 15 (field 7 1)), tb := field 8 1, group := min 3 (field 9 1) }
        clamped := decide (7 < field 0 1 ∨ 15 < field 1 1 ∨ field 6 1 = 0 ∨ 15 < field 6 1 ∨ field 7 1 = 0 ∨ 15 < field 7 1
          ∨ 3 < field 9 1) })
  ∧ (∀ b : List Byte,
    let field := numAt b
    let fits : Prop :=
      field 0 1 ≤ 1 ∧ 1 ≤ field 1 1 ∧ field 1 1 ≤ 24 ∧ field 2 4 < 2 ^ 24 ∧ 1 ≤ field 6 1 ∧ field 6 1 ≤ 15 ∧ field 9 1 ≤ 31
      ∧ ∀ i, i < field 1 1 → field (15 + 2 * i) 1 ≤ 2
    let snaps : Bool := (field 9 1).testBit 2
    let holds : Bool := (field 9 1).testBit 4
    (¬ fits → readWatchEntry b = none)
    ∧ (fits → readWatchEntry b = some
        { val :=
            { enabled := decide (field 0 1 = 1)
              pattern := (List.range (field 1 1)).map fun i =>
                match field (15 + 2 * i) 1 with
                | 0 => .literal (BitVec.ofNat 8 (field (16 + 2 * i) 1)) false
                | 1 => .literal (BitVec.ofNat 8 (field (16 + 2 * i) 1)) true
                | _ => .any
              lines := BitVec.ofNat 24 (field 2 4), hitsNeeded := field 6 1, holdoff := min 255 (field 7 2)
              mark := (field 9 1).testBit 0, note := (field 9 1).testBit 1
              snapshot := if snaps then some { pre := min 8192 (field 10 2), post := min 8192 (field 12 2) } else none
              dropFloor := (field 9 1).testBit 3
              holdType := if holds then some (max 1 (min 60 (field 14 1))) else none }
          clamped := decide (255 < field 7 2 ∨ snaps = true ∧ (8192 < field 10 2 ∨ 8192 < field 12 2)
            ∨ holds = true ∧ (field 14 1 = 0 ∨ 60 < field 14 1)) }))
  ∧ (∀ (s : State) (rq : Request) (rest : List Frame), s.admits .rateTableSet rq rest →
    let value (i : RateIndex) := numAt rq.body (4 * i.val) 4
    let good (n : Nat) := n = 0 ∨ (300 ≤ n ∧ n ≤ 230400)
    let named (i : RateIndex) :=
      ∃ l, (s.line l).record.fixedIndex = i ∨ (s.line l).record.fallbackIndex = i
    ((∃ i, ¬ good (value i)) →
      exec .rateTableSet s = .next (upGrant ((s.taken rq rest).answered rq .outOfRange [])))
    ∧ ((∀ i, good (value i)) → (∃ i, value i = 0 ∧ named i) →
      exec .rateTableSet s = .next (upGrant ((s.taken rq rest).answered rq .busy [])))
    ∧ ((∀ i, good (value i)) → (∀ i, named i → value i ≠ 0) →
      exec .rateTableSet s = .next (upGrant
        (State.answered { s.taken rq rest with rates := Vector.ofFn value } rq .ok []))))
  ∧ (∀ (s : State) (rq : Request) (rest : List Frame), s.admits .monitorSet rq rest →
    (2 ^ 24 ≤ numAt rq.body 0 4 →
      exec .monitorSet s = .next (upGrant ((s.taken rq rest).answered rq .outOfRange [])))
    ∧ (numAt rq.body 0 4 < 2 ^ 24 →
      let p := readMonitorParams (rq.body.drop 4)
      ∃ t : State, exec .monitorSet s = .next (upGrant
          (t.answered rq (if numAt rq.body 0 4 ≠ 0 ∧ p.clamped = true then .adjusted else .ok) []))
        ∧ (∀ l, t.line l =
            if (numAt rq.body 0 4).testBit l.val then { s.line l with params := p.val } else s.line l)
        ∧ t = { s.taken rq rest with lines := t.lines }))
  ∧ ∀ (s : State) (rq : Request) (rest : List Frame), s.admits .watchSet rq rest →
    ((64 ≤ numAt rq.body 0 1 ∨ readWatchEntry (rq.body.drop 1) = none) →
      exec .watchSet s = .next (upGrant ((s.taken rq rest).answered rq .outOfRange [])))
    ∧ ∀ (i : EntryNo) (c : Clamped WatchEntry), numAt rq.body 0 1 = i.val →
      readWatchEntry (rq.body.drop 1) = some c →
      ∃ t : State, exec .watchSet s = .next (upGrant (t.answered rq (if c.clamped then .adjusted else .ok) []))
        ∧ t.entry i = c.val ∧ (∀ j, j ≠ i → t.entry j = s.entry j)
        ∧ (∀ l, (t.line l).pair i = { hits := 0, holdoff := none, fires := 0 }
            ∧ (∀ j, j ≠ i → (t.line l).pair j = (s.line l).pair j)
            ∧ t.line l = { s.line l with watch := (t.line l).watch })
        ∧ t = { s.taken rq rest with lines := t.lines, entries := t.entries }

/-! ### Requests on snapshots -/

/-- SNAPSHOT FREE (R105): a COMPLETE slot becomes FREE with its data discarded, a FILLING one is refused BUSY, a FREE
one is left; a slot number above 7 is refused OUT_OF_RANGE, an origin that a non-empty supervisor list lacks DENIED;
nothing else changes, so the line keeps its SNAPSHOT mark. -/
def Obligations.SnapshotFreeBySlotState : Prop :=
  (∀ (s : State) (rq : Request) (rest : List Frame), s.offers .snapshotFree rq rest → 1 ≤ rq.body.length →
    s.unit.supervisors ≠ [] → rq.origin ∉ s.unit.supervisors →
    exec .snapshotFree s = .next (upGrant ((s.taken rq rest).answered rq .denied [])))
  ∧ ∀ (s : State) (rq : Request) (rest : List Frame), s.admits .snapshotFree rq rest →
    let u := s.taken rq rest
    (8 ≤ numAt rq.body 0 1 → exec .snapshotFree s = .next (upGrant (u.answered rq .outOfRange [])))
    ∧ ∀ k : SlotNo, numAt rq.body 0 1 = k.val →
      ((s.slot k).state = .complete →
        exec .snapshotFree s = .next (upGrant ((u.setSlot k
          { state := .free, line := 0, cause := none, stamp := 0, offset := 0, preHeld := 0, postTarget := 0,
            postHeld := 0, truncated := false, retriggers := 0, data := [], fillLeft := none }).answered rq .ok [])))
      ∧ ((s.slot k).state = .filling → exec .snapshotFree s = .next (upGrant (u.answered rq .busy [])))
      ∧ ((s.slot k).state = .free → exec .snapshotFree s = .next (upGrant (u.answered rq .ok [])))

/-- SNAPSHOT TAKE (R97 to R99, R102): on a LIVE line without a FILLING slot the lowest FREE slot is taken, or with none
under RECYCLE the COMPLETE slot with the smallest trigger stamp, the lowest number among equals; its record is written
over whatever it held, the last bytes of the ring copied, post reduced so that both parts fit, a SNAPSHOT mark appended
and the fill limit started, and the slot is completed at once when no post byte is wanted; a line with a FILLING slot is
answered BUSY and counts a retrigger; with no FREE slot under KEEP, or with every slot FILLING, it is answered NO_ROOM and
SNAPSHOT_MISSED is raised; an OFF line is refused LINE_OFF, one in another state NOT_LIVE. -/
def Obligations.SnapshotTakeSettles : Prop :=
  (∀ (s : State) (l : LineNo) (k : SlotNo), s.fillingSlot? l = some k ↔
    ((s.slot k).state = .filling ∧ (s.slot k).line = l)
      ∧ ∀ j, j < k → ¬ ((s.slot j).state = .filling ∧ (s.slot j).line = l))
  ∧ (∀ (ring : Ring) (o n : Nat), ring.held = ring.newest - ring.oldest
    ∧ ring.read o n = (ring.bytes.drop (o - ring.oldest)).take n)
  ∧ ∀ (s : State) (rq : Request) (rest : List Frame) (l : LineNo),
    s.admits .snapshotTake rq rest → numAt rq.body 0 1 = l.val →
    let u := s.taken rq rest
    let ring := (s.line l).ring
    let asked := numAt rq.body 1 2
    let wanted := numAt rq.body 3 2
    let pre := min 8192 asked
    let post := min (min 8192 wanted) (8192 - pre)
    ((s.line l).state = .off →
      exec .snapshotTake s = .next (upGrant (u.answered rq .lineOff (beBytes 1 255))))
    ∧ ((s.line l).state ≠ .off → (s.line l).state ≠ .live →
      exec .snapshotTake s = .next (upGrant (u.answered rq .notLive (beBytes 1 255))))
    ∧ (∀ k, (s.line l).state = .live → s.fillingSlot? l = some k →
      exec .snapshotTake s = .next (upGrant
        ((u.setSlot k { s.slot k with retriggers := min ((s.slot k).retriggers + 1) 65535 }).answered rq .busy
          (beBytes 1 k.val))))
    ∧ ((s.line l).state = .live → s.fillingSlot? l = none → (∀ k, (s.slot k).state ≠ .free) →
      (s.unit.policy = .keep ∨ ∀ k, (s.slot k).state = .filling) →
      exec .snapshotTake s = .next (upGrant ((raiseUnit .snapshotMissed u).answered rq .noRoom (beBytes 1 255))))
    ∧ ∀ k, (s.line l).state = .live → s.fillingSlot? l = none →
      ((s.slot k).state = .free ∧ (∀ j, j < k → (s.slot j).state ≠ .free)
        ∨ s.unit.policy = .recycle ∧ (∀ j, (s.slot j).state ≠ .free) ∧ (s.slot k).state = .complete
          ∧ ∀ j, (s.slot j).state = .complete →
              (s.slot k).stamp.toNat < (s.slot j).stamp.toNat ∨ (s.slot k).stamp = (s.slot j).stamp ∧ k ≤ j) →
      let k' : Slot :=
        { state := .filling, line := l, cause := some .request, stamp := s.unitTime, offset := ring.newest
          preHeld := min pre ring.held, postTarget := post, postHeld := 0, truncated := false, retriggers := 0
          data := ring.read (ring.newest - min pre ring.held) (min pre ring.held)
          fillLeft := some (s.unit.fillLimit * 1000) }
      let t := appendMark l .snapshot k.val (u.setSlot k k')
      exec .snapshotTake s = .next (upGrant (State.answered
        (if post = 0 then raisePlain l .snapshotDone (t.setSlot k { k' with state := .complete, fillLeft := none })
        else t)
        rq (if asked ≤ 8192 ∧ wanted ≤ 8192 ∧ post = wanted then .ok else .adjusted) (beBytes 1 k.val)))

/-! ### Requests of sessions -/

/-- OPEN (R110, R111): a passing OPEN takes the lowest FREE record and sets it, the cursor and the gather clamped, and
answers with its number, the ring's offsets and the cursor; operands outside their sets, a SUPERVISOR class the list
forbids, and a full table are refused with session number 255; nothing else changes. The operands are of their sets when the
line is 0–23, the role and the class 0 or 1 and the position 0, 1 or 2 (section 11.3). A session that opens ready is granted
DATA before its response is placed (R121, R158): the model's order, assumption log 6. -/
def Obligations.OpenSetsRecord : Prop :=
  (∀ b : List Byte,
    let field := numAt b
    ((24 ≤ field 0 1 ∨ 2 ≤ field 1 1 ∨ 2 ≤ field 2 1 ∨ 3 ≤ field 3 1) → readOpen b = none)
    ∧ ∀ l : LineNo, field 0 1 = l.val → field 1 1 ≤ 1 → field 2 1 ≤ 1 → field 3 1 ≤ 2 →
      readOpen b = some
        { line := l
          role := if field 1 1 = 0 then .watcher else .typist
          cls := if field 2 1 = 0 then .operator else .supervisor
          position := (match field 3 1 with | 0 => .newest | 1 => .oldest | _ => .at (field 4 6))
          gather := field 10 2, credit := field 12 2 })
  ∧ ∀ (s : State) (rq : Request) (rest : List Frame), s.admits .openSession rq rest →
    let u := s.taken rq rest
    let refused (st : Status) : Host.Outcome State Fault Refusal :=
      .next (upGrant (u.answered rq st (beBytes 1 255 ++ zeros 18)))
    (readOpen rq.body = none → exec .openSession s = refused .outOfRange)
    ∧ ∀ o, readOpen rq.body = some o →
      let allowed := o.cls = .operator ∨ s.unit.supervisors = [] ∨ rq.origin ∈ s.unit.supervisors
      (¬ allowed → exec .openSession s = refused .denied)
      ∧ (allowed → (∀ i, (s.session i).isOpen = true) → exec .openSession s = refused .noSlot)
      ∧ ∀ i, allowed → (s.session i).isOpen = false → (∀ j, j < i → (s.session j).isOpen = true) →
        (s.line o.line).ring.oldest ≤ (s.line o.line).ring.newest →
        let ring := (s.line o.line).ring
        let cursor := match o.position with
          | .newest => ring.newest
          | .oldest => ring.oldest
          | .at a => max ring.oldest (min ring.newest a)
        let gather := if o.gather ≤ 1 then 1 else if o.gather ≤ 64 then 64 else if o.gather ≤ 256 then 256 else 1024
        exec .openSession s = .next (upGrant
          ((u.setSession i
            { isOpen := true, origin := rq.origin, line := o.line, role := o.role, cls := o.cls, cursor := cursor
              credit := o.credit, gather := gather, gap := 0, lost := 0, lastHeard := s.unitTime
              keepLeft := if s.unit.keep = 0 then none else some (s.unit.keep * 60000) }).answered rq
            (if gather = o.gather ∧ (o.position = .newest ∨ o.position = .oldest ∨ o.position = .at cursor) then .ok
            else .adjusted)
            (beBytes 1 i.val ++ beBytes 6 ring.oldest ++ beBytes 6 ring.newest ++ beBytes 6 cursor)))

/-- SEEK (R113) moves the cursor alone, clamped into the ring, and reports the session's standing; CREDIT (R114) adds to
the credit alone, saturating at 65,535, and gets no response; a CREDIT whose session fails the check is dropped and
counted. A session that a SEEK makes ready is granted DATA before its response is placed (R121, R158): the model's order,
assumption log 6. -/
def Obligations.SeekAndCredit : Prop :=
  (∀ (s : State) (rq : Request) (rest : List Frame) (i : SessionNo), s.admits .seek rq rest →
    rq.sessionNo = some i →
    (s.line (s.session i).line).ring.oldest ≤ (s.line (s.session i).line).ring.newest →
    let u := s.taken rq rest
    let r := u.session i
    let ring := (s.line r.line).ring
    let code := numAt rq.body 0 1
    let offset := numAt rq.body 1 6
    let cursor := if code = 0 then ring.newest else if code = 1 then ring.oldest
      else max ring.oldest (min ring.newest offset)
    (3 ≤ code → exec .seek s = .next (upGrant (u.answered rq .outOfRange (zeros 32))))
    ∧ (code ≤ 2 →
      exec .seek s = .next (upGrant
        ((u.setSession i { r with cursor := cursor }).answered rq
          (if code = 2 ∧ cursor ≠ offset then .adjusted else .ok)
          (beBytes 6 ring.oldest ++ beBytes 6 ring.newest ++ beBytes 6 cursor ++ beBytes 2 r.credit
            ++ beBytes 4 r.gap ++ beBytes 4 r.lost ++ beBytes 4 s.unitTime.toNat)))))
  ∧ (∀ (s : State) (rq : Request) (rest : List Frame) (i : SessionNo), s.admits .credit rq rest →
    rq.sessionNo = some i →
    let u := s.taken rq rest
    let r := u.session i
    exec .credit s = .next (upGrant
      { u.setSession i { r with credit := min 65535 (r.credit + numAt rq.body 0 2) } with heldPlaces := 0 }))
  ∧ ∀ (s : State) (rq : Request) (rest : List Frame), s.offers .credit rq rest → s.engineCheck .credit rq ≠ none →
    exec .credit s = .next (upGrant
      { s.taken rq rest with
        heldPlaces := 0
        counters := { s.counters with creditDrops := s.counters.creditDrops + 1 } })

/-- CLOSE (R112, R135): a session without standing at its floor is closed and its record takes the FREE values, the answer
giving the cursor and lost total it had; a holder's floor with nobody waiting becomes FREE without a notice, and with
waiters goes to the next of them, the first SUPERVISOR in the list or else its head, with its idle timer started (R132,
R138) and a GRANTED notice, placed before the response (R128), but no LOST one; a waiter leaves the list. The order of the
response and a DATA frame is the model's (assumption log 6). -/
def Obligations.CloseFreesRecord : Prop :=
  (∀ (s : State) (waiting : List SessionNo),
    (∀ ahead w behind, waiting = ahead ++ w :: behind → (s.session w).cls = .supervisor →
      (∀ j ∈ ahead, (s.session j).cls = .operator) → s.nextWaiter? waiting = some w)
    ∧ ((∀ j ∈ waiting, (s.session j).cls = .operator) → s.nextWaiter? waiting = waiting.head?))
  ∧ ∀ (s : State) (rq : Request) (rest : List Frame) (i : SessionNo), s.admits .closeSession rq rest →
    rq.sessionNo = some i →
    let u := s.taken rq rest
    let r := s.session i
    let v := s.line r.line
    let free : Session :=
      { isOpen := false, origin := 0, line := 0, role := .watcher, cls := .operator, cursor := 0, credit := 0
        gather := 1, gap := 0, lost := 0, lastHeard := 0, keepLeft := none }
    let body := beBytes 1 i.val ++ beBytes 6 r.cursor ++ beBytes 4 r.lost
    (v.floor.state ≠ .held i → v.floor.state ≠ .parked i →
      exec .closeSession s = .next (upGrant
        (((u.setLine r.line { v with floor := { v.floor with waiting := v.floor.waiting.erase i } }).setSession i
          free).answered rq .ok body)))
    ∧ ((v.floor.state = .held i ∧ v.floor.waiting = []) ∨ v.floor.state = .parked i →
      exec .closeSession s = .next (upGrant
        (((u.setLine r.line { v with floor := { v.floor with state := .free, idle := .stopped } }).setSession i
          free).answered rq .ok body)))
    ∧ ∀ w, v.floor.state = .held i → s.nextWaiter? v.floor.waiting = some w →
      let handed := u.setLine r.line
        { v with floor := { v.floor with
            state := .held w
            waiting := v.floor.waiting.erase w
            idle := if v.record.floorIdle = 0 then .stopped
              else if v.floor.busy then .heldStill else .running (v.record.floorIdle * 1000) } }
      let t := (placeNotice (handed.noticeFrame r.line w none) handed).setSession i free
      exec .closeSession s = .next (upGrant (t.answered rq .ok body))
        ∧ t.session i = free ∧ (∀ j, j ≠ i → t.session j = u.session j)
        ∧ (t.line r.line).floor.state = .held w
        ∧ (t.line r.line).floor.waiting = v.floor.waiting.erase w
        ∧ (∀ j, j ≠ r.line → t.line j = s.line j)

/-! ### The floor -/

/-- FLOOR REQUEST (R129, R130): the first situation of R130 that applies decides. The requester becomes holder of a FREE
or PARKED floor, or of one it takes over, with the idle timer started, a displaced session being sent LOST with
reason TAKEOVER; a holder keeps it; any other waits, at the tail or where it stands. A WATCH session is refused
DENIED, a line that is OFF, or in LOOP with prior state OFF, LINE_OFF, one that is DARK NOT_LIVE. The model's choice
(assumption log 14): a takeover flag above 1 is refused OUT_OF_RANGE, before these checks. -/
def Obligations.FloorRequestSettled : Prop :=
  ∀ (s : State) (rq : Request) (rest : List Frame) (i : SessionNo), s.admits .floorRequest rq rest →
    rq.sessionNo = some i →
    let u := s.taken rq rest
    let l := (s.session i).line
    let v := s.line l
    let answer (t : State) (st : Status) : Host.Outcome State Fault Refusal :=
      .next (upGrant (t.answered rq st (t.floorReport i)))
    let idle : IdleTimer :=
      if v.record.floorIdle = 0 then .stopped
      else if v.floor.busy then .heldStill else .running (v.record.floorIdle * 1000)
    let held := u.setLine l
      { v with floor := { v.floor with state := .held i, waiting := v.floor.waiting.erase i, idle := idle } }
    let flag := numAt rq.body 0 1
    (1 < flag → exec .floorRequest s = answer u .outOfRange)
    ∧ (flag ≤ 1 → (s.session i).role = .watcher → exec .floorRequest s = answer u .denied)
    ∧ (flag ≤ 1 → (s.session i).role = .typist →
      (v.state = .off ∨ v.state = .loop ∧ ∃ x, v.test = some x ∧ x.prior = .off) →
      exec .floorRequest s = answer u .lineOff)
    ∧ (flag ≤ 1 → (s.session i).role = .typist → v.state = .dark → exec .floorRequest s = answer u .notLive)
    ∧ (flag ≤ 1 → (s.session i).role = .typist →
      (v.state = .live ∨ v.state = .queued ∨ v.state = .measuring
        ∨ v.state = .loop ∧ ∃ x, v.test = some x ∧ x.prior = .live) →
      (v.floor.state = .held i → exec .floorRequest s = answer u .ok)
      ∧ ((v.floor.state = .free ∨ v.floor.state = .parked i) → exec .floorRequest s = answer held .ok)
      ∧ (∀ p, v.floor.state = .parked p → p ≠ i →
        exec .floorRequest s = answer (placeNotice (held.noticeFrame l p (some .takeover)) held) .ok)
      ∧ (∀ h, v.floor.state = .held h → h ≠ i →
        let takes := (s.session h).cls = .operator ∧ flag = 1 ∧ (s.session i).cls = .supervisor
        (takes → exec .floorRequest s = answer (placeNotice (held.noticeFrame l h (some .takeover)) held) .ok)
        ∧ (¬ takes → i ∈ v.floor.waiting → exec .floorRequest s = answer u .queued)
        ∧ (¬ takes → i ∉ v.floor.waiting →
          exec .floorRequest s = answer
            (u.setLine l { v with floor := { v.floor with waiting := v.floor.waiting ++ [i] } }) .queued)))

/-- FLOOR RELEASE (R134): the holder's floor goes to the first SUPERVISOR waiter, or else to the head of the list, with
a GRANTED notice and no LOST one, or becomes FREE when nobody waits; a parked session's becomes FREE; a waiter
leaves the list; any other session changes nothing. The answer is OK with the floor report that results. -/
def Obligations.FloorReleaseServesWaiters : Prop :=
  ∀ (s : State) (rq : Request) (rest : List Frame) (i : SessionNo), s.admits .floorRelease rq rest →
    rq.sessionNo = some i →
    let u := s.taken rq rest
    let l := (s.session i).line
    let v := s.line l
    let answer (t : State) : Host.Outcome State Fault Refusal :=
      .next (upGrant (t.answered rq .ok (t.floorReport i)))
    ((v.floor.state = .held i ∧ v.floor.waiting = [] ∨ v.floor.state = .parked i) →
      exec .floorRelease s =
        answer (u.setLine l { v with floor := { v.floor with state := .free, idle := .stopped } }))
    ∧ (∀ w, v.floor.state = .held i → w ∈ v.floor.waiting →
      ((s.session w).cls = .supervisor
          ∧ (∀ x, v.floor.waiting.idxOf x < v.floor.waiting.idxOf w → (s.session x).cls = .operator)
        ∨ v.floor.waiting.head? = some w ∧ ∀ x ∈ v.floor.waiting, (s.session x).cls = .operator) →
      let t := u.setLine l
        { v with floor :=
          { v.floor with
            state := .held w
            waiting := v.floor.waiting.erase w
            idle := if v.record.floorIdle = 0 then .stopped
              else if v.floor.busy then .heldStill else .running (v.record.floorIdle * 1000) } }
      exec .floorRelease s = answer (placeNotice (t.noticeFrame l w none) t))
    ∧ (v.floor.state ≠ .held i → v.floor.state ≠ .parked i →
      exec .floorRelease s =
        answer (u.setLine l { v with floor := { v.floor with waiting := v.floor.waiting.erase i } }))

/-- TYPE (R13, R138, R141, R142): from the holder or the parked session of a LIVE line as many bytes join the queue as
it has room for and are counted, the rest is discarded, the answer is OK or PARTIAL with the accepted count, a
parked session becomes holder, the idle timer starts afresh, and the head element starts when the transmitter, gap
and hold let it. A byte count of 0 or above 512 is refused OUT_OF_RANGE, a session without the floor NOT_HOLDER, a
line that is not LIVE NOT_LIVE, with nothing changed. -/
def Obligations.TypeQueuesBytes : Prop :=
  ∀ (s : State) (rq : Request) (rest : List Frame) (i : SessionNo), s.admits .typeBytes rq rest →
    rq.sessionNo = some i →
    let u := s.taken rq rest
    let l := (s.session i).line
    let v := s.line l
    let count := numAt rq.body 0 2
    let room := 256 - v.injection.length
    let bytes := ((rq.body.drop 2).take count).take room
    ((count = 0 ∨ 512 < count) →
      exec .typeBytes s = .next (upGrant (u.answered rq .outOfRange (zeros 2))))
    ∧ (1 ≤ count → count ≤ 512 → v.floor.state ≠ .held i → v.floor.state ≠ .parked i →
      exec .typeBytes s = .next (upGrant (u.answered rq .notHolder (zeros 2))))
    ∧ (1 ≤ count → count ≤ 512 → (v.floor.state = .held i ∨ v.floor.state = .parked i) → v.state ≠ .live →
      exec .typeBytes s = .next (upGrant (u.answered rq .notLive (zeros 2))))
    ∧ (1 ≤ count → count ≤ 512 → (v.floor.state = .held i ∨ v.floor.state = .parked i) → v.state = .live →
      bytes.length = min count room
      ∧ exec .typeBytes s = .next (upGrant (State.answered
        (startElement l (u.setLine l
          { v with
            injection := v.injection ++ bytes.map Element.byte
            counters := { v.counters with
              bytesTyped := v.counters.bytesTyped + BitVec.ofNat 32 (min count room) }
            floor := { v.floor with
              state := .held i
              waiting := if v.floor.state = .parked i then v.floor.waiting.erase i else v.floor.waiting
              idle := if v.record.floorIdle = 0 then .stopped
                else if v.floor.busy then .heldStill else .running (v.record.floorIdle * 1000) } }))
        rq (if count ≤ room then .ok else .partTaken) (beBytes 2 (min count room)))))

/-- SEND BREAK (R143): a holder that the break policy allows, on a LIVE line with room, queues one BREAK of the duration
clamped to 50–2000 ms and restarts its idle timer, answered ADJUSTED when a clamp was made; the refusals come in the
order NOT_HOLDER, DENIED, NOT_LIVE, NO_ROOM and change nothing. -/
def Obligations.SendBreakQueues : Prop :=
  ∀ (s : State) (rq : Request) (rest : List Frame) (i : SessionNo), s.admits .sendBreak rq rest →
    rq.sessionNo = some i →
    let u := s.taken rq rest
    let l := (s.session i).line
    let v := s.line l
    let asked := numAt rq.body 0 2
    let ms := max 50 (min 2000 asked)
    let allowed := v.record.breakPolicy = .holder
      ∨ v.record.breakPolicy = .supervisor ∧ (s.session i).cls = .supervisor
    let refused (st : Status) : Host.Outcome State Fault Refusal := .next (upGrant (u.answered rq st (zeros 2)))
    (v.floor.state ≠ .held i → exec .sendBreak s = refused .notHolder)
    ∧ (v.floor.state = .held i → ¬ allowed → exec .sendBreak s = refused .denied)
    ∧ (v.floor.state = .held i → allowed → v.state ≠ .live → exec .sendBreak s = refused .notLive)
    ∧ (v.floor.state = .held i → allowed → v.state = .live → 256 ≤ v.injection.length →
      exec .sendBreak s = refused .noRoom)
    ∧ (v.floor.state = .held i → allowed → v.state = .live → v.injection.length < 256 →
      exec .sendBreak s = .next (upGrant (State.answered
        (startElement l (u.setLine l
          { v with
            injection := v.injection ++ [.brk ms]
            floor := { v.floor with
              idle := if v.record.floorIdle = 0 then .stopped
                else if v.floor.busy then .heldStill else .running (v.record.floorIdle * 1000) } }))
        rq (if 50 ≤ asked ∧ asked ≤ 2000 then .ok else .adjusted) (beBytes 2 ms))))

/-! ### Receivers -/

/-- A character captured on a LIVE line (R9, R12, R46, R62, R80, R83, R84, R117, R120): byte and errors counted, the byte
in ring and window, a full ring losing its oldest byte with the marks and cursors that falls below, hit counts and firings
of the watch entries, a pattern of P elements matching when the last P bytes of the window agree with them one by one: a
LITERAL with its own byte or, under fold, with the same letter in either case, ANY with every byte (R79, R83); the FILLING
slot one byte longer, the gather timer afresh; no other line changes. Every byte held stands at its offset modulo the ring
size in the ring's share of capture memory (R44). The entries that fire do their actions in order (R85): a WATCH_HIT mark
each (R86), their indices noted (R87), one trigger by the lowest with the number of the others (R88, R98, R99), the hold
extended by the longest (R16, R90), the floor released once with cause WATCH: served to the next waiter with LOST and
GRANTED notices, or FREE (R89, R137). The model's choices: a capture from a waiting receiver (assumption log 17), the slot
before the watch (log 9), a session made ready granted between the ring and the slot (log 6), the error count's limit (log
24). -/
def Obligations.CharacterCaptured : Prop :=
  (∀ (pattern : List PatternElement) (window : List Byte),
    let sameLetter (b c : Byte) : Prop := ∃ n, n < 26 ∧ (b.toNat = 0x41 + n ∨ b.toNat = 0x61 + n)
      ∧ (c.toNat = 0x41 + n ∨ c.toNat = 0x61 + n)
    let agrees (e : PatternElement) (c : Byte) : Prop := match e with
      | .literal b fold => c = b ∨ fold = true ∧ sameLetter b c
      | .any => True
    patternMatches pattern window = true ↔
      pattern.length ≤ window.length
      ∧ ∀ i e c, pattern[i]? = some e → window[window.length - pattern.length + i]? = some c → agrees e c)
  ∧ ∀ (s : State) (l : LineNo) (data : Byte) (p bad : Bool) (f : Framing),
    (s.line l).state = .live →
    ((s.line l).rx = .waiting ∧ f = (s.line l).record.framing ∨ (s.line l).rx = .assembling f) →
    let v := s.line l
    let b : Byte := if f.dataBits = .seven then data &&& 0x7F#8 else data
    let ones := (List.range 8).countP (fun i => b.getLsbD i) + (if p then 1 else 0)
    let wrong : Bool := match f.parity with
      | .absent => false
      | .even => ones % 2 == 1
      | .odd => ones % 2 == 0
    let full := v.record.ringKiB * 1024 ≤ v.ring.newest - v.ring.oldest
    let oldest := if full then v.ring.oldest + 1 else v.ring.oldest
    let window := (v.matchWindow ++ [b]).drop (v.matchWindow.length + 1 - 24)
    let hit (i : EntryNo) : Bool :=
      (s.entry i).enabled && (s.entry i).lines.getLsbD l.val && (v.pair i).holdoff.isNone
        && patternMatches (s.entry i).pattern window
    let fired (i : EntryNo) : Bool := hit i && (v.pair i).hits + 1 == (s.entry i).hitsNeeded
    let kept := v.marks.filter fun m => decide (oldest ≤ m.offset)
    let hitMarks : List Mark := ((List.finRange 64).filter fun i => fired i && (s.entry i).mark).map fun i =>
      { offset := v.ring.newest + 1, stamp := s.unitTime, kind := .watchHit, arg := i.val }
    let snaps := (List.finRange 64).filter fun i => fired i && (s.entry i).snapshot.isSome
    let byteSlot (k : SlotNo) : Slot :=
      let filled : Slot :=
        { s.slot k with postHeld := (s.slot k).postHeld + 1, data := (s.slot k).data ++ [b] }
      if s.fillingSlot? l ≠ some k then s.slot k
      else if (s.slot k).postTarget ≤ (s.slot k).postHeld + 1 then
        { filled with state := .complete, truncated := false, fillLeft := none }
      else filled
    ∃ r t : State,
      exec (if bad then .framingErrorCapture l data p else .characterCapture l data p) s = .next (upGrant t)
      ∧ (r.line l).ring = (t.line l).ring ∧ (r.line l).settled = false ∧ (∀ j, j ≠ l → r.line j = s.line j)
      ∧ r = { s with lines := r.lines, sessions := r.sessions }
      ∧ t.sessions = (grantData r).sessions
      ∧ (s.storeLaw → ∀ o, oldest ≤ o → o ≤ v.ring.newest →
          (t.line l).storedAt (o % (v.record.ringKiB * 1024)) = (t.line l).ring.byteAt o)
      ∧ (s.storeLaw → (t.line l).storedAt (v.ring.newest % (v.record.ringKiB * 1024)) = some b)
      ∧ (t.line l).ring =
          { oldest := oldest, newest := v.ring.newest + 1
            bytes := (if full then v.ring.bytes.tail else v.ring.bytes) ++ [b] }
      ∧ (t.line l).counters =
          { v.counters with
            bytesCaptured := v.counters.bytesCaptured + 1
            parityErrors := v.counters.parityErrors + (if wrong then 1 else 0)
            framingErrors := v.counters.framingErrors + (if bad then 1 else 0) }
      ∧ (t.line l).monitor =
          { v.monitor with
            chars := min 4095 (v.monitor.chars + 1)
            errors := min 8190 (v.monitor.errors + (if wrong then 1 else 0) + (if bad then 1 else 0)) }
      ∧ (t.line l).matchWindow = window
      ∧ (∀ rate, v.current = some rate →
          (t.line l).gather = some (max 4608 (4 * charTime v.record.framing rate.rate)))
      ∧ (∀ i, (¬ hit i → (t.line l).pair i = v.pair i)
          ∧ (hit i → ¬ fired i → (t.line l).pair i = { v.pair i with hits := (v.pair i).hits + 1 })
          ∧ (fired i → (t.line l).pair i =
              { hits := 0, fires := (v.pair i).fires + 1
                holdoff := if (s.entry i).holdoff = 0 then none else some ((s.entry i).holdoff * 1000) }))
      ∧ (∀ i, r.session i =
          if full ∧ (s.session i).isOpen = true ∧ (s.session i).line = l ∧ (s.session i).cursor < oldest then
            { s.session i with
              cursor := oldest
              gap := min ((s.session i).gap + (oldest - (s.session i).cursor)) (2 ^ 32 - 1)
              lost := min ((s.session i).lost + (oldest - (s.session i).cursor)) (2 ^ 32 - 1) }
          else s.session i)
      ∧ (∀ i, fired i → (s.entry i).note = true →
          (t.line l).summary.has .watchFired = true ∧ (t.line l).summary.watches.getLsbD i.val = true)
      ∧ (∀ i n, fired i → (s.entry i).holdType = some n → v.hold = none →
          (∀ j m, fired j → (s.entry j).holdType = some m → m ≤ n) →
          (t.line l).hold = some (s.unitTime + BitVec.ofNat 32 (n * 1000)))
      ∧ (∀ i n e, fired i → (s.entry i).holdType = some n → v.hold = some e →
          (∀ j m, fired j → (s.entry j).holdType = some m → m ≤ n) →
          let sum := s.unitTime + BitVec.ofNat 32 (n * 1000)
          (t.line l).hold = some
            (if holdRuns s.unitTime e = true ∧ (sum - s.unitTime).toNat ≤ (e - s.unitTime).toNat then e else sum))
      ∧ ((∀ i, fired i → (s.entry i).holdType = none) → (t.line l).hold = v.hold)
      ∧ ((∀ i, fired i → (s.entry i).dropFloor = false) → (t.line l).floor = v.floor)
      ∧ (∀ i h, fired i → (s.entry i).dropFloor = true → v.floor.state = .held h → v.floor.waiting = [] →
          (t.line l).floor = { v.floor with state := .free, idle := .stopped })
      ∧ (∀ i, fired i → (s.entry i).dropFloor = true →
          (v.floor.state = .free → (t.line l).floor = v.floor)
          ∧ ∃ x : State, (s.unit.collector = 0 → x.responses = s.responses ∧ x.upTx = (grantData r).upTx)
            ∧ (∀ p, (v.floor.state = .parked p ∨ v.floor.state = .held p ∧ v.floor.waiting = []) →
                (x.line l).floor = { v.floor with state := .free, idle := .stopped }
                ∧ t = placeNotice (x.noticeFrame l p (some .watch)) x)
            ∧ ∀ h w, v.floor.state = .held h → s.nextWaiter? v.floor.waiting = some w →
                (x.line l).floor =
                  { v.floor with
                    state := .held w
                    waiting := v.floor.waiting.erase w
                    idle := if v.record.floorIdle = 0 then .stopped
                      else if v.floor.busy then .heldStill else .running (v.record.floorIdle * 1000) }
                ∧ t = placeNotice (x.noticeFrame l w none) (placeNotice (x.noticeFrame l h (some .watch)) x))
      ∧ (∀ k, s.fillingSlot? l = some k → (s.slot k).postTarget ≤ (s.slot k).postHeld + 1 →
          (t.line l).summary.has .snapshotDone = true)
      ∧ (snaps = [] → (∀ k, t.slot k = byteSlot k)
          ∧ (v.marks.length ≤ 32 → (t.line l).marks = marksAfter kept hitMarks
              ∧ (t.line l).markLoss = v.markLoss + BitVec.ofNat 32 (kept.length + hitMarks.length - 32)))
      ∧ (∀ i rest o, snaps = i :: rest → (s.entry i).snapshot = some o →
          ∃ how : Settled,
            Trigger.settles { line := l, cause := .watch i, pre := o.pre, post := o.post, others := rest.length } s
              (t.line l) byteSlot t.slot how
            ∧ (v.marks.length ≤ 32 →
                let new := hitMarks ++ how.marks (v.ring.newest + 1) s.unitTime
                (t.line l).marks = marksAfter kept new
                ∧ (t.line l).markLoss = v.markLoss + BitVec.ofNat 32 (kept.length + new.length - 32))
            ∧ (how = .missed → t.unitSummary.has .snapshotMissed = true)
            ∧ (∀ k, how = .taken k → min o.post (8192 - o.pre) = 0 →
                (t.line l).summary.has .snapshotDone = true))
      ∧ ((∀ i, ¬ fired i) →
          (t.line l).marks = v.marks.filter (fun m => decide (oldest ≤ m.offset))
          ∧ (s.fillingSlot? l = none → t.slots = s.slots ∧ (t.line l).summary = v.summary)
          ∧ ∀ k, s.fillingSlot? l = some k →
              t.slot k =
                { s.slot k with
                  postHeld := (s.slot k).postHeld + 1
                  data := (s.slot k).data ++ [b]
                  state := if (s.slot k).postTarget ≤ (s.slot k).postHeld + 1 then .complete else (s.slot k).state
                  truncated :=
                    if (s.slot k).postTarget ≤ (s.slot k).postHeld + 1 then false else (s.slot k).truncated
                  fillLeft :=
                    if (s.slot k).postTarget ≤ (s.slot k).postHeld + 1 then none else (s.slot k).fillLeft }
              ∧ ∀ j, j ≠ k → t.slot j = s.slot j)
      ∧ t.line l =
          { v with
            ring := (t.line l).ring, marks := (t.line l).marks, markLoss := (t.line l).markLoss
            counters := (t.line l).counters, monitor := (t.line l).monitor, matchWindow := (t.line l).matchWindow
            watch := (t.line l).watch, hold := (t.line l).hold, floor := (t.line l).floor
            summary := (t.line l).summary, gather := (t.line l).gather
            rx := .waiting, rxd := .mark, settled := false }
      ∧ (∀ j, j ≠ l → t.line j = s.line j)
      ∧ (s.upFree = false → t.upTx = s.upTx ∧ t.lastMember = s.lastMember)
      ∧ t = { s with
          lines := t.lines, sessions := t.sessions, slots := t.slots, responses := t.responses
          unitSummary := t.unitSummary, upTx := t.upTx, lastMember := t.lastMember
          lastSession := (grantData r).lastSession
          counters := { s.counters with responseDrops := t.counters.responseDrops } }

/-- The other events of a receiver (R9, R10, R11): a start edge begins a character in the line's framing, or is noise and
ignored; a break is counted, marked and raised once for its space, with a trigger of the break snapshot option, and
captures nothing; a trigger counts in the slot that is FILLING for its line, takes a slot with its SNAPSHOT mark, or is
missed and raises SNAPSHOT_MISSED (R97 to R99); a return to mark lets the receiver wait for the next edge. While a
character is assembled, and outside LIVE, an edge changes the level of the pin alone, which the next entry into LIVE reads
(R11); in MEASURING edges come by the Rate Probe's commands: the model's choice (assumption log 5). A command that cannot
occur changes nothing: the model's choice (assumption log 1). -/
def Obligations.ReceiverEvents : Prop :=
  (∀ (g : Trigger) (s : State),
    let v := s.line g.line
    let t := fireTrigger g s
    ∃ how : Settled, g.settles s v s.slot t.slot how
      ∧ (v.marks.length ≤ 32 → (t.line g.line).marks = marksAfter v.marks (how.marks v.ring.newest s.unitTime))
      ∧ (how = .missed → t.unitSummary.has .snapshotMissed = true)
      ∧ (∀ k, how = .taken k → min g.post (8192 - g.pre) = 0 → (t.line g.line).summary.has .snapshotDone = true)
      ∧ (∀ j, j ≠ g.line → t.line j = s.line j) ∧ t.sessions = s.sessions)
  ∧ ∀ (s : State) (l : LineNo),
    let v := s.line l
    (v.state = .live → v.rx = .waiting →
      exec (.startEdge l true) s =
          .next (s.setLine l { v with rxd := .space, rx := .assembling v.record.framing })
      ∧ exec (.startEdge l false) s = .next (s.setLine l { v with rxd := .mark, rx := .waiting }))
    ∧ (∀ g, v.state = .live → v.rx = .assembling g → ∀ b,
      exec (.startEdge l b) s = .next (s.setLine l { v with rxd := if b then .space else .mark })
      ∧ exec (.rxdReturnToMark l) s = .next (s.setLine l { v with rxd := .mark }))
    ∧ ((v.state = .off ∨ v.state = .queued ∨ v.state = .dark ∨ v.state = .loop) → ∀ b,
      exec (.startEdge l b) s = .next (s.setLine l { v with rxd := if b then .space else .mark })
      ∧ exec (.rxdReturnToMark l) s = .next (s.setLine l { v with rxd := .mark }))
    ∧ (v.state = .measuring → ∀ b,
      exec (.startEdge l b) s = .next s ∧ exec (.rxdReturnToMark l) s = .next s)
    ∧ (v.state = .live → v.rx = .awaitMark →
      exec (.rxdReturnToMark l) s = .next (s.setLine l { v with rxd := .mark, rx := .waiting })
      ∧ exec (.breakIn l) s = .next s)
    ∧ (v.state = .live → v.rx ≠ .awaitMark →
      let counted := s.setLine l
        { v with
          counters := { v.counters with breaksIn := v.counters.breaksIn + 1 }, rx := .awaitMark, rxd := .space }
      let raised := raisePlain l .breakIn (appendMark l .breakIn 0 counted)
      (v.record.breakSnapshot = none → exec (.breakIn l) s = .next (upGrant raised))
      ∧ ∀ o, v.record.breakSnapshot = some o →
        exec (.breakIn l) s = .next (upGrant
          (fireTrigger { line := l, cause := .breakIn, pre := o.pre, post := o.post, others := 0 } raised)))
    ∧ (v.state ≠ .live → ∀ data p,
      exec (.breakIn l) s = .next s ∧ exec (.characterCapture l data p) s = .next (upGrant s)
      ∧ exec (.framingErrorCapture l data p) s = .next (upGrant s))

/-- The loopback test runs (R19): each character that comes back is compared with its pattern byte, the next pattern byte
follows when one is sent, and after the last the test waits four character times for the rest. At completion the response
is placed, waiting where the response queue has no room or others wait already (R162), and the line leaves LOOP: to OFF,
or to LIVE at its last rate, or, with a restart pending, as its record says (R23): LIVE at its fixed rate, or to the tail
of the probe queue. A wait that does not end within the present millisecond goes on. The model's readings of R19:
assumption logs 3, 16, 29 and 31. A parity error, which a test counts as a mismatch and capture counts (R9), is a
character whose ones, its parity bit among them, are odd in number under EVEN or even under ODD (R7). -/
def Obligations.LoopbackTest : Prop :=
  (∀ (f : Framing) (data : Byte) (p : Bool),
    let b : Byte := if f.dataBits = .seven then data &&& 0x7F#8 else data
    let ones := (List.range 8).countP (fun i => b.getLsbD i) + (if p then 1 else 0)
    f.parityError data p =
      match f.parity with
      | .absent => false
      | .even => ones % 2 == 1
      | .odd => ones % 2 == 0)
  ∧ (∀ (f : OutFrame) (s : State),
    let room := s.waitingTests = [] ∧ s.responses.length + s.heldPlaces < 16
    (room → placeTest f s =
      if s.upFree = true ∧ s.responses = [] then { s with upTx := some (.response f false), lastMember := .responses }
      else { s with responses := s.responses ++ [{ frame := f, resets := false }] })
    ∧ (¬ room → placeTest f s = { s with waitingTests := s.waitingTests ++ [f] }))
  ∧ ∀ (s : State) (l : LineNo) (x : LoopTest), (s.line l).test = some x →
    let v := s.line l
    let ended (x' : LoopTest) (o : Host.Outcome State Fault Refusal) : Prop :=
      let first := x'.firstMismatch.or (if x'.received < x'.pattern.length then some x'.received else none)
      let frame := s.testFrame { x' with firstMismatch := first } .ok
      let off := s.setLine l { v with tx := .idle, test := none, state := .off }
      let answered (t : State) : Prop :=
        { frame := frame, resets := false } ∈ t.responses ∨ frame ∈ t.waitingTests
          ∨ t.upTx = some (.response frame false)
      (x.prior = .off → o = .next (upGrant (placeTest frame off)))
      ∧ (x.prior = .live → x.restartPending = true → s.engineReady →
        ∃ t : State, o = .next (upGrant t) ∧ (t.line l).test = none ∧ (t.line l).record = v.record
          ∧ (t.line l).ring = v.ring ∧ (t.line l).counters = v.counters ∧ (t.line l).floor = v.floor
          ∧ (∀ j, j ≠ l → t.line j = s.line j) ∧ t.sessions = s.sessions ∧ answered t
          ∧ (v.record.policy = .fixed →
              (t.line l).state = .live ∧ t.probeQueue = s.probeQueue ∧ t.engine = s.engine
              ∧ (t.line l).current = some { index := v.record.fixedIndex, rate := s.rateAt v.record.fixedIndex }
              ∧ (t.line l).marks.getLast? =
                  some { offset := v.ring.newest, stamp := s.unitTime, kind := .rateSet, arg := v.record.fixedIndex.val })
          ∧ (v.record.policy = .auto → (t.line l).attempts = 0
              ∧ (s.engine ≠ none →
                  (t.line l).state = .queued ∧ t.probeQueue = s.probeQueue ++ [l] ∧ t.engine = s.engine)
              ∧ (s.engine = none →
                  (t.line l).state = .measuring ∧ t.probeQueue = [] ∧ t.engine.map (·.line) = some l)))
      ∧ (x.prior = .live → x.restartPending = false →
        ∃ t : State, o = .next (upGrant t) ∧ (t.line l).state = .live ∧ (t.line l).test = none
          ∧ (t.line l).current = some (v.last.getD
              { index := v.record.fixedIndex, rate := s.rateAt v.record.fixedIndex })
          ∧ (t.line l).monitor.seedPending = true ∧ (t.line l).matchWindow = [] ∧ (t.line l).tx = .idle
          ∧ (t.line l).ring = v.ring ∧ (t.line l).counters = v.counters ∧ (t.line l).floor = v.floor
          ∧ (∀ j, j ≠ l → t.line j = s.line j) ∧ t.sessions = s.sessions ∧ answered t)
    (∀ (data : Byte) (p stop : Bool), x.received < x.pattern.length → x.received ≤ x.sent →
      let f := match v.tx with | .pattern _ g => g | _ => v.record.framing
      let good := stop = true ∧ f.parityError data p = false
        ∧ x.pattern[x.received]? = some (if f.dataBits = .seven then data &&& 0x7F#8 else data)
      let x' : LoopTest :=
        { x with
          received := x.received + 1
          matched := if good then x.matched + 1 else x.matched
          firstMismatch := if good then x.firstMismatch else x.firstMismatch.or (some x.received) }
      (¬ (x.sent = x.pattern.length ∧ x.received + 1 = x.sent) →
        exec (.loopCharacterReceived l data p stop) s = .next (s.setLine l { v with test := some x' }))
      ∧ (x.sent = x.pattern.length → x.received + 1 = x.sent →
        ended x' (exec (.loopCharacterReceived l data p stop) s)))
    ∧ (∀ b f, v.tx = .pattern b f →
      (∀ next, x.pattern[x.sent + 1]? = some next →
        exec (.patternByteSent l) s = .next (s.setLine l
          { v with test := some { x with sent := x.sent + 1 }, tx := .pattern next v.record.framing }))
      ∧ (x.pattern.length ≤ x.sent + 1 → x.received ≠ x.sent + 1 →
        exec (.patternByteSent l) s = .next (s.setLine l
          { v with
            test := some
              { x with sent := x.sent + 1, wait := some (4 * charTime v.record.framing x.rate) }
            tx := .idle }))
      ∧ (x.pattern.length ≤ x.sent + 1 → x.received = x.sent + 1 →
        ended { x with sent := x.sent + 1 } (exec (.patternByteSent l) s)))
    ∧ (∀ w, x.wait = some w → w < 4608 → ended x (exec (.loopTestTimeout l) s))
    ∧ ((∀ w, x.wait = some w → 4608 ≤ w) → exec (.loopTestTimeout l) s = .next s)

/-! ### Transmitters -/

/-- The transmitter takes the head element of the queue when the line is LIVE, no element is being sent, no hold runs and
the pacing gap has run out, and only then (R15); the pin then shows the start bit, the data bits from the least
significant on, the parity bit that makes the ones even or odd, and the stop bits, mark being `true`; a BREAK shows space
and then mark, a probe the character CR (R29), and a line in LOOP mark (R7, R14, R18); a BREAK is counted and marked as it
begins (R14). -/
def Obligations.TransmitterTakesHead : Prop :=
  (∀ v : Line,
    let levels (b : Byte) (f : Framing) : List Bool :=
      let bits := (List.range (match f.dataBits with | .seven => 7 | .eight => 8)).map b.getLsbD
      let odd : Bool := bits.count true % 2 == 1
      [false] ++ bits ++ (match f.parity with | .absent => [] | .even => [odd] | .odd => [!odd])
        ++ (match f.stopBits with | .one => [true] | .two => [true, true])
    v.txdLevels =
      match v.tx with
      | .idle => [true]
      | .byte b f => levels b f
      | .breakSpace _ => [false]
      | .breakMark _ => [true]
      | .probe f _ => levels 0x0D#8 f
      | .pattern _ _ => [true])
  ∧ ∀ (s : State) (l : LineNo),
    let v := s.line l
    let mayStart := v.state = .live ∧ v.tx = .idle ∧ (∀ e, v.hold = some e → holdRuns s.unitTime e = false)
      ∧ (v.gap = none ∨ v.gap = some 0)
    (¬ mayStart ∨ v.injection = [] → startElement l s = s)
    ∧ (∀ b rest, mayStart → v.injection = .byte b :: rest →
      startElement l s =
        s.setLine l { v with injection := rest, gap := none, tx := .byte b v.record.framing })
    ∧ ∀ ms rest, mayStart → v.injection = .brk ms :: rest →
      startElement l s = appendMark l .breakOut ms
        (s.setLine l
          { v with
            injection := rest, gap := none, tx := .breakSpace ms
            counters := { v.counters with breaksOut := v.counters.breaksOut + 1 } })

/-- The events of a transmitter (R12, R14, R15, R16): a BYTE that ends is counted and its gap begins, the line gap joining
the character gap after CR; the space of a BREAK, when its duration has passed, is followed by mark for a character time,
and that by the character gap; a space or a mark that has time left goes on, and no BREAK ends in its space; a gap of 0
runs out at once; a gap or a hold that has run out lets the head element go, one that has time left goes on (assumption
log 3). A rate's divisor is 921,600 over the rate rounded to nearest, halves up, its effective rate 921,600 over the
divisor, which LINE READ reports in whole bit/s, truncated (section 11.3), and a character time the framing's 1 + data +
parity + stop bits over the effective rate (R7, R8): in 4608ths of a millisecond, the model's unit (log 22), five for each
bit and unit of the divisor. CR is judged on the element's byte: the model's reading (log 19). -/
def Obligations.TransmitterEvents : Prop :=
  (∀ (f : Framing) (rate : Nat),
    let bits := 1 + (match f.dataBits with | .seven => 7 | .eight => 8)
      + (match f.parity with | .absent => 0 | .even => 1 | .odd => 1) + (match f.stopBits with | .one => 1 | .two => 2)
    divisor rate = (2 * 921600 + rate) / (2 * rate) ∧ charTime f rate = 5 * (bits * divisor rate))
  ∧ (∀ d, effectiveRate d = 921600 / d)
  ∧ ∀ (s : State) (l : LineNo),
    let v := s.line l
    (∀ b f, v.tx = .byte b f →
      let gap := v.record.charGap + (if b = 0x0D#8 then v.record.lineGap else 0)
      let counted : LineCounters := { v.counters with bytesTransmitted := v.counters.bytesTransmitted + 1 }
      (gap ≠ 0 → exec (.byteTransmitted l) s =
        .next (s.setLine l { v with tx := .idle, gap := some gap, counters := counted }))
      ∧ (gap = 0 → exec (.byteTransmitted l) s =
        .next (startElement l (s.setLine l { v with tx := .idle, gap := none, counters := counted }))))
    ∧ (∀ r, v.tx = .breakSpace 0 → v.current = some r →
      exec (.breakSpaceEnd l) s =
        .next (s.setLine l { v with tx := .breakMark (charTime v.record.framing r.rate) }))
    ∧ (∀ left, v.tx = .breakSpace left →
      (left ≠ 0 → exec (.breakSpaceEnd l) s = .next s) ∧ exec (.breakOutEnd l) s = .next s)
    ∧ (∀ left, v.tx = .breakMark left →
      exec (.breakSpaceEnd l) s = .next s ∧ (4608 ≤ left → exec (.breakOutEnd l) s = .next s))
    ∧ (∀ left, v.tx = .breakMark left → left < 4608 →
      (v.record.charGap ≠ 0 → exec (.breakOutEnd l) s =
        .next (s.setLine l { v with tx := .idle, gap := some v.record.charGap }))
      ∧ (v.record.charGap = 0 → exec (.breakOutEnd l) s =
        .next (startElement l (s.setLine l { v with tx := .idle, gap := none }))))
    ∧ (v.state = .live → v.gap = some 0 →
      exec (.pacingGapExpiry l) s = .next (startElement l (s.setLine l { v with gap := none })))
    ∧ (v.gap ≠ some 0 → exec (.pacingGapExpiry l) s = .next s)
    ∧ (∀ e, v.hold = some e → holdRuns s.unitTime e = false →
      exec (.holdExpiry l) s = .next (startElement l (s.setLine l { v with hold := none })))
    ∧ ((∀ e, v.hold = some e → holdRuns s.unitTime e = true) → exec (.holdExpiry l) s = .next s)

/-! ### The Rate Probe -/

/-- Edges before the S-th (R30): the first starts the count and the pulse counter; a later one closes the running pulse,
whose width saturates at 65,535, and keeps the smallest. The probe character's end leaves TXD at mark (R29). An edge that
ends a space of 65,535 periods or more comes after the BREAK (R32). An edge whose measurement has ended has no effect on
the engine and changes the pin alone (R31, R37); nor has a window expiry before its time, a break without a pulse that
long, or any event while the engine idles. The model's choices: the periods an edge brings (assumption logs 18, 20), the
number that names its measurement (log 34). -/
def Obligations.MeasurementEdges : Prop :=
  let strayed (p : Line) : Line :=
    if p.state = .live then
      if p.rxd = .mark then p else { p with rxd := .mark, rx := if p.rx = .awaitMark then .waiting else p.rx }
    else { p with rxd := if p.rxd = .mark then .space else .mark }
  (∀ (s : State) (m : Measurement) (periods : Nat), s.engine = some m →
    let v := s.line m.line
    let seen := s.setLine m.line { v with rxd := if v.rxd = .mark then .space else .mark }
    let width := min 65535 (m.pulse + periods)
    (m.edgeCount = 0 → exec (.measureEdge ⟨m.line, m.number, periods⟩) s =
      .next (upGrant { seen with engine := some { m with edgeCount := 1, pulse := 0, phase := m.phase + periods } }))
    ∧ (m.edgeCount ≠ 0 → ¬ (v.rxd = .space ∧ width = 65535) → m.edgeCount + 1 < m.edges.num →
      exec (.measureEdge ⟨m.line, m.number, periods⟩) s =
      .next (upGrant
        { seen with
          engine := some
            { m with
              edgeCount := m.edgeCount + 1
              pulse := 0
              phase := m.phase + periods
              narrowest := some (match m.narrowest with | none => width | some w => min w width) } }))
    ∧ (m.edgeCount ≠ 0 → v.rxd = .space → width = 65535 →
      let t := failAttempt m .brk s
      (65535 ≤ m.pulse + (periodsInMs m.elapsed - m.phase) → exec .measureBreak s = .next (upGrant t))
        ∧ exec (.measureEdge ⟨m.line, m.number, periods⟩) s = .next (upGrant
          (if t.engine.map (·.line) = some m.line then
            { t.setLine m.line
                { t.line m.line with rxd := if (t.line m.line).rxd = .mark then .space else .mark } with
              engine := t.engine.map fun x => { x with edgeCount := 1, pulse := 0, phase := m.phase + periods } }
          else t.setLine m.line (strayed (t.line m.line)))))
    ∧ ∀ f r, v.tx = .probe f r →
      exec .probeCharacterEnd s = .next (s.setLine m.line { v with tx := .idle }))
  ∧ ∀ (s : State) (l : LineNo) (n periods : Nat),
    ((∀ m, s.engine = some m → m.number ≠ n ∨ m.line ≠ l) →
      exec (.measureEdge ⟨l, n, periods⟩) s = .next (s.setLine l (strayed (s.line l)))
      ∧ exec (.edgeCountReached ⟨l, n, periods⟩) s = .next (s.setLine l (strayed (s.line l))))
    ∧ ((∀ m, s.engine = some m → m.windowLeft ≠ 0) → exec .measureWindowExpiry s = .next s)
    ∧ ((∀ m, s.engine = some m → m.edgeCount = 0) → exec .measureBreak s = .next s)
    ∧ (s.engine = none → exec .probeCharacterEnd s = .next s)

/-- The ends of a measurement (R30 to R36): the S-th edge matches the smallest width with the table and brings the line
LIVE at the nearest entry within the tolerance, the lowest index among equals, or fails NO_MATCH; the window's end
fails NO_TRAFFIC, a space of 65,535 periods BREAK. A failure raises the attempt count and requeues the line, or ends
its round by RATE_FAIL and its failure option; a line that goes DARK has its floor freed, the holder or parked session being
sent LOST with reason DARK (R136). The engine goes on with the head of the queue. The edges counted, the attempt limit and
the window in seconds are the numbers of their fields' values (R21). The model's choices: that
MEASURE_EDGE at the S-th edge is EDGE_COUNT_REACHED, the periods that an edge or a tick brings to the pulse counter
(assumption logs 18, 20), the millisecond in which a window expires or a break falls (logs 3, 18), the number that names
an edge's measurement (log 34). -/
def Obligations.MeasurementEnds : Prop :=
  (∀ e : EdgeCount, e.num = match e with | .e16 => 16 | .e32 => 32 | .e64 => 64 | .e128 => 128)
  ∧ (∀ a : AttemptLimit, a.num = match a with | .a1 => 1 | .a2 => 2 | .a4 => 4 | .a6 => 6)
  ∧ (∀ w : MeasureWindow, w.seconds = match w with | .s1 => 1 | .s2 => 2 | .s5 => 5 | .s10 => 10)
  ∧ ∀ (s : State) (m : Measurement), s.engine = some m →
    let l := m.line
    let v := s.line l
    let failed (o : Host.Outcome State Fault Refusal) (why : FailureReason) : Prop :=
      ∃ t : State, o = .next (upGrant t)
        ∧ (t.line l).attempts = v.attempts + 1 ∧ (t.line l).record = v.record ∧ (t.line l).ring = v.ring
        ∧ t.sessions = s.sessions
        ∧ t.engine.map (·.line) =
            (s.probeQueue ++ if v.attempts + 1 < v.record.attempts.num then [l] else []).head?
        ∧ (v.attempts + 1 < v.record.attempts.num → (t.line l).summary = v.summary
            ∧ (∀ h rest, s.probeQueue = h :: rest → t.probeQueue = rest ++ [l] ∧ (h ≠ l → (t.line l).state = .queued))
            ∧ (s.probeQueue = [] → t.probeQueue = [] ∧ (t.line l).state = .measuring))
        ∧ (v.record.attempts.num ≤ v.attempts + 1 → l ∉ s.probeQueue →
            (t.line l).summary.has .rateFail = true ∧ (t.line l).summary.reasons.getLsbD (why.code - 1) = true
            ∧ t.probeQueue = s.probeQueue.tail
            ∧ (v.record.failure = .dark →
                (t.line l).state = .dark ∧ (t.line l).summary.has .dark = true ∧ (t.line l).floor.state = .free
                ∧ (t.line l).floor.waiting = []
                ∧ t.losesFloor l .dark (raiseLine l .rateFail 0 (1#3 <<< (why.code - 1)) why.code s))
            ∧ (v.record.failure = .fallback →
                (t.line l).state = .live
                ∧ (t.line l).current = some
                    { index := v.record.fallbackIndex, rate := s.rateAt v.record.fallbackIndex })
            ∧ (v.record.failure = .hold →
                (t.line l).state = .live
                ∧ (t.line l).current = some (v.last.getD
                    { index := v.record.fallbackIndex, rate := s.rateAt v.record.fallbackIndex })))
    (m.windowLeft = 0 → failed (exec .measureWindowExpiry s) .noTraffic)
    ∧ (0 < m.edgeCount → v.rxd = .space → 65535 ≤ m.pulse + (periodsInMs m.elapsed - m.phase) →
      failed (exec .measureBreak s) .brk)
    ∧ ((m.edgeCount = 0 ∨ v.rxd = .mark ∨ m.pulse + (periodsInMs m.elapsed - m.phase) < 65535) →
      exec .measureBreak s = .next s)
    ∧ ∀ periods, 0 < m.edgeCount → m.edges.num = m.edgeCount + 1 →
      (v.rxd = .mark ∨ m.pulse + periods < 65535) →
      let width := min 65535 (m.pulse + periods)
      let w := match m.narrowest with | none => width | some n => min n width
      let nominal (i : RateIndex) := (2 * 14745600 + s.rateAt i) / (2 * s.rateAt i)
      let off (i : RateIndex) := max w (nominal i) - min w (nominal i)
      let fits (i : RateIndex) := s.rateAt i ≠ 0 ∧ w < 65535 ∧ off i * 1000 ≤ s.unit.tolerance * nominal i
      exec (.measureEdge ⟨l, m.number, periods⟩) s = exec (.edgeCountReached ⟨l, m.number, periods⟩) s
      ∧ ((∀ i, ¬ fits i) → failed (exec (.edgeCountReached ⟨l, m.number, periods⟩) s) .noMatch)
      ∧ ∀ i, fits i → (∀ j, fits j → off i < off j ∨ (off i = off j ∧ i ≤ j)) → l ∉ s.probeQueue →
        ∃ t : State, exec (.edgeCountReached ⟨l, m.number, periods⟩) s = .next (upGrant t)
          ∧ (t.line l).state = .live ∧ (t.line l).current = some { index := i, rate := s.rateAt i }
          ∧ (t.line l).last = (t.line l).current ∧ (t.line l).attempts = v.attempts
          ∧ (t.line l).record = v.record ∧ (t.line l).ring = v.ring ∧ (t.line l).floor = v.floor
          ∧ (t.line l).marks.getLast? =
              some { offset := v.ring.newest, stamp := s.unitTime, kind := .rateSet, arg := i.val }
          ∧ (t.line l).summary.has .rateSet = true
          ∧ t.engine.map (·.line) = s.probeQueue.head? ∧ t.probeQueue = s.probeQueue.tail

/-! ### Activity Monitor -/

/-- The step rule (R63): a value moves toward its target by the difference over 2 to the power of the shift, truncated
toward zero, or by one where that is 0 and the two differ; never past the target; a shift of 0 reaches it at once,
and any shift in a finite number of steps. -/
def Obligations.StepRule : Prop :=
  (∀ n : Nat, n ≤ 4095 → 16 * n ≤ 65520)
  ∧ ∀ a b shift : Nat,
    let d : Int := (b : Int) - a
    let truncated : Int := d.tdiv (2 ^ shift)
    let new := moveToward a b shift
    (new : Int) = a + (if d ≠ 0 ∧ truncated = 0 then d.sign else truncated)
    ∧ min a b ≤ new ∧ new ≤ max a b
    ∧ (a ≤ 65535 → b ≤ 65535 → new ≤ 65535)
    ∧ (shift = 0 → new = b)
    ∧ ∃ k : Nat, (fun x => moveToward x b shift)^[k] a = b

/-- A sample expiry of a LIVE line (R39, R61, R64 to R69): a seeding expiry sets F and L; any other moves F, judges the
two thresholds, steps state and debounce count, marks and reports a burst that begins, with a trigger of the burst snapshot
option, or ends, and moves L unless a burst of the line or its halt group holds it; the interval begins anew and the error
streak is judged, a streak at its limit marking RATE_LOST and taking the line out of LIVE to the tail of the probe queue, a
slot FILLING for it being truncated (R4, R101), one that a burst beginning at the same expiry has just taken or retriggered
too, for the monitor's steps come before the streak (R61, R67, R97 to R99); F and L stay as the expiry left them (R72); a
session that this makes ready is granted at once (assumption log 6). Before the interval has run out, and outside LIVE,
nothing changes (log 3). -/
def Obligations.SampleExpirySteps : Prop :=
  (∀ (s : State) (l : LineNo), (s.line l).state ≠ .live ∨ (s.line l).monitor.sampleLeft ≠ some 0 →
    exec (.sampleExpiry l) s = .next s)
  ∧ ∀ (s : State) (l : LineNo), (s.line l).state = .live → (s.line l).monitor.sampleLeft = some 0 →
    let v := s.line l
    let m := v.monitor
    let p := v.params
    let x := 16 * m.chars
    let streak :=
      if v.record.policy = .auto ∧ v.record.streakLimit ≠ 0 ∧ max 4 (m.chars / 8) ≤ m.errors then v.streak + 1 else 0
    let fast := moveToward m.fast x p.bf
    let enter := max p.dfloor (m.long * p.te / 16)
    let leave := enter - enter * p.th / 256
    let above := m.long + enter < fast
    let below := fast < m.long + leave
    let after : MonitorState × Nat := match m.state with
      | .quiet => if ¬ above then (.quiet, 0) else if 1 < p.ce then (.rising, 1) else (.burst, 0)
      | .rising => if ¬ above then (.quiet, 0) else if m.count + 1 < p.ce then (.rising, m.count + 1) else (.burst, 0)
      | .burst => if ¬ below then (.burst, 0) else if 1 < p.cx then (.falling, 1) else (.quiet, 0)
      | .falling => if ¬ below then (.burst, 0) else if m.count + 1 < p.cx then (.falling, m.count + 1) else (.quiet, 0)
    let bursting (a : MonitorState) := a = .burst ∨ a = .falling
    let grouped := p.group ≠ 0 ∧ ∃ j, j ≠ l ∧ (s.line j).params.group = p.group ∧ bursting (s.line j).monitor.state
    let lost := 0 < streak ∧ v.record.streakLimit ≤ streak
    (m.seedPending = true → ¬ lost → exec (.sampleExpiry l) s = .next (upGrant (s.setLine l
      { v with
        streak := streak
        monitor := { m with
          fast := x, long := x, seedPending := false, chars := 0, errors := 0, sampleLeft := some 100 } })))
    ∧ (m.seedPending = false → ¬ lost →
      ∃ t : State, exec (.sampleExpiry l) s = .next (upGrant t)
        ∧ (t.line l).streak = streak
        ∧ (t.line l).monitor.fast = fast ∧ (t.line l).monitor.state = after.1 ∧ (t.line l).monitor.count = after.2
        ∧ ((bursting after.1 ∨ grouped) → (t.line l).monitor.long = m.long)
        ∧ (¬ (bursting after.1 ∨ grouped) → (t.line l).monitor.long = moveToward m.long fast p.bl)
        ∧ (t.line l).monitor.chars = 0 ∧ (t.line l).monitor.errors = 0 ∧ (t.line l).monitor.sampleLeft = some 100
        ∧ (bursting after.1 → ¬ bursting m.state →
            { offset := v.ring.newest, stamp := s.unitTime, kind := .burstBegin, arg := 0 } ∈ (t.line l).marks
            ∧ (t.line l).summary.has .burstBegin = true ∧ (t.line l).floor.busy = true
            ∧ (t.line l).monitor.burstLeft = (if p.tb = 0 then none else some (p.tb * 1000))
            ∧ (t.line l).ring = v.ring
            ∧ (v.record.burstSnapshot = none → t.slots = s.slots
                ∧ (v.marks.length ≤ 32 → (t.line l).marks = marksAfter v.marks
                    [{ offset := v.ring.newest, stamp := s.unitTime, kind := .burstBegin, arg := 0 }]))
            ∧ ∀ o, v.record.burstSnapshot = some o →
                ∃ how : Settled,
                  Trigger.settles { line := l, cause := .burst, pre := o.pre, post := o.post, others := 0 } s v
                    s.slot t.slot how
                  ∧ (v.marks.length ≤ 32 → (t.line l).marks = marksAfter v.marks
                      ({ offset := v.ring.newest, stamp := s.unitTime, kind := .burstBegin, arg := 0 }
                        :: how.marks v.ring.newest s.unitTime))
                  ∧ (how = .missed → t.unitSummary.has .snapshotMissed = true)
                  ∧ (∀ k, how = .taken k → min o.post (8192 - o.pre) = 0 →
                      (t.line l).summary.has .snapshotDone = true))
        ∧ (¬ bursting after.1 → bursting m.state →
            (t.line l).marks.getLast? =
              some { offset := v.ring.newest, stamp := s.unitTime, kind := .burstEnd, arg := 0 }
            ∧ (t.line l).summary.has .burstEnd = true ∧ (t.line l).floor.busy = false
            ∧ (t.line l).monitor.burstLeft = none ∧ t.slots = s.slots)
        ∧ ((bursting after.1 ↔ bursting m.state) →
            t = s.setLine l { v with streak := streak, monitor := (t.line l).monitor }
            ∧ (t.line l).monitor.burstLeft = m.burstLeft)
        ∧ (∀ j, j ≠ l → t.line j = s.line j) ∧ t.sessions = s.sessions)
    ∧ (lost → s.engineReady →
      let begins := m.seedPending = false ∧ bursting after.1 ∧ ¬ bursting m.state
      let ends := m.seedPending = false ∧ ¬ bursting after.1 ∧ bursting m.state
      ∃ (t mid : State) (snap : List Mark), exec (.sampleExpiry l) s = .next (upGrant t)
        ∧ (¬ begins ∨ v.record.burstSnapshot = none → mid = s ∧ snap = [])
        ∧ (∀ o, begins → v.record.burstSnapshot = some o →
            ∃ how : Settled,
              Trigger.settles { line := l, cause := .burst, pre := o.pre, post := o.post, others := 0 } s v
                s.slot mid.slot how
              ∧ snap = how.marks v.ring.newest s.unitTime
              ∧ (how = .missed → t.unitSummary.has .snapshotMissed = true)
              ∧ ((mid.line l).summary.has .snapshotDone = true ↔
                  v.summary.has .snapshotDone = true ∨ ∃ k, how = .taken k ∧ min o.post (8192 - o.pre) = 0))
        ∧ mid.truncates l t
        ∧ (let here (kind : MarkKind) : Mark := { offset := v.ring.newest, stamp := s.unitTime, kind := kind, arg := 0 }
          let marked (burst : List Mark) : Prop := v.marks.length ≤ 32 →
            (t.line l).marks = marksAfter v.marks
              (burst ++ snap ++ here .rateLost :: if s.engine = none then [here .measureBegin] else [])
          (begins → marked [here .burstBegin] ∧ (t.line l).summary.has .burstBegin = true)
          ∧ (ends → marked [here .burstEnd] ∧ (t.line l).summary.has .burstEnd = true)
          ∧ (¬ begins → ¬ ends → marked []))
        ∧ (t.line l).monitor =
            { (t.line l).monitor with
              state := .quiet, count := 0, seedPending := false, burstLeft := none, sampleLeft := none, chars := 0
              errors := 0 }
        ∧ (m.seedPending = true → (t.line l).monitor.fast = 16 * m.chars ∧ (t.line l).monitor.long = 16 * m.chars)
        ∧ (m.seedPending = false → (t.line l).monitor.fast = fast
            ∧ ((bursting after.1 ∨ grouped) → (t.line l).monitor.long = m.long)
            ∧ (¬ (bursting after.1 ∨ grouped) → (t.line l).monitor.long = moveToward m.long fast p.bl)
            ∧ ((bursting after.1 ∨ bursting m.state) → (t.line l).floor.busy = false))
        ∧ (t.line l).streak = streak ∧ (t.line l).record = v.record ∧ (t.line l).ring = v.ring
        ∧ (t.line l).summary.has .rateLost = true ∧ (t.line l).injection = [] ∧ (t.line l).hold = none
        ∧ (t.line l).current = none ∧ (t.line l).attempts = 0 ∧ (t.line l).monitor.state = .quiet
        ∧ (s.engine ≠ none → (t.line l).state = .queued ∧ t.probeQueue = s.probeQueue ++ [l])
        ∧ (s.engine = none → (t.line l).state = .measuring ∧ t.engine.map (·.line) = some l)
        ∧ (∃ marks, (t.line l).marks = marks
            ++ { offset := v.ring.newest, stamp := s.unitTime, kind := .rateLost, arg := 0 }
              :: (if s.engine = none then
                [{ offset := v.ring.newest, stamp := s.unitTime, kind := .measureBegin, arg := 0 }]
              else []))
        ∧ (∀ j, j ≠ l → t.line j = s.line j)
        ∧ (s.upFree = false → t.sessions = s.sessions)
        ∧ (s.unit.collector = 0 → t.sessions = (grantData (s.setLine l { v with settled := true })).sessions))

/-! ### Timers -/

/-- Timers that end: the burst timeout makes the present level the usual one and ends the burst (R70), a holdoff lets
its entry be considered again with its hit count kept (R82), a fill limit completes its slot as truncated and raises
SNAPSHOT_DONE (R100, R101), a gather timer makes its line settled (R120). A timer that was stopped or started afresh has
time left, and its expiry does not occur: its command then changes nothing, as a command that cannot occur does (R120; the
model's choice of the moments, assumption logs 1 and 3). -/
def Obligations.TimersEnd : Prop :=
  (∀ (s : State) (l : LineNo),
    let v := s.line l
    v.monitor.burstLeft = some 0 → (v.monitor.state = .burst ∨ v.monitor.state = .falling) →
      ∃ t : State, exec (.burstTimeout l) s = .next (upGrant t)
        ∧ (t.line l).monitor =
            { v.monitor with long := v.monitor.fast, state := .quiet, count := 0, burstLeft := none }
        ∧ (t.line l).marks.getLast? =
            some { offset := v.ring.newest, stamp := s.unitTime, kind := .burstEnd, arg := 1 }
        ∧ (t.line l).summary.has .burstEnd = true
        ∧ (t.line l).floor =
            { v.floor with
              busy := false
              idle := match v.floor.state with
                | .held _ =>
                  if v.record.floorIdle = 0 then .stopped else .running (v.record.floorIdle * 1000)
                | _ => v.floor.idle }
        ∧ t.line l =
            { v with
              monitor := (t.line l).monitor, marks := (t.line l).marks, markLoss := (t.line l).markLoss
              summary := (t.line l).summary, floor := (t.line l).floor }
        ∧ (∀ j, j ≠ l → t.line j = s.line j) ∧ t.slots = s.slots ∧ t.sessions = s.sessions)
  ∧ (∀ (s : State) (l : LineNo), (s.line l).monitor.burstLeft ≠ some 0 → exec (.burstTimeout l) s = .next s)
  ∧ (∀ (s : State) (i : EntryNo) (l : LineNo),
    ∃ t : State, exec (.holdoffExpiry i l) s = .next t
      ∧ (((s.line l).pair i).holdoff = some 0 → (t.line l).pair i = { (s.line l).pair i with holdoff := none })
      ∧ (((s.line l).pair i).holdoff ≠ some 0 → t = s)
      ∧ (∀ j, j ≠ i → (t.line l).pair j = (s.line l).pair j)
      ∧ t = s.setLine l { s.line l with watch := (t.line l).watch })
  ∧ (∀ (s : State) (k : SlotNo),
    ((s.slot k).state = .filling → (s.slot k).fillLeft = some 0 → exec (.fillLimitExpiry k) s = .next (upGrant
      (raisePlain (s.slot k).line .snapshotDone
        (s.setSlot k { s.slot k with state := .complete, truncated := true, fillLeft := none }))))
    ∧ ((s.slot k).state ≠ .filling ∨ (s.slot k).fillLeft ≠ some 0 → exec (.fillLimitExpiry k) s = .next s))
  ∧ ∀ (s : State) (l : LineNo),
    (∀ left, (s.line l).gather = some left → left < 4608 →
      exec (.gatherTimerExpiry l) s =
        .next (upGrant (s.setLine l { s.line l with settled := true, gather := none })))
    ∧ ((∀ left, (s.line l).gather = some left → 4608 ≤ left) → exec (.gatherTimerExpiry l) s = .next s)

/-- A session whose keep timer expires is closed as by CLOSE, with a LOST notice of reason EXPIRED where it held the
floor or was parked (R116, R135); a floor it held goes to the next waiter, whose idle timer starts (R138), with a GRANTED
notice after the LOST one (R128), or becomes FREE. A floor whose idle timer expires is taken from its holder with a LOST
notice of reason IDLE and goes to the next waiter, or, with nobody waiting, becomes FREE or PARKED by the park mode (R140).
A timer that a message, a UNIT SET or a TYPE has started afresh or stopped has time left, and its expiry does not occur
(R116, R140; the moments are the model's, assumption log 3). -/
def Obligations.KeepAndIdleExpire : Prop :=
  (∀ (s : State) (i : SessionNo), (s.session i).isOpen = false ∨ (s.session i).keepLeft ≠ some 0 →
    exec (.keepTimerExpiry i) s = .next s)
  ∧ (∀ (s : State) (i : SessionNo), (s.session i).isOpen = true → (s.session i).keepLeft = some 0 →
    let l := (s.session i).line
    let v := s.line l
    let closed (t : State) : State := t.setSession i Session.reset
    let freed := s.setLine l { v with floor := { v.floor with state := .free, idle := .stopped } }
    (v.floor.state ≠ .held i → v.floor.state ≠ .parked i →
      exec (.keepTimerExpiry i) s = .next (upGrant
        (closed (s.setLine l { v with floor := { v.floor with waiting := v.floor.waiting.erase i } }))))
    ∧ (v.floor.state = .held i ∧ v.floor.waiting = [] ∨ v.floor.state = .parked i →
      exec (.keepTimerExpiry i) s =
        .next (upGrant (closed (placeNotice (freed.noticeFrame l i (some .expired)) freed))))
    ∧ ∀ w, v.floor.state = .held i → s.nextWaiter? v.floor.waiting = some w →
      let handed := s.setLine l
        { v with floor := { v.floor with
            state := .held w
            waiting := v.floor.waiting.erase w
            idle := if v.record.floorIdle = 0 then .stopped
              else if v.floor.busy then .heldStill else .running (v.record.floorIdle * 1000) } }
      let t := closed (placeNotice (handed.noticeFrame l w none)
        (placeNotice (handed.noticeFrame l i (some .expired)) handed))
      exec (.keepTimerExpiry i) s = .next (upGrant t)
        ∧ t.session i = Session.reset ∧ (∀ j, j ≠ i → t.session j = s.session j)
        ∧ (t.line l).floor.state = .held w ∧ (t.line l).floor.waiting = v.floor.waiting.erase w
        ∧ ∀ j, j ≠ l → t.line j = s.line j)
  ∧ (∀ (s : State) (l : LineNo),
    ((∀ h, (s.line l).floor.state ≠ .held h) ∨ (s.line l).floor.idle ≠ .running 0) →
      exec (.idleExpiry l) s = .next s)
  ∧ ∀ (s : State) (l : LineNo) (h : SessionNo),
    (s.line l).floor.state = .held h → (s.line l).floor.idle = .running 0 →
    let v := s.line l
    ((v.floor.waiting = [] →
      let t := s.setLine l
        { v with floor := { v.floor with
            state := (match v.record.parkMode with | .none => .free | .last => .parked h), idle := .stopped } }
      exec (.idleExpiry l) s = .next (upGrant (placeNotice (t.noticeFrame l h (some .idle)) t)))
    ∧ ∀ w, s.nextWaiter? v.floor.waiting = some w →
      let t := s.setLine l
        { v with floor := { v.floor with
            state := .held w
            waiting := v.floor.waiting.erase w
            idle := if v.record.floorIdle = 0 then .stopped
              else if v.floor.busy then .heldStill else .running (v.record.floorIdle * 1000) } }
      exec (.idleExpiry l) s = .next (upGrant
        (placeNotice (t.noticeFrame l w none) (placeNotice (t.noticeFrame l h (some .idle)) t))))

/-- An attendance lapse (R171, R144, R17): UNATTENDED and counted, ATTEND_LAPSE raised, every floor FREE with its list
cleared, the holder or parked session of each line, in ascending line order, being sent LOST with reason ATTENDANCE (R128);
every LIVE line's queue and hold emptied while its transmission goes on; nothing else of any line, no
session and no slot changes. Before the period has run out, and outside ATTENDED, nothing changes (assumption log 3). That
the frame that goes out at once where UP is free is the ALERT of ATTEND_LAPSE, before any LOST notice, is the model's choice
(assumption log 10, and log 6 for the moment): R171 gives no order, and R158 only that a free transmitter sends. -/
def Obligations.AttendanceLapseFreesFloors : Prop :=
  (∀ s : State, s.attendance.state ≠ .attended ∨ s.attendance.left ≠ some 0 → exec .attendanceExpiry s = .next s)
  ∧ ∀ s : State, s.attendance.state = .attended → s.attendance.left = some 0 →
    ∃ t : State, exec .attendanceExpiry s = .next (upGrant t)
      ∧ t.attendance = { state := .unattended, left := none, lapses := s.attendance.lapses + 1 }
      ∧ t.unitSummary.has .attendLapse = true
      ∧ (∀ l, t.line l =
          { s.line l with
            floor := { state := .free, waiting := [], idle := .stopped, busy := (s.line l).floor.busy }
            injection := if (s.line l).state = .live then [] else (s.line l).injection
            hold := if (s.line l).state = .live then none else (s.line l).hold })
      ∧ (let lost (l : LineNo) (h : SessionNo) : OutFrame :=
          { dst := (s.session h).origin, src := s.unit.station, etherType := s.unit.etherType
            unit := s.unitNumber.setWidth 8, kind := 0xC2, session := BitVec.ofNat 8 h.val, tag := 0, status := none
            body := [BitVec.ofNat 8 l.val, 1, 7, 0, 255, 0] }
        t.framesAs ((List.finRange 24).foldl
          (fun x l =>
            match (s.line l).floor.state with
            | .free => x
            | .held h => placeNotice (lost l h) x
            | .parked h => placeNotice (lost l h) x)
          (raiseUnit .attendLapse s)))
      ∧ s.responses <+: t.responses
      ∧ (s.upFree = false → t.upTx = s.upTx ∧ t.lastMember = s.lastMember)
      ∧ (s.upFree = true → s.responses = [] → s.heldPlaces < 16 → s.unit.collector ≠ 0 → s.unitSummary.kinds = 0 →
          t.lastMember = .responses ∧ t.upTx = some (.response
            { dst := s.unit.collector, src := s.unit.station, etherType := s.unit.etherType
              unit := s.unitNumber.setWidth 8, kind := 0xC1, session := 255, tag := 0, status := none
              body := beBytes 4 s.unitTime.toNat ++ beBytes 1 255 ++ beBytes 1 1 ++ beBytes 2 0 } false))
      ∧ t = { s with
          lines := t.lines, attendance := t.attendance, unitSummary := t.unitSummary, responses := t.responses
          upTx := t.upTx, lastMember := t.lastMember
          counters := { s.counters with responseDrops := t.counters.responseDrops } }

/-! ### Marks, events, and what only grows -/

/-- A mark is placed at `newest` with the present unit time at the tail of its list, a full list losing its oldest,
counted (R53, R55). An event joins its summary, each kind at its bit of section 11.5; only one that opens an empty summary
makes an ALERT, when a collector is set and the line's alerts are on, placed at the tail of the response queue or, that
queue empty beside a free transmitter, sent at once (R158); one that finds the response queue full is lost and raises
CHAIN_LOSS. The unit summary is kept alike, its ALERT naming the scope 255, and one that is lost adds CHAIN_LOSS to the
summary it opened (R148 to R150). A FLOOR NOTICE is placed alike, and one that finds the queue full is lost, counted and
raises CHAIN_LOSS (R128, R157, R162). That the ALERT of a unit summary which a lost ALERT opens is lost too is the model's
choice (assumption log 38): the response queue may drain between the two. -/
def Obligations.MarksAndEventsRecorded : Prop :=
  (∀ (e : LineEvent) (m : LineSummary),
    e.bit =
      (match e with
        | .breakIn => 0 | .burstBegin => 1 | .burstEnd => 2 | .rateSet => 3 | .rateFail => 4 | .rateLost => 5
        | .dark => 6 | .watchFired => 7 | .snapshotDone => 8)
    ∧ m.has e = m.kinds.getLsbD e.bit)
  ∧ (∀ (e : UnitEvent) (m : UnitSummary),
    e.bit = (match e with | .resetDone => 0 | .attendLapse => 1 | .snapshotMissed => 2 | .chainLoss => 3)
    ∧ m.has e = m.kinds.getLsbD e.bit)
  ∧ (∀ why : FailureReason, why.code = match why with | .noTraffic => 1 | .brk => 2 | .noMatch => 3)
  ∧ (∀ (s : State) (l : LineNo) (kind : MarkKind) (arg : Nat),
    let v := s.line l
    let m : Mark := { offset := v.ring.newest, stamp := s.unitTime, kind := kind, arg := arg }
    (v.marks.length < 32 → appendMark l kind arg s = s.setLine l { v with marks := v.marks ++ [m] })
    ∧ (32 ≤ v.marks.length → appendMark l kind arg s =
        s.setLine l { v with marks := v.marks.tail ++ [m], markLoss := v.markLoss + 1 }))
  ∧ (∀ (s : State) (l : LineNo) (e : LineEvent) (watches : BitVec 64) (reasons : BitVec 3) (arg : Nat),
    let v := s.line l
    let joined (o : AlertOutcome) : State := s.setLine l
      { v with
        summary :=
          { kinds := v.summary.kinds ||| (1#9 <<< e.bit), watches := v.summary.watches ||| watches
            reasons := v.summary.reasons ||| reasons, outcome := o } }
    let t := raiseLine l e watches reasons arg s
    let full := 16 ≤ s.responses.length + s.heldPlaces
    (v.summary.kinds ≠ 0 → t = joined v.summary.outcome)
    ∧ (v.summary.kinds = 0 → (s.unit.collector = 0 ∨ v.record.alerts = false) → t = joined .none)
    ∧ (v.summary.kinds = 0 → s.unit.collector ≠ 0 → v.record.alerts = true → ¬ full →
      let alert : OutFrame :=
        { dst := s.unit.collector, src := s.unit.station, etherType := s.unit.etherType
          unit := s.unitNumber.setWidth 8, kind := 0xC1, session := 255, tag := 0, status := none
          body := beBytes 4 s.unitTime.toNat ++ beBytes 1 l.val ++ beBytes 1 e.bit ++ beBytes 2 arg }
      t = if s.upFree = true ∧ s.responses = [] then
          { joined .sent with upTx := some (.response alert false), lastMember := .responses }
        else { joined .sent with responses := s.responses ++ [{ frame := alert, resets := false }] })
    ∧ (v.summary.kinds = 0 → s.unit.collector ≠ 0 → v.record.alerts = true → full →
      t.lines = (joined .lost).lines ∧ t.responses = s.responses ∧ t.unitSummary.has .chainLoss = true
      ∧ (s.unitSummary.kinds = 0 → t.unitSummary.outcome = .lost)
      ∧ (s.unitSummary.kinds ≠ 0 → t.unitSummary.outcome = s.unitSummary.outcome)
      ∧ t.counters.responseDrops = s.counters.responseDrops + (if s.unitSummary.kinds = 0 then 2 else 1)))
  ∧ (∀ (s : State) (f : OutFrame),
    let full := 16 ≤ s.responses.length + s.heldPlaces
    (¬ full → placeNotice f s =
      if s.upFree = true ∧ s.responses = [] then { s with upTx := some (.response f false), lastMember := .responses }
      else { s with responses := s.responses ++ [{ frame := f, resets := false }] })
    ∧ (full → placeNotice f s =
      raiseUnit .chainLoss { s with counters := { s.counters with responseDrops := s.counters.responseDrops + 1 } }))
  ∧ ∀ (s : State) (e : UnitEvent),
    let t := raiseUnit e s
    let full := 16 ≤ s.responses.length + s.heldPlaces
    (s.unitSummary.kinds ≠ 0 →
      t = { s with unitSummary := { s.unitSummary with kinds := s.unitSummary.kinds ||| (1#4 <<< e.bit) } })
    ∧ (s.unitSummary.kinds = 0 → s.unit.collector = 0 →
      t = { s with unitSummary := { kinds := 1#4 <<< e.bit, outcome := .none } })
    ∧ (s.unitSummary.kinds = 0 → s.unit.collector ≠ 0 → ¬ full →
      let opened : State := { s with unitSummary := { kinds := 1#4 <<< e.bit, outcome := .sent } }
      let alert : OutFrame :=
        { dst := s.unit.collector, src := s.unit.station, etherType := s.unit.etherType
          unit := s.unitNumber.setWidth 8, kind := 0xC1, session := 255, tag := 0, status := none
          body := beBytes 4 s.unitTime.toNat ++ beBytes 1 255 ++ beBytes 1 e.bit ++ beBytes 2 0 }
      t = if s.upFree = true ∧ s.responses = [] then
          { opened with upTx := some (.response alert false), lastMember := .responses }
        else { opened with responses := s.responses ++ [{ frame := alert, resets := false }] })
    ∧ (s.unitSummary.kinds = 0 → s.unit.collector ≠ 0 → full →
      t = { s with
        unitSummary := { kinds := (1#4 <<< e.bit) ||| 8#4, outcome := .lost }
        counters := { s.counters with responseDrops := s.counters.responseDrops + 1 } })

/-- What only grows. Whatever command but the two resets runs, the offsets of a line never fall (R44); whatever command
but those and EVENTS READ runs, a summary that is not empty keeps its members and its alert outcome, so no second
ALERT is made for it (R148, R149). -/
def Obligations.HistoryAndSummariesOnlyGrow : Prop :=
  ∀ (s t : State) (c : Instr), s.storeLaw → (∀ straps, c ≠ .powerOn straps) → c ≠ .unitResetApplied →
    exec c s = .next t →
    (∀ l, (s.line l).ring.oldest ≤ (t.line l).ring.oldest ∧ (s.line l).ring.newest ≤ (t.line l).ring.newest)
    ∧ (c ≠ .eventsRead →
      (∀ l, (s.line l).summary.kinds ≠ 0 →
        (t.line l).summary.outcome = (s.line l).summary.outcome
        ∧ (∀ e, (s.line l).summary.has e = true → (t.line l).summary.has e = true)
        ∧ ∀ i : EntryNo, (s.line l).summary.watches.getLsbD i.val = true →
            (t.line l).summary.watches.getLsbD i.val = true)
      ∧ (s.unitSummary.kinds ≠ 0 →
        t.unitSummary.outcome = s.unitSummary.outcome
        ∧ ∀ e, s.unitSummary.has e = true → t.unitSummary.has e = true))

end
end

