-- ==== Sys2Proof/Laws/State.lean ====
section
/-! SUPPORT. What each named update of the state leaves in each field, and what the record accessors read after it. -/

namespace Sys2Proof.Machine

/-! ### Timers that have run out -/

@[simp] theorem ranOut_eq_true {t : Option Nat} : ranOut t = true ↔ t = some 0 := by simp [ranOut]

@[simp] theorem endsThisMs_eq_true {t : Option Nat} :
    endsThisMs t = true ↔ ∃ left, t = some left ∧ left < Config.ticksPerMs := by
  cases t <;> simp [endsThisMs]

/-! ### The record that an update writes -/

@[simp] theorem setLine_line_same (s : State) (l : LineNo) (u : Line) : (s.setLine l u).line l = u := by
  simp [State.setLine, State.line]

theorem setLine_line_ne (s : State) {l j : LineNo} (u : Line) (h : j ≠ l) : (s.setLine l u).line j = s.line j := by
  have : l.val ≠ j.val := fun e => h (Fin.ext e.symm)
  simp [State.setLine, State.line, Vector.getElem_set_ne, this]

theorem setLine_line (s : State) (l j : LineNo) (u : Line) :
    (s.setLine l u).line j = if j = l then u else s.line j := by
  split
  · next h => subst h; simp
  · next h => exact setLine_line_ne s u h

@[simp] theorem setSession_session_same (s : State) (i : SessionNo) (r : Session) :
    (s.setSession i r).session i = r := by
  simp [State.setSession, State.session]

theorem setSession_session_ne (s : State) {i j : SessionNo} (r : Session) (h : j ≠ i) :
    (s.setSession i r).session j = s.session j := by
  have : i.val ≠ j.val := fun e => h (Fin.ext e.symm)
  simp [State.setSession, State.session, Vector.getElem_set_ne, this]

theorem setSession_session (s : State) (i j : SessionNo) (r : Session) :
    (s.setSession i r).session j = if j = i then r else s.session j := by
  split
  · next h => subst h; simp
  · next h => exact setSession_session_ne s r h

@[simp] theorem setSlot_slot_same (s : State) (k : SlotNo) (r : Slot) : (s.setSlot k r).slot k = r := by
  simp [State.setSlot, State.slot]

theorem setSlot_slot_ne (s : State) {k j : SlotNo} (r : Slot) (h : j ≠ k) : (s.setSlot k r).slot j = s.slot j := by
  have : k.val ≠ j.val := fun e => h (Fin.ext e.symm)
  simp [State.setSlot, State.slot, Vector.getElem_set_ne, this]

theorem setSlot_slot (s : State) (k j : SlotNo) (r : Slot) :
    (s.setSlot k r).slot j = if j = k then r else s.slot j := by
  split
  · next h => subst h; simp
  · next h => exact setSlot_slot_ne s r h

@[simp] theorem setEntry_entry_same (s : State) (i : EntryNo) (e : WatchEntry) : (s.setEntry i e).entry i = e := by
  simp [State.setEntry, State.entry]

theorem setEntry_entry_ne (s : State) {i j : EntryNo} (e : WatchEntry) (h : j ≠ i) :
    (s.setEntry i e).entry j = s.entry j := by
  have : i.val ≠ j.val := fun e => h (Fin.ext e.symm)
  simp [State.setEntry, State.entry, Vector.getElem_set_ne, this]

@[simp] theorem setPair_pair_same (u : Line) (i : EntryNo) (p : WatchPair) : (u.setPair i p).pair i = p := by
  simp [Line.setPair, Line.pair]

theorem setPair_pair_ne (u : Line) {i j : EntryNo} (p : WatchPair) (h : j ≠ i) : (u.setPair i p).pair j = u.pair j := by
  have : i.val ≠ j.val := fun e => h (Fin.ext e.symm)
  simp [Line.setPair, Line.pair, Vector.getElem_set_ne, this]

@[simp] theorem mapPairs_pair (u : Line) (f : WatchPair → WatchPair) (i : EntryNo) :
    (u.mapPairs f).pair i = f (u.pair i) := by
  simp [Line.mapPairs, Line.pair]

@[simp] theorem mapLines_line (s : State) (f : LineNo → Line → Line) (l : LineNo) :
    (s.mapLines f).line l = f l (s.line l) := by
  simp [State.mapLines, State.line]

@[simp] theorem mapSessions_session (s : State) (f : SessionNo → Session → Session) (i : SessionNo) :
    (s.mapSessions f).session i = f i (s.session i) := by
  simp [State.mapSessions, State.session]

@[simp] theorem mapSlots_slot (s : State) (f : SlotNo → Slot → Slot) (k : SlotNo) :
    (s.mapSlots f).slot k = f k (s.slot k) := by
  simp [State.mapSlots, State.slot]

@[simp] theorem withPending_pending (s : State) (w : List Instr) : (s.withPending w).pending = w := rfl

/-- A frame pushed is sent at once, beside a free transmitter and an empty queue, or stands last in the queue. -/
theorem pushResponse_effect (s : State) (f : OutFrame) :
    s.upFree = true ∧ s.responses = []
        ∧ s.pushResponse f = { s with upTx := some (.response f false), lastMember := .responses }
      ∨ ¬ (s.upFree = true ∧ s.responses = [])
        ∧ s.pushResponse f = { s with responses := s.responses ++ [{ frame := f, resets := false }] } := by
  unfold State.pushResponse
  split
  · next h => exact .inl ⟨h.1, h.2, rfl⟩
  · next h => exact .inr ⟨h, rfl⟩

@[simp] theorem dropResponse_counters (s : State) :
    s.dropResponse.counters = { s.counters with responseDrops := s.counters.responseDrops + 1 } := rfl

/-! ### Equal parts, equal states -/

theorem lines_ext {s t : State} (h : ∀ l, s.line l = t.line l) : s.lines = t.lines := by
  apply Vector.ext
  intro i hi
  exact h ⟨i, hi⟩

theorem sessions_ext {s t : State} (h : ∀ i, s.session i = t.session i) : s.sessions = t.sessions := by
  apply Vector.ext
  intro i hi
  exact h ⟨i, hi⟩

theorem slots_ext {s t : State} (h : ∀ k, s.slot k = t.slot k) : s.slots = t.slots := by
  apply Vector.ext
  intro i hi
  exact h ⟨i, hi⟩

theorem pairs_ext {u v : Line} (h : ∀ i, u.pair i = v.pair i) : u.watch = v.watch := by
  apply Vector.ext
  intro i hi
  exact h ⟨i, hi⟩

theorem modLine_eq (s : State) (l : LineNo) (f : Line → Line) : s.modLine l f = s.setLine l (f (s.line l)) := rfl

@[simp] theorem setLine_setLine (s : State) (l : LineNo) (u v : Line) : (s.setLine l u).setLine l v = s.setLine l v := by
  simp [State.setLine]

@[simp] theorem setLine_self (s : State) (l : LineNo) : s.setLine l (s.line l) = s := by
  simp [State.setLine, State.line]

@[simp] theorem setSlot_setSlot (s : State) (k : SlotNo) (q r : Slot) : (s.setSlot k q).setSlot k r = s.setSlot k r := by
  simp [State.setSlot]

@[simp] theorem setSession_setSession (s : State) (i : SessionNo) (q r : Session) :
    (s.setSession i q).setSession i r = s.setSession i r := by
  simp [State.setSession]

@[simp] theorem setLine_setSlot (s : State) (l : LineNo) (u : Line) (k : SlotNo) (r : Slot) :
    (s.setLine l u).setSlot k r = (s.setSlot k r).setLine l u := rfl

@[simp] theorem setSession_setLine (s : State) (i : SessionNo) (r : Session) (l : LineNo) (u : Line) :
    (s.setSession i r).setLine l u = (s.setLine l u).setSession i r := rfl

@[simp] theorem setSession_setSlot (s : State) (i : SessionNo) (r : Session) (k : SlotNo) (q : Slot) :
    (s.setSession i r).setSlot k q = (s.setSlot k q).setSession i r := rfl

@[simp] theorem setLine_eta (s : State) (l : LineNo) :
    s.setLine l { s.line l with marks := (s.line l).marks } = s := setLine_self s l

@[simp] theorem setSession_self (s : State) (i : SessionNo) : s.setSession i (s.session i) = s := by
  simp [State.setSession, State.session]

/-! ### `setLine` -/

@[simp] theorem setLine_pending (s : State) (l : LineNo) (u : Line) : (s.setLine l u).pending = s.pending := rfl
@[simp] theorem setLine_rates (s : State) (l : LineNo) (u : Line) : (s.setLine l u).rates = s.rates := rfl
@[simp] theorem setLine_probeQueue (s : State) (l : LineNo) (u : Line) : (s.setLine l u).probeQueue = s.probeQueue := rfl
@[simp] theorem setLine_begun (s : State) (l : LineNo) (u : Line) : (s.setLine l u).begun = s.begun := rfl
@[simp] theorem setLine_engine (s : State) (l : LineNo) (u : Line) : (s.setLine l u).engine = s.engine := rfl
@[simp] theorem setLine_entries (s : State) (l : LineNo) (u : Line) : (s.setLine l u).entries = s.entries := rfl
@[simp] theorem setLine_slots (s : State) (l : LineNo) (u : Line) : (s.setLine l u).slots = s.slots := rfl
@[simp] theorem setLine_sessions (s : State) (l : LineNo) (u : Line) : (s.setLine l u).sessions = s.sessions := rfl
@[simp] theorem setLine_unitSummary (s : State) (l : LineNo) (u : Line) : (s.setLine l u).unitSummary = s.unitSummary := rfl
@[simp] theorem setLine_upLink (s : State) (l : LineNo) (u : Line) : (s.setLine l u).upLink = s.upLink := rfl
@[simp] theorem setLine_downLink (s : State) (l : LineNo) (u : Line) : (s.setLine l u).downLink = s.downLink := rfl
@[simp] theorem setLine_upTx (s : State) (l : LineNo) (u : Line) : (s.setLine l u).upTx = s.upTx := rfl
@[simp] theorem setLine_downTx (s : State) (l : LineNo) (u : Line) : (s.setLine l u).downTx = s.downTx := rfl
@[simp] theorem setLine_upQueue (s : State) (l : LineNo) (u : Line) : (s.setLine l u).upQueue = s.upQueue := rfl
@[simp] theorem setLine_downQueue (s : State) (l : LineNo) (u : Line) : (s.setLine l u).downQueue = s.downQueue := rfl
@[simp] theorem setLine_requests (s : State) (l : LineNo) (u : Line) : (s.setLine l u).requests = s.requests := rfl
@[simp] theorem setLine_responses (s : State) (l : LineNo) (u : Line) : (s.setLine l u).responses = s.responses := rfl
@[simp] theorem setLine_heldPlaces (s : State) (l : LineNo) (u : Line) : (s.setLine l u).heldPlaces = s.heldPlaces := rfl
@[simp] theorem setLine_waitingTests (s : State) (l : LineNo) (u : Line) : (s.setLine l u).waitingTests = s.waitingTests := rfl
@[simp] theorem setLine_lastMember (s : State) (l : LineNo) (u : Line) : (s.setLine l u).lastMember = s.lastMember := rfl
@[simp] theorem setLine_lastSession (s : State) (l : LineNo) (u : Line) : (s.setLine l u).lastSession = s.lastSession := rfl
@[simp] theorem setLine_unitNumber (s : State) (l : LineNo) (u : Line) : (s.setLine l u).unitNumber = s.unitNumber := rfl
@[simp] theorem setLine_unit (s : State) (l : LineNo) (u : Line) : (s.setLine l u).unit = s.unit := rfl
@[simp] theorem setLine_counters (s : State) (l : LineNo) (u : Line) : (s.setLine l u).counters = s.counters := rfl
@[simp] theorem setLine_unitTime (s : State) (l : LineNo) (u : Line) : (s.setLine l u).unitTime = s.unitTime := rfl
@[simp] theorem setLine_attendance (s : State) (l : LineNo) (u : Line) : (s.setLine l u).attendance = s.attendance := rfl
@[simp] theorem setLine_resetPhase (s : State) (l : LineNo) (u : Line) : (s.setLine l u).resetPhase = s.resetPhase := rfl
@[simp] theorem setLine_session (s : State) (l : LineNo) (u : Line) (j : SessionNo) : (s.setLine l u).session j = s.session j := rfl
@[simp] theorem setLine_slot (s : State) (l : LineNo) (u : Line) (j : SlotNo) : (s.setLine l u).slot j = s.slot j := rfl
@[simp] theorem setLine_entry (s : State) (l : LineNo) (u : Line) (j : EntryNo) : (s.setLine l u).entry j = s.entry j := rfl
@[simp] theorem setLine_rateAt (s : State) (l : LineNo) (u : Line) (j : RateIndex) : (s.setLine l u).rateAt j = s.rateAt j := rfl

/-! ### `setSession` -/

@[simp] theorem setSession_pending (s : State) (i : SessionNo) (r : Session) : (s.setSession i r).pending = s.pending := rfl
@[simp] theorem setSession_lines (s : State) (i : SessionNo) (r : Session) : (s.setSession i r).lines = s.lines := rfl
@[simp] theorem setSession_rates (s : State) (i : SessionNo) (r : Session) : (s.setSession i r).rates = s.rates := rfl
@[simp] theorem setSession_probeQueue (s : State) (i : SessionNo) (r : Session) : (s.setSession i r).probeQueue = s.probeQueue := rfl
@[simp] theorem setSession_begun (s : State) (i : SessionNo) (r : Session) : (s.setSession i r).begun = s.begun := rfl
@[simp] theorem setSession_engine (s : State) (i : SessionNo) (r : Session) : (s.setSession i r).engine = s.engine := rfl
@[simp] theorem setSession_entries (s : State) (i : SessionNo) (r : Session) : (s.setSession i r).entries = s.entries := rfl
@[simp] theorem setSession_slots (s : State) (i : SessionNo) (r : Session) : (s.setSession i r).slots = s.slots := rfl
@[simp] theorem setSession_unitSummary (s : State) (i : SessionNo) (r : Session) : (s.setSession i r).unitSummary = s.unitSummary := rfl
@[simp] theorem setSession_upLink (s : State) (i : SessionNo) (r : Session) : (s.setSession i r).upLink = s.upLink := rfl
@[simp] theorem setSession_downLink (s : State) (i : SessionNo) (r : Session) : (s.setSession i r).downLink = s.downLink := rfl
@[simp] theorem setSession_upTx (s : State) (i : SessionNo) (r : Session) : (s.setSession i r).upTx = s.upTx := rfl
@[simp] theorem setSession_downTx (s : State) (i : SessionNo) (r : Session) : (s.setSession i r).downTx = s.downTx := rfl
@[simp] theorem setSession_upQueue (s : State) (i : SessionNo) (r : Session) : (s.setSession i r).upQueue = s.upQueue := rfl
@[simp] theorem setSession_downQueue (s : State) (i : SessionNo) (r : Session) : (s.setSession i r).downQueue = s.downQueue := rfl
@[simp] theorem setSession_requests (s : State) (i : SessionNo) (r : Session) : (s.setSession i r).requests = s.requests := rfl
@[simp] theorem setSession_responses (s : State) (i : SessionNo) (r : Session) : (s.setSession i r).responses = s.responses := rfl
@[simp] theorem setSession_heldPlaces (s : State) (i : SessionNo) (r : Session) : (s.setSession i r).heldPlaces = s.heldPlaces := rfl
@[simp] theorem setSession_waitingTests (s : State) (i : SessionNo) (r : Session) : (s.setSession i r).waitingTests = s.waitingTests := rfl
@[simp] theorem setSession_lastMember (s : State) (i : SessionNo) (r : Session) : (s.setSession i r).lastMember = s.lastMember := rfl
@[simp] theorem setSession_lastSession (s : State) (i : SessionNo) (r : Session) : (s.setSession i r).lastSession = s.lastSession := rfl
@[simp] theorem setSession_unitNumber (s : State) (i : SessionNo) (r : Session) : (s.setSession i r).unitNumber = s.unitNumber := rfl
@[simp] theorem setSession_unit (s : State) (i : SessionNo) (r : Session) : (s.setSession i r).unit = s.unit := rfl
@[simp] theorem setSession_counters (s : State) (i : SessionNo) (r : Session) : (s.setSession i r).counters = s.counters := rfl
@[simp] theorem setSession_unitTime (s : State) (i : SessionNo) (r : Session) : (s.setSession i r).unitTime = s.unitTime := rfl
@[simp] theorem setSession_attendance (s : State) (i : SessionNo) (r : Session) : (s.setSession i r).attendance = s.attendance := rfl
@[simp] theorem setSession_resetPhase (s : State) (i : SessionNo) (r : Session) : (s.setSession i r).resetPhase = s.resetPhase := rfl
@[simp] theorem setSession_line (s : State) (i : SessionNo) (r : Session) (j : LineNo) : (s.setSession i r).line j = s.line j := rfl
@[simp] theorem setSession_slot (s : State) (i : SessionNo) (r : Session) (j : SlotNo) : (s.setSession i r).slot j = s.slot j := rfl
@[simp] theorem setSession_entry (s : State) (i : SessionNo) (r : Session) (j : EntryNo) : (s.setSession i r).entry j = s.entry j := rfl
@[simp] theorem setSession_rateAt (s : State) (i : SessionNo) (r : Session) (j : RateIndex) : (s.setSession i r).rateAt j = s.rateAt j := rfl

/-! ### `setSlot` -/

@[simp] theorem setSlot_pending (s : State) (k : SlotNo) (r : Slot) : (s.setSlot k r).pending = s.pending := rfl
@[simp] theorem setSlot_lines (s : State) (k : SlotNo) (r : Slot) : (s.setSlot k r).lines = s.lines := rfl
@[simp] theorem setSlot_rates (s : State) (k : SlotNo) (r : Slot) : (s.setSlot k r).rates = s.rates := rfl
@[simp] theorem setSlot_probeQueue (s : State) (k : SlotNo) (r : Slot) : (s.setSlot k r).probeQueue = s.probeQueue := rfl
@[simp] theorem setSlot_begun (s : State) (k : SlotNo) (r : Slot) : (s.setSlot k r).begun = s.begun := rfl
@[simp] theorem setSlot_engine (s : State) (k : SlotNo) (r : Slot) : (s.setSlot k r).engine = s.engine := rfl
@[simp] theorem setSlot_entries (s : State) (k : SlotNo) (r : Slot) : (s.setSlot k r).entries = s.entries := rfl
@[simp] theorem setSlot_sessions (s : State) (k : SlotNo) (r : Slot) : (s.setSlot k r).sessions = s.sessions := rfl
@[simp] theorem setSlot_unitSummary (s : State) (k : SlotNo) (r : Slot) : (s.setSlot k r).unitSummary = s.unitSummary := rfl
@[simp] theorem setSlot_upLink (s : State) (k : SlotNo) (r : Slot) : (s.setSlot k r).upLink = s.upLink := rfl
@[simp] theorem setSlot_downLink (s : State) (k : SlotNo) (r : Slot) : (s.setSlot k r).downLink = s.downLink := rfl
@[simp] theorem setSlot_upTx (s : State) (k : SlotNo) (r : Slot) : (s.setSlot k r).upTx = s.upTx := rfl
@[simp] theorem setSlot_downTx (s : State) (k : SlotNo) (r : Slot) : (s.setSlot k r).downTx = s.downTx := rfl
@[simp] theorem setSlot_upQueue (s : State) (k : SlotNo) (r : Slot) : (s.setSlot k r).upQueue = s.upQueue := rfl
@[simp] theorem setSlot_downQueue (s : State) (k : SlotNo) (r : Slot) : (s.setSlot k r).downQueue = s.downQueue := rfl
@[simp] theorem setSlot_requests (s : State) (k : SlotNo) (r : Slot) : (s.setSlot k r).requests = s.requests := rfl
@[simp] theorem setSlot_responses (s : State) (k : SlotNo) (r : Slot) : (s.setSlot k r).responses = s.responses := rfl
@[simp] theorem setSlot_heldPlaces (s : State) (k : SlotNo) (r : Slot) : (s.setSlot k r).heldPlaces = s.heldPlaces := rfl
@[simp] theorem setSlot_waitingTests (s : State) (k : SlotNo) (r : Slot) : (s.setSlot k r).waitingTests = s.waitingTests := rfl
@[simp] theorem setSlot_lastMember (s : State) (k : SlotNo) (r : Slot) : (s.setSlot k r).lastMember = s.lastMember := rfl
@[simp] theorem setSlot_lastSession (s : State) (k : SlotNo) (r : Slot) : (s.setSlot k r).lastSession = s.lastSession := rfl
@[simp] theorem setSlot_unitNumber (s : State) (k : SlotNo) (r : Slot) : (s.setSlot k r).unitNumber = s.unitNumber := rfl
@[simp] theorem setSlot_unit (s : State) (k : SlotNo) (r : Slot) : (s.setSlot k r).unit = s.unit := rfl
@[simp] theorem setSlot_counters (s : State) (k : SlotNo) (r : Slot) : (s.setSlot k r).counters = s.counters := rfl
@[simp] theorem setSlot_unitTime (s : State) (k : SlotNo) (r : Slot) : (s.setSlot k r).unitTime = s.unitTime := rfl
@[simp] theorem setSlot_attendance (s : State) (k : SlotNo) (r : Slot) : (s.setSlot k r).attendance = s.attendance := rfl
@[simp] theorem setSlot_resetPhase (s : State) (k : SlotNo) (r : Slot) : (s.setSlot k r).resetPhase = s.resetPhase := rfl
@[simp] theorem setSlot_line (s : State) (k : SlotNo) (r : Slot) (j : LineNo) : (s.setSlot k r).line j = s.line j := rfl
@[simp] theorem setSlot_session (s : State) (k : SlotNo) (r : Slot) (j : SessionNo) : (s.setSlot k r).session j = s.session j := rfl
@[simp] theorem setSlot_entry (s : State) (k : SlotNo) (r : Slot) (j : EntryNo) : (s.setSlot k r).entry j = s.entry j := rfl
@[simp] theorem setSlot_rateAt (s : State) (k : SlotNo) (r : Slot) (j : RateIndex) : (s.setSlot k r).rateAt j = s.rateAt j := rfl

/-! ### `setEntry` -/

@[simp] theorem setEntry_pending (s : State) (i : EntryNo) (e : WatchEntry) : (s.setEntry i e).pending = s.pending := rfl
@[simp] theorem setEntry_lines (s : State) (i : EntryNo) (e : WatchEntry) : (s.setEntry i e).lines = s.lines := rfl
@[simp] theorem setEntry_rates (s : State) (i : EntryNo) (e : WatchEntry) : (s.setEntry i e).rates = s.rates := rfl
@[simp] theorem setEntry_probeQueue (s : State) (i : EntryNo) (e : WatchEntry) : (s.setEntry i e).probeQueue = s.probeQueue := rfl
@[simp] theorem setEntry_begun (s : State) (i : EntryNo) (e : WatchEntry) : (s.setEntry i e).begun = s.begun := rfl
@[simp] theorem setEntry_engine (s : State) (i : EntryNo) (e : WatchEntry) : (s.setEntry i e).engine = s.engine := rfl
@[simp] theorem setEntry_slots (s : State) (i : EntryNo) (e : WatchEntry) : (s.setEntry i e).slots = s.slots := rfl
@[simp] theorem setEntry_sessions (s : State) (i : EntryNo) (e : WatchEntry) : (s.setEntry i e).sessions = s.sessions := rfl
@[simp] theorem setEntry_unitSummary (s : State) (i : EntryNo) (e : WatchEntry) : (s.setEntry i e).unitSummary = s.unitSummary := rfl
@[simp] theorem setEntry_upLink (s : State) (i : EntryNo) (e : WatchEntry) : (s.setEntry i e).upLink = s.upLink := rfl
@[simp] theorem setEntry_downLink (s : State) (i : EntryNo) (e : WatchEntry) : (s.setEntry i e).downLink = s.downLink := rfl
@[simp] theorem setEntry_upTx (s : State) (i : EntryNo) (e : WatchEntry) : (s.setEntry i e).upTx = s.upTx := rfl
@[simp] theorem setEntry_downTx (s : State) (i : EntryNo) (e : WatchEntry) : (s.setEntry i e).downTx = s.downTx := rfl
@[simp] theorem setEntry_upQueue (s : State) (i : EntryNo) (e : WatchEntry) : (s.setEntry i e).upQueue = s.upQueue := rfl
@[simp] theorem setEntry_downQueue (s : State) (i : EntryNo) (e : WatchEntry) : (s.setEntry i e).downQueue = s.downQueue := rfl
@[simp] theorem setEntry_requests (s : State) (i : EntryNo) (e : WatchEntry) : (s.setEntry i e).requests = s.requests := rfl
@[simp] theorem setEntry_responses (s : State) (i : EntryNo) (e : WatchEntry) : (s.setEntry i e).responses = s.responses := rfl
@[simp] theorem setEntry_heldPlaces (s : State) (i : EntryNo) (e : WatchEntry) : (s.setEntry i e).heldPlaces = s.heldPlaces := rfl
@[simp] theorem setEntry_waitingTests (s : State) (i : EntryNo) (e : WatchEntry) : (s.setEntry i e).waitingTests = s.waitingTests := rfl
@[simp] theorem setEntry_lastMember (s : State) (i : EntryNo) (e : WatchEntry) : (s.setEntry i e).lastMember = s.lastMember := rfl
@[simp] theorem setEntry_lastSession (s : State) (i : EntryNo) (e : WatchEntry) : (s.setEntry i e).lastSession = s.lastSession := rfl
@[simp] theorem setEntry_unitNumber (s : State) (i : EntryNo) (e : WatchEntry) : (s.setEntry i e).unitNumber = s.unitNumber := rfl
@[simp] theorem setEntry_unit (s : State) (i : EntryNo) (e : WatchEntry) : (s.setEntry i e).unit = s.unit := rfl
@[simp] theorem setEntry_counters (s : State) (i : EntryNo) (e : WatchEntry) : (s.setEntry i e).counters = s.counters := rfl
@[simp] theorem setEntry_unitTime (s : State) (i : EntryNo) (e : WatchEntry) : (s.setEntry i e).unitTime = s.unitTime := rfl
@[simp] theorem setEntry_attendance (s : State) (i : EntryNo) (e : WatchEntry) : (s.setEntry i e).attendance = s.attendance := rfl
@[simp] theorem setEntry_resetPhase (s : State) (i : EntryNo) (e : WatchEntry) : (s.setEntry i e).resetPhase = s.resetPhase := rfl
@[simp] theorem setEntry_line (s : State) (i : EntryNo) (e : WatchEntry) (j : LineNo) : (s.setEntry i e).line j = s.line j := rfl
@[simp] theorem setEntry_session (s : State) (i : EntryNo) (e : WatchEntry) (j : SessionNo) : (s.setEntry i e).session j = s.session j := rfl
@[simp] theorem setEntry_slot (s : State) (i : EntryNo) (e : WatchEntry) (j : SlotNo) : (s.setEntry i e).slot j = s.slot j := rfl
@[simp] theorem setEntry_rateAt (s : State) (i : EntryNo) (e : WatchEntry) (j : RateIndex) : (s.setEntry i e).rateAt j = s.rateAt j := rfl

/-! ### `withPending` -/

@[simp] theorem withPending_lines (s : State) (w : List Instr) : (s.withPending w).lines = s.lines := rfl
@[simp] theorem withPending_rates (s : State) (w : List Instr) : (s.withPending w).rates = s.rates := rfl
@[simp] theorem withPending_probeQueue (s : State) (w : List Instr) : (s.withPending w).probeQueue = s.probeQueue := rfl
@[simp] theorem withPending_begun (s : State) (w : List Instr) : (s.withPending w).begun = s.begun := rfl
@[simp] theorem withPending_engine (s : State) (w : List Instr) : (s.withPending w).engine = s.engine := rfl
@[simp] theorem withPending_entries (s : State) (w : List Instr) : (s.withPending w).entries = s.entries := rfl
@[simp] theorem withPending_slots (s : State) (w : List Instr) : (s.withPending w).slots = s.slots := rfl
@[simp] theorem withPending_sessions (s : State) (w : List Instr) : (s.withPending w).sessions = s.sessions := rfl
@[simp] theorem withPending_unitSummary (s : State) (w : List Instr) : (s.withPending w).unitSummary = s.unitSummary := rfl
@[simp] theorem withPending_upLink (s : State) (w : List Instr) : (s.withPending w).upLink = s.upLink := rfl
@[simp] theorem withPending_downLink (s : State) (w : List Instr) : (s.withPending w).downLink = s.downLink := rfl
@[simp] theorem withPending_upTx (s : State) (w : List Instr) : (s.withPending w).upTx = s.upTx := rfl
@[simp] theorem withPending_downTx (s : State) (w : List Instr) : (s.withPending w).downTx = s.downTx := rfl
@[simp] theorem withPending_upQueue (s : State) (w : List Instr) : (s.withPending w).upQueue = s.upQueue := rfl
@[simp] theorem withPending_downQueue (s : State) (w : List Instr) : (s.withPending w).downQueue = s.downQueue := rfl
@[simp] theorem withPending_requests (s : State) (w : List Instr) : (s.withPending w).requests = s.requests := rfl
@[simp] theorem withPending_responses (s : State) (w : List Instr) : (s.withPending w).responses = s.responses := rfl
@[simp] theorem withPending_heldPlaces (s : State) (w : List Instr) : (s.withPending w).heldPlaces = s.heldPlaces := rfl
@[simp] theorem withPending_waitingTests (s : State) (w : List Instr) : (s.withPending w).waitingTests = s.waitingTests := rfl
@[simp] theorem withPending_lastMember (s : State) (w : List Instr) : (s.withPending w).lastMember = s.lastMember := rfl
@[simp] theorem withPending_lastSession (s : State) (w : List Instr) : (s.withPending w).lastSession = s.lastSession := rfl
@[simp] theorem withPending_unitNumber (s : State) (w : List Instr) : (s.withPending w).unitNumber = s.unitNumber := rfl
@[simp] theorem withPending_unit (s : State) (w : List Instr) : (s.withPending w).unit = s.unit := rfl
@[simp] theorem withPending_counters (s : State) (w : List Instr) : (s.withPending w).counters = s.counters := rfl
@[simp] theorem withPending_unitTime (s : State) (w : List Instr) : (s.withPending w).unitTime = s.unitTime := rfl
@[simp] theorem withPending_attendance (s : State) (w : List Instr) : (s.withPending w).attendance = s.attendance := rfl
@[simp] theorem withPending_resetPhase (s : State) (w : List Instr) : (s.withPending w).resetPhase = s.resetPhase := rfl
@[simp] theorem withPending_line (s : State) (w : List Instr) (j : LineNo) : (s.withPending w).line j = s.line j := rfl
@[simp] theorem withPending_session (s : State) (w : List Instr) (j : SessionNo) : (s.withPending w).session j = s.session j := rfl
@[simp] theorem withPending_slot (s : State) (w : List Instr) (j : SlotNo) : (s.withPending w).slot j = s.slot j := rfl
@[simp] theorem withPending_entry (s : State) (w : List Instr) (j : EntryNo) : (s.withPending w).entry j = s.entry j := rfl
@[simp] theorem withPending_rateAt (s : State) (w : List Instr) (j : RateIndex) : (s.withPending w).rateAt j = s.rateAt j := rfl

/-! ### `mapLines` -/

@[simp] theorem mapLines_pending (s : State) (f : LineNo → Line → Line) : (s.mapLines f).pending = s.pending := by
  simp only [State.mapLines]
@[simp] theorem mapLines_rates (s : State) (f : LineNo → Line → Line) : (s.mapLines f).rates = s.rates := by
  simp only [State.mapLines]
@[simp] theorem mapLines_probeQueue (s : State) (f : LineNo → Line → Line) : (s.mapLines f).probeQueue = s.probeQueue := by
  simp only [State.mapLines]
@[simp] theorem mapLines_begun (s : State) (f : LineNo → Line → Line) : (s.mapLines f).begun = s.begun := by
  simp only [State.mapLines]
@[simp] theorem mapLines_engine (s : State) (f : LineNo → Line → Line) : (s.mapLines f).engine = s.engine := by
  simp only [State.mapLines]
@[simp] theorem mapLines_entries (s : State) (f : LineNo → Line → Line) : (s.mapLines f).entries = s.entries := by
  simp only [State.mapLines]
@[simp] theorem mapLines_slots (s : State) (f : LineNo → Line → Line) : (s.mapLines f).slots = s.slots := by
  simp only [State.mapLines]
@[simp] theorem mapLines_sessions (s : State) (f : LineNo → Line → Line) : (s.mapLines f).sessions = s.sessions := by
  simp only [State.mapLines]
@[simp] theorem mapLines_unitSummary (s : State) (f : LineNo → Line → Line) : (s.mapLines f).unitSummary = s.unitSummary := by
  simp only [State.mapLines]
@[simp] theorem mapLines_upLink (s : State) (f : LineNo → Line → Line) : (s.mapLines f).upLink = s.upLink := by
  simp only [State.mapLines]
@[simp] theorem mapLines_downLink (s : State) (f : LineNo → Line → Line) : (s.mapLines f).downLink = s.downLink := by
  simp only [State.mapLines]
@[simp] theorem mapLines_upTx (s : State) (f : LineNo → Line → Line) : (s.mapLines f).upTx = s.upTx := by
  simp only [State.mapLines]
@[simp] theorem mapLines_downTx (s : State) (f : LineNo → Line → Line) : (s.mapLines f).downTx = s.downTx := by
  simp only [State.mapLines]
@[simp] theorem mapLines_upQueue (s : State) (f : LineNo → Line → Line) : (s.mapLines f).upQueue = s.upQueue := by
  simp only [State.mapLines]
@[simp] theorem mapLines_downQueue (s : State) (f : LineNo → Line → Line) : (s.mapLines f).downQueue = s.downQueue := by
  simp only [State.mapLines]
@[simp] theorem mapLines_requests (s : State) (f : LineNo → Line → Line) : (s.mapLines f).requests = s.requests := by
  simp only [State.mapLines]
@[simp] theorem mapLines_responses (s : State) (f : LineNo → Line → Line) : (s.mapLines f).responses = s.responses := by
  simp only [State.mapLines]
@[simp] theorem mapLines_heldPlaces (s : State) (f : LineNo → Line → Line) : (s.mapLines f).heldPlaces = s.heldPlaces := by
  simp only [State.mapLines]
@[simp] theorem mapLines_waitingTests (s : State) (f : LineNo → Line → Line) : (s.mapLines f).waitingTests = s.waitingTests := by
  simp only [State.mapLines]
@[simp] theorem mapLines_lastMember (s : State) (f : LineNo → Line → Line) : (s.mapLines f).lastMember = s.lastMember := by
  simp only [State.mapLines]
@[simp] theorem mapLines_lastSession (s : State) (f : LineNo → Line → Line) : (s.mapLines f).lastSession = s.lastSession := by
  simp only [State.mapLines]
@[simp] theorem mapLines_unitNumber (s : State) (f : LineNo → Line → Line) : (s.mapLines f).unitNumber = s.unitNumber := by
  simp only [State.mapLines]
@[simp] theorem mapLines_unit (s : State) (f : LineNo → Line → Line) : (s.mapLines f).unit = s.unit := by
  simp only [State.mapLines]
@[simp] theorem mapLines_counters (s : State) (f : LineNo → Line → Line) : (s.mapLines f).counters = s.counters := by
  simp only [State.mapLines]
@[simp] theorem mapLines_unitTime (s : State) (f : LineNo → Line → Line) : (s.mapLines f).unitTime = s.unitTime := by
  simp only [State.mapLines]
@[simp] theorem mapLines_attendance (s : State) (f : LineNo → Line → Line) : (s.mapLines f).attendance = s.attendance := by
  simp only [State.mapLines]
@[simp] theorem mapLines_resetPhase (s : State) (f : LineNo → Line → Line) : (s.mapLines f).resetPhase = s.resetPhase := by
  simp only [State.mapLines]
@[simp] theorem mapLines_session (s : State) (f : LineNo → Line → Line) (j : SessionNo) : (s.mapLines f).session j = s.session j := by
  simp only [State.mapLines, State.session]
@[simp] theorem mapLines_slot (s : State) (f : LineNo → Line → Line) (j : SlotNo) : (s.mapLines f).slot j = s.slot j := by
  simp only [State.mapLines, State.slot]
@[simp] theorem mapLines_entry (s : State) (f : LineNo → Line → Line) (j : EntryNo) : (s.mapLines f).entry j = s.entry j := by
  simp only [State.mapLines, State.entry]
@[simp] theorem mapLines_rateAt (s : State) (f : LineNo → Line → Line) (j : RateIndex) : (s.mapLines f).rateAt j = s.rateAt j := by
  simp only [State.mapLines, State.rateAt]

/-! ### `mapSessions` -/

@[simp] theorem mapSessions_pending (s : State) (f : SessionNo → Session → Session) : (s.mapSessions f).pending = s.pending := by
  simp only [State.mapSessions]
@[simp] theorem mapSessions_lines (s : State) (f : SessionNo → Session → Session) : (s.mapSessions f).lines = s.lines := by
  simp only [State.mapSessions]
@[simp] theorem mapSessions_rates (s : State) (f : SessionNo → Session → Session) : (s.mapSessions f).rates = s.rates := by
  simp only [State.mapSessions]
@[simp] theorem mapSessions_probeQueue (s : State) (f : SessionNo → Session → Session) : (s.mapSessions f).probeQueue = s.probeQueue := by
  simp only [State.mapSessions]
@[simp] theorem mapSessions_begun (s : State) (f : SessionNo → Session → Session) : (s.mapSessions f).begun = s.begun := by
  simp only [State.mapSessions]
@[simp] theorem mapSessions_engine (s : State) (f : SessionNo → Session → Session) : (s.mapSessions f).engine = s.engine := by
  simp only [State.mapSessions]
@[simp] theorem mapSessions_entries (s : State) (f : SessionNo → Session → Session) : (s.mapSessions f).entries = s.entries := by
  simp only [State.mapSessions]
@[simp] theorem mapSessions_slots (s : State) (f : SessionNo → Session → Session) : (s.mapSessions f).slots = s.slots := by
  simp only [State.mapSessions]
@[simp] theorem mapSessions_unitSummary (s : State) (f : SessionNo → Session → Session) : (s.mapSessions f).unitSummary = s.unitSummary := by
  simp only [State.mapSessions]
@[simp] theorem mapSessions_upLink (s : State) (f : SessionNo → Session → Session) : (s.mapSessions f).upLink = s.upLink := by
  simp only [State.mapSessions]
@[simp] theorem mapSessions_downLink (s : State) (f : SessionNo → Session → Session) : (s.mapSessions f).downLink = s.downLink := by
  simp only [State.mapSessions]
@[simp] theorem mapSessions_upTx (s : State) (f : SessionNo → Session → Session) : (s.mapSessions f).upTx = s.upTx := by
  simp only [State.mapSessions]
@[simp] theorem mapSessions_downTx (s : State) (f : SessionNo → Session → Session) : (s.mapSessions f).downTx = s.downTx := by
  simp only [State.mapSessions]
@[simp] theorem mapSessions_upQueue (s : State) (f : SessionNo → Session → Session) : (s.mapSessions f).upQueue = s.upQueue := by
  simp only [State.mapSessions]
@[simp] theorem mapSessions_downQueue (s : State) (f : SessionNo → Session → Session) : (s.mapSessions f).downQueue = s.downQueue := by
  simp only [State.mapSessions]
@[simp] theorem mapSessions_requests (s : State) (f : SessionNo → Session → Session) : (s.mapSessions f).requests = s.requests := by
  simp only [State.mapSessions]
@[simp] theorem mapSessions_responses (s : State) (f : SessionNo → Session → Session) : (s.mapSessions f).responses = s.responses := by
  simp only [State.mapSessions]
@[simp] theorem mapSessions_heldPlaces (s : State) (f : SessionNo → Session → Session) : (s.mapSessions f).heldPlaces = s.heldPlaces := by
  simp only [State.mapSessions]
@[simp] theorem mapSessions_waitingTests (s : State) (f : SessionNo → Session → Session) : (s.mapSessions f).waitingTests = s.waitingTests := by
  simp only [State.mapSessions]
@[simp] theorem mapSessions_lastMember (s : State) (f : SessionNo → Session → Session) : (s.mapSessions f).lastMember = s.lastMember := by
  simp only [State.mapSessions]
@[simp] theorem mapSessions_lastSession (s : State) (f : SessionNo → Session → Session) : (s.mapSessions f).lastSession = s.lastSession := by
  simp only [State.mapSessions]
@[simp] theorem mapSessions_unitNumber (s : State) (f : SessionNo → Session → Session) : (s.mapSessions f).unitNumber = s.unitNumber := by
  simp only [State.mapSessions]
@[simp] theorem mapSessions_unit (s : State) (f : SessionNo → Session → Session) : (s.mapSessions f).unit = s.unit := by
  simp only [State.mapSessions]
@[simp] theorem mapSessions_counters (s : State) (f : SessionNo → Session → Session) : (s.mapSessions f).counters = s.counters := by
  simp only [State.mapSessions]
@[simp] theorem mapSessions_unitTime (s : State) (f : SessionNo → Session → Session) : (s.mapSessions f).unitTime = s.unitTime := by
  simp only [State.mapSessions]
@[simp] theorem mapSessions_attendance (s : State) (f : SessionNo → Session → Session) : (s.mapSessions f).attendance = s.attendance := by
  simp only [State.mapSessions]
@[simp] theorem mapSessions_resetPhase (s : State) (f : SessionNo → Session → Session) : (s.mapSessions f).resetPhase = s.resetPhase := by
  simp only [State.mapSessions]
@[simp] theorem mapSessions_line (s : State) (f : SessionNo → Session → Session) (j : LineNo) : (s.mapSessions f).line j = s.line j := by
  simp only [State.mapSessions, State.line]
@[simp] theorem mapSessions_slot (s : State) (f : SessionNo → Session → Session) (j : SlotNo) : (s.mapSessions f).slot j = s.slot j := by
  simp only [State.mapSessions, State.slot]
@[simp] theorem mapSessions_entry (s : State) (f : SessionNo → Session → Session) (j : EntryNo) : (s.mapSessions f).entry j = s.entry j := by
  simp only [State.mapSessions, State.entry]
@[simp] theorem mapSessions_rateAt (s : State) (f : SessionNo → Session → Session) (j : RateIndex) : (s.mapSessions f).rateAt j = s.rateAt j := by
  simp only [State.mapSessions, State.rateAt]

/-! ### `mapSlots` -/

@[simp] theorem mapSlots_pending (s : State) (f : SlotNo → Slot → Slot) : (s.mapSlots f).pending = s.pending := by
  simp only [State.mapSlots]
@[simp] theorem mapSlots_lines (s : State) (f : SlotNo → Slot → Slot) : (s.mapSlots f).lines = s.lines := by
  simp only [State.mapSlots]
@[simp] theorem mapSlots_rates (s : State) (f : SlotNo → Slot → Slot) : (s.mapSlots f).rates = s.rates := by
  simp only [State.mapSlots]
@[simp] theorem mapSlots_probeQueue (s : State) (f : SlotNo → Slot → Slot) : (s.mapSlots f).probeQueue = s.probeQueue := by
  simp only [State.mapSlots]
@[simp] theorem mapSlots_begun (s : State) (f : SlotNo → Slot → Slot) : (s.mapSlots f).begun = s.begun := by
  simp only [State.mapSlots]
@[simp] theorem mapSlots_engine (s : State) (f : SlotNo → Slot → Slot) : (s.mapSlots f).engine = s.engine := by
  simp only [State.mapSlots]
@[simp] theorem mapSlots_entries (s : State) (f : SlotNo → Slot → Slot) : (s.mapSlots f).entries = s.entries := by
  simp only [State.mapSlots]
@[simp] theorem mapSlots_sessions (s : State) (f : SlotNo → Slot → Slot) : (s.mapSlots f).sessions = s.sessions := by
  simp only [State.mapSlots]
@[simp] theorem mapSlots_unitSummary (s : State) (f : SlotNo → Slot → Slot) : (s.mapSlots f).unitSummary = s.unitSummary := by
  simp only [State.mapSlots]
@[simp] theorem mapSlots_upLink (s : State) (f : SlotNo → Slot → Slot) : (s.mapSlots f).upLink = s.upLink := by
  simp only [State.mapSlots]
@[simp] theorem mapSlots_downLink (s : State) (f : SlotNo → Slot → Slot) : (s.mapSlots f).downLink = s.downLink := by
  simp only [State.mapSlots]
@[simp] theorem mapSlots_upTx (s : State) (f : SlotNo → Slot → Slot) : (s.mapSlots f).upTx = s.upTx := by
  simp only [State.mapSlots]
@[simp] theorem mapSlots_downTx (s : State) (f : SlotNo → Slot → Slot) : (s.mapSlots f).downTx = s.downTx := by
  simp only [State.mapSlots]
@[simp] theorem mapSlots_upQueue (s : State) (f : SlotNo → Slot → Slot) : (s.mapSlots f).upQueue = s.upQueue := by
  simp only [State.mapSlots]
@[simp] theorem mapSlots_downQueue (s : State) (f : SlotNo → Slot → Slot) : (s.mapSlots f).downQueue = s.downQueue := by
  simp only [State.mapSlots]
@[simp] theorem mapSlots_requests (s : State) (f : SlotNo → Slot → Slot) : (s.mapSlots f).requests = s.requests := by
  simp only [State.mapSlots]
@[simp] theorem mapSlots_responses (s : State) (f : SlotNo → Slot → Slot) : (s.mapSlots f).responses = s.responses := by
  simp only [State.mapSlots]
@[simp] theorem mapSlots_heldPlaces (s : State) (f : SlotNo → Slot → Slot) : (s.mapSlots f).heldPlaces = s.heldPlaces := by
  simp only [State.mapSlots]
@[simp] theorem mapSlots_waitingTests (s : State) (f : SlotNo → Slot → Slot) : (s.mapSlots f).waitingTests = s.waitingTests := by
  simp only [State.mapSlots]
@[simp] theorem mapSlots_lastMember (s : State) (f : SlotNo → Slot → Slot) : (s.mapSlots f).lastMember = s.lastMember := by
  simp only [State.mapSlots]
@[simp] theorem mapSlots_lastSession (s : State) (f : SlotNo → Slot → Slot) : (s.mapSlots f).lastSession = s.lastSession := by
  simp only [State.mapSlots]
@[simp] theorem mapSlots_unitNumber (s : State) (f : SlotNo → Slot → Slot) : (s.mapSlots f).unitNumber = s.unitNumber := by
  simp only [State.mapSlots]
@[simp] theorem mapSlots_unit (s : State) (f : SlotNo → Slot → Slot) : (s.mapSlots f).unit = s.unit := by
  simp only [State.mapSlots]
@[simp] theorem mapSlots_counters (s : State) (f : SlotNo → Slot → Slot) : (s.mapSlots f).counters = s.counters := by
  simp only [State.mapSlots]
@[simp] theorem mapSlots_unitTime (s : State) (f : SlotNo → Slot → Slot) : (s.mapSlots f).unitTime = s.unitTime := by
  simp only [State.mapSlots]
@[simp] theorem mapSlots_attendance (s : State) (f : SlotNo → Slot → Slot) : (s.mapSlots f).attendance = s.attendance := by
  simp only [State.mapSlots]
@[simp] theorem mapSlots_resetPhase (s : State) (f : SlotNo → Slot → Slot) : (s.mapSlots f).resetPhase = s.resetPhase := by
  simp only [State.mapSlots]
@[simp] theorem mapSlots_line (s : State) (f : SlotNo → Slot → Slot) (j : LineNo) : (s.mapSlots f).line j = s.line j := by
  simp only [State.mapSlots, State.line]
@[simp] theorem mapSlots_session (s : State) (f : SlotNo → Slot → Slot) (j : SessionNo) : (s.mapSlots f).session j = s.session j := by
  simp only [State.mapSlots, State.session]
@[simp] theorem mapSlots_entry (s : State) (f : SlotNo → Slot → Slot) (j : EntryNo) : (s.mapSlots f).entry j = s.entry j := by
  simp only [State.mapSlots, State.entry]
@[simp] theorem mapSlots_rateAt (s : State) (f : SlotNo → Slot → Slot) (j : RateIndex) : (s.mapSlots f).rateAt j = s.rateAt j := by
  simp only [State.mapSlots, State.rateAt]

/-! ### `pushResponse` -/

@[simp] theorem pushResponse_pending (s : State) (f : OutFrame) : (s.pushResponse f).pending = s.pending := by
  unfold State.pushResponse; split <;> rfl
@[simp] theorem pushResponse_lines (s : State) (f : OutFrame) : (s.pushResponse f).lines = s.lines := by
  unfold State.pushResponse; split <;> rfl
@[simp] theorem pushResponse_rates (s : State) (f : OutFrame) : (s.pushResponse f).rates = s.rates := by
  unfold State.pushResponse; split <;> rfl
@[simp] theorem pushResponse_probeQueue (s : State) (f : OutFrame) : (s.pushResponse f).probeQueue = s.probeQueue := by
  unfold State.pushResponse; split <;> rfl
@[simp] theorem pushResponse_begun (s : State) (f : OutFrame) : (s.pushResponse f).begun = s.begun := by
  unfold State.pushResponse; split <;> rfl
@[simp] theorem pushResponse_engine (s : State) (f : OutFrame) : (s.pushResponse f).engine = s.engine := by
  unfold State.pushResponse; split <;> rfl
@[simp] theorem pushResponse_entries (s : State) (f : OutFrame) : (s.pushResponse f).entries = s.entries := by
  unfold State.pushResponse; split <;> rfl
@[simp] theorem pushResponse_slots (s : State) (f : OutFrame) : (s.pushResponse f).slots = s.slots := by
  unfold State.pushResponse; split <;> rfl
@[simp] theorem pushResponse_sessions (s : State) (f : OutFrame) : (s.pushResponse f).sessions = s.sessions := by
  unfold State.pushResponse; split <;> rfl
@[simp] theorem pushResponse_unitSummary (s : State) (f : OutFrame) : (s.pushResponse f).unitSummary = s.unitSummary := by
  unfold State.pushResponse; split <;> rfl
@[simp] theorem pushResponse_upLink (s : State) (f : OutFrame) : (s.pushResponse f).upLink = s.upLink := by
  unfold State.pushResponse; split <;> rfl
@[simp] theorem pushResponse_downLink (s : State) (f : OutFrame) : (s.pushResponse f).downLink = s.downLink := by
  unfold State.pushResponse; split <;> rfl
@[simp] theorem pushResponse_downTx (s : State) (f : OutFrame) : (s.pushResponse f).downTx = s.downTx := by
  unfold State.pushResponse; split <;> rfl
@[simp] theorem pushResponse_upQueue (s : State) (f : OutFrame) : (s.pushResponse f).upQueue = s.upQueue := by
  unfold State.pushResponse; split <;> rfl
@[simp] theorem pushResponse_downQueue (s : State) (f : OutFrame) : (s.pushResponse f).downQueue = s.downQueue := by
  unfold State.pushResponse; split <;> rfl
@[simp] theorem pushResponse_requests (s : State) (f : OutFrame) : (s.pushResponse f).requests = s.requests := by
  unfold State.pushResponse; split <;> rfl
@[simp] theorem pushResponse_heldPlaces (s : State) (f : OutFrame) : (s.pushResponse f).heldPlaces = s.heldPlaces := by
  unfold State.pushResponse; split <;> rfl
@[simp] theorem pushResponse_waitingTests (s : State) (f : OutFrame) : (s.pushResponse f).waitingTests = s.waitingTests := by
  unfold State.pushResponse; split <;> rfl
@[simp] theorem pushResponse_lastSession (s : State) (f : OutFrame) : (s.pushResponse f).lastSession = s.lastSession := by
  unfold State.pushResponse; split <;> rfl
@[simp] theorem pushResponse_unitNumber (s : State) (f : OutFrame) : (s.pushResponse f).unitNumber = s.unitNumber := by
  unfold State.pushResponse; split <;> rfl
@[simp] theorem pushResponse_unit (s : State) (f : OutFrame) : (s.pushResponse f).unit = s.unit := by
  unfold State.pushResponse; split <;> rfl
@[simp] theorem pushResponse_counters (s : State) (f : OutFrame) : (s.pushResponse f).counters = s.counters := by
  unfold State.pushResponse; split <;> rfl
@[simp] theorem pushResponse_unitTime (s : State) (f : OutFrame) : (s.pushResponse f).unitTime = s.unitTime := by
  unfold State.pushResponse; split <;> rfl
@[simp] theorem pushResponse_attendance (s : State) (f : OutFrame) : (s.pushResponse f).attendance = s.attendance := by
  unfold State.pushResponse; split <;> rfl
@[simp] theorem pushResponse_resetPhase (s : State) (f : OutFrame) : (s.pushResponse f).resetPhase = s.resetPhase := by
  unfold State.pushResponse; split <;> rfl
@[simp] theorem pushResponse_line (s : State) (f : OutFrame) (j : LineNo) : (s.pushResponse f).line j = s.line j := by
  unfold State.pushResponse; split <;> rfl
@[simp] theorem pushResponse_session (s : State) (f : OutFrame) (j : SessionNo) : (s.pushResponse f).session j = s.session j := by
  unfold State.pushResponse; split <;> rfl
@[simp] theorem pushResponse_slot (s : State) (f : OutFrame) (j : SlotNo) : (s.pushResponse f).slot j = s.slot j := by
  unfold State.pushResponse; split <;> rfl
@[simp] theorem pushResponse_entry (s : State) (f : OutFrame) (j : EntryNo) : (s.pushResponse f).entry j = s.entry j := by
  unfold State.pushResponse; split <;> rfl
@[simp] theorem pushResponse_rateAt (s : State) (f : OutFrame) (j : RateIndex) : (s.pushResponse f).rateAt j = s.rateAt j := by
  unfold State.pushResponse; split <;> rfl

/-! ### `dropResponse` -/

@[simp] theorem dropResponse_pending (s : State) : (s.dropResponse).pending = s.pending := rfl
@[simp] theorem dropResponse_lines (s : State) : (s.dropResponse).lines = s.lines := rfl
@[simp] theorem dropResponse_rates (s : State) : (s.dropResponse).rates = s.rates := rfl
@[simp] theorem dropResponse_probeQueue (s : State) : (s.dropResponse).probeQueue = s.probeQueue := rfl
@[simp] theorem dropResponse_begun (s : State) : (s.dropResponse).begun = s.begun := rfl
@[simp] theorem dropResponse_engine (s : State) : (s.dropResponse).engine = s.engine := rfl
@[simp] theorem dropResponse_entries (s : State) : (s.dropResponse).entries = s.entries := rfl
@[simp] theorem dropResponse_slots (s : State) : (s.dropResponse).slots = s.slots := rfl
@[simp] theorem dropResponse_sessions (s : State) : (s.dropResponse).sessions = s.sessions := rfl
@[simp] theorem dropResponse_unitSummary (s : State) : (s.dropResponse).unitSummary = s.unitSummary := rfl
@[simp] theorem dropResponse_upLink (s : State) : (s.dropResponse).upLink = s.upLink := rfl
@[simp] theorem dropResponse_downLink (s : State) : (s.dropResponse).downLink = s.downLink := rfl
@[simp] theorem dropResponse_upTx (s : State) : (s.dropResponse).upTx = s.upTx := rfl
@[simp] theorem dropResponse_downTx (s : State) : (s.dropResponse).downTx = s.downTx := rfl
@[simp] theorem dropResponse_upQueue (s : State) : (s.dropResponse).upQueue = s.upQueue := rfl
@[simp] theorem dropResponse_downQueue (s : State) : (s.dropResponse).downQueue = s.downQueue := rfl
@[simp] theorem dropResponse_requests (s : State) : (s.dropResponse).requests = s.requests := rfl
@[simp] theorem dropResponse_responses (s : State) : (s.dropResponse).responses = s.responses := rfl
@[simp] theorem dropResponse_heldPlaces (s : State) : (s.dropResponse).heldPlaces = s.heldPlaces := rfl
@[simp] theorem dropResponse_waitingTests (s : State) : (s.dropResponse).waitingTests = s.waitingTests := rfl
@[simp] theorem dropResponse_lastMember (s : State) : (s.dropResponse).lastMember = s.lastMember := rfl
@[simp] theorem dropResponse_lastSession (s : State) : (s.dropResponse).lastSession = s.lastSession := rfl
@[simp] theorem dropResponse_unitNumber (s : State) : (s.dropResponse).unitNumber = s.unitNumber := rfl
@[simp] theorem dropResponse_unit (s : State) : (s.dropResponse).unit = s.unit := rfl
@[simp] theorem dropResponse_unitTime (s : State) : (s.dropResponse).unitTime = s.unitTime := rfl
@[simp] theorem dropResponse_attendance (s : State) : (s.dropResponse).attendance = s.attendance := rfl
@[simp] theorem dropResponse_resetPhase (s : State) : (s.dropResponse).resetPhase = s.resetPhase := rfl
@[simp] theorem dropResponse_line (s : State) (j : LineNo) : (s.dropResponse).line j = s.line j := rfl
@[simp] theorem dropResponse_session (s : State) (j : SessionNo) : (s.dropResponse).session j = s.session j := rfl
@[simp] theorem dropResponse_slot (s : State) (j : SlotNo) : (s.dropResponse).slot j = s.slot j := rfl
@[simp] theorem dropResponse_entry (s : State) (j : EntryNo) : (s.dropResponse).entry j = s.entry j := rfl
@[simp] theorem dropResponse_rateAt (s : State) (j : RateIndex) : (s.dropResponse).rateAt j = s.rateAt j := rfl

end Sys2Proof.Machine
end

