-- ==== Sys2Proof/Laws/Alerts.lean ====
section
/-! SUPPORT. All that the operations of the Alert Unit and the placing of notices can do. -/

namespace Sys2Proof.Machine

/-- A kind just added is in the map. -/
theorem kinds_added (k : BitVec 4) (e : UnitEvent) : (k ||| 1#4 <<< e.bit).getLsbD e.bit = true := by
  cases e <;> simp [UnitEvent.bit]

/-- A kind just added is in the map of a line. -/
theorem lineKinds_added (k : BitVec 9) (e : LineEvent) : (k ||| 1#9 <<< e.bit).getLsbD e.bit = true := by
  cases e <;> simp [LineEvent.bit]

/-- A map with a kind added is not empty. -/
theorem kinds_added_ne_zero (k : BitVec 4) (e : UnitEvent) : (k ||| 1#4 <<< e.bit) ≠ 0 := by
  intro h
  have := kinds_added k e
  rw [h] at this
  simp at this

/-- A line's map with a kind added is not empty. -/
theorem lineKinds_added_ne_zero (k : BitVec 9) (e : LineEvent) : (k ||| 1#9 <<< e.bit) ≠ 0 := by
  intro h
  have := lineKinds_added k e
  rw [h] at this
  simp at this

/-- What the Alert Unit or the response queue was told: the unit summary, the frames placed at the tail of the queue, the
count of responses lost, and the UP transmitter with the member served last, which a frame sent at once changes. -/
structure Told where
  summary : UnitSummary
  placed : List QueuedFrame
  drops : Word32
  upTx : Option UpFrame
  lastMember : Member

/-- The state after something was told: all that `raiseUnit`, `raiseLine` and `placeNotice` change beside the summary of a
line. -/
def State.told (s : State) (d : Told) : State :=
  { s with
    unitSummary := d.summary
    responses := s.responses ++ d.placed
    counters := { s.counters with responseDrops := d.drops }
    upTx := d.upTx
    lastMember := d.lastMember }

/-- Nothing told. -/
def State.untold (s : State) : Told :=
  { summary := s.unitSummary, placed := [], drops := s.counters.responseDrops, upTx := s.upTx,
    lastMember := s.lastMember }

/-- One frame at most was placed, where there was room, and the transmitter was left alone unless it was free. -/
def Told.within (d : Told) (s : State) : Prop :=
  (d.placed = [] ∨ s.responseRoom = true ∧ d.placed.length = 1)
    ∧ (d.upTx = s.upTx ∧ d.lastMember = s.lastMember ∨ s.upFree = true)

@[simp] theorem told_pending (s : State) (d : Told) : (s.told d).pending = s.pending := rfl
@[simp] theorem told_lines (s : State) (d : Told) : (s.told d).lines = s.lines := rfl
@[simp] theorem told_rates (s : State) (d : Told) : (s.told d).rates = s.rates := rfl
@[simp] theorem told_probeQueue (s : State) (d : Told) : (s.told d).probeQueue = s.probeQueue := rfl
@[simp] theorem told_begun (s : State) (d : Told) : (s.told d).begun = s.begun := rfl
@[simp] theorem told_engine (s : State) (d : Told) : (s.told d).engine = s.engine := rfl
@[simp] theorem told_entries (s : State) (d : Told) : (s.told d).entries = s.entries := rfl
@[simp] theorem told_slots (s : State) (d : Told) : (s.told d).slots = s.slots := rfl
@[simp] theorem told_sessions (s : State) (d : Told) : (s.told d).sessions = s.sessions := rfl
@[simp] theorem told_upLink (s : State) (d : Told) : (s.told d).upLink = s.upLink := rfl
@[simp] theorem told_downLink (s : State) (d : Told) : (s.told d).downLink = s.downLink := rfl
@[simp] theorem told_downTx (s : State) (d : Told) : (s.told d).downTx = s.downTx := rfl
@[simp] theorem told_upQueue (s : State) (d : Told) : (s.told d).upQueue = s.upQueue := rfl
@[simp] theorem told_downQueue (s : State) (d : Told) : (s.told d).downQueue = s.downQueue := rfl
@[simp] theorem told_requests (s : State) (d : Told) : (s.told d).requests = s.requests := rfl
@[simp] theorem told_heldPlaces (s : State) (d : Told) : (s.told d).heldPlaces = s.heldPlaces := rfl
@[simp] theorem told_waitingTests (s : State) (d : Told) : (s.told d).waitingTests = s.waitingTests := rfl
@[simp] theorem told_lastSession (s : State) (d : Told) : (s.told d).lastSession = s.lastSession := rfl
@[simp] theorem told_unitNumber (s : State) (d : Told) : (s.told d).unitNumber = s.unitNumber := rfl
@[simp] theorem told_unit (s : State) (d : Told) : (s.told d).unit = s.unit := rfl
@[simp] theorem told_unitTime (s : State) (d : Told) : (s.told d).unitTime = s.unitTime := rfl
@[simp] theorem told_attendance (s : State) (d : Told) : (s.told d).attendance = s.attendance := rfl
@[simp] theorem told_resetPhase (s : State) (d : Told) : (s.told d).resetPhase = s.resetPhase := rfl
@[simp] theorem told_line (s : State) (d : Told) (j : LineNo) : (s.told d).line j = s.line j := rfl
@[simp] theorem told_session (s : State) (d : Told) (j : SessionNo) : (s.told d).session j = s.session j := rfl
@[simp] theorem told_slot (s : State) (d : Told) (j : SlotNo) : (s.told d).slot j = s.slot j := rfl
@[simp] theorem told_entry (s : State) (d : Told) (j : EntryNo) : (s.told d).entry j = s.entry j := rfl
@[simp] theorem told_rateAt (s : State) (d : Told) (j : RateIndex) : (s.told d).rateAt j = s.rateAt j := rfl
@[simp] theorem told_unitSummary (s : State) (d : Told) : (s.told d).unitSummary = d.summary := rfl
@[simp] theorem told_upTx (s : State) (d : Told) : (s.told d).upTx = d.upTx := rfl
@[simp] theorem told_lastMember (s : State) (d : Told) : (s.told d).lastMember = d.lastMember := rfl
@[simp] theorem told_responses (s : State) (d : Told) : (s.told d).responses = s.responses ++ d.placed := rfl
@[simp] theorem told_counters (s : State) (d : Told) :
    (s.told d).counters = { s.counters with responseDrops := d.drops } := rfl
@[simp] theorem told_setLine (s : State) (d : Told) (l : LineNo) (v : Line) :
    (s.told d).setLine l v = (s.setLine l v).told d := rfl
@[simp] theorem told_setSlot (s : State) (d : Told) (k : SlotNo) (v : Slot) :
    (s.told d).setSlot k v = (s.setSlot k v).told d := rfl
@[simp] theorem told_setSession (s : State) (d : Told) (i : SessionNo) (v : Session) :
    (s.told d).setSession i v = (s.setSession i v).told d := rfl
@[simp] theorem told_told (s : State) (d d' : Told) :
    (s.told d).told d' = s.told { d' with placed := d.placed ++ d'.placed } := by
  simp [State.told]

/-- Nothing told. -/
theorem told_nothing (s : State) : s.told s.untold = s := by simp [State.told, State.untold]

/-- Nothing new told. -/
theorem told_same {s : State} {d : Told} (h : s.untold = d) : s.told d = s := by
  subst h
  exact told_nothing s

/-- A frame is pushed beside a new unit summary. -/
theorem pushResponse_told (s : State) (u : UnitSummary) (f : OutFrame) (hr : s.responseRoom = true) :
    ∃ d : Told, State.pushResponse { s with unitSummary := u } f = s.told d ∧ d.summary = u ∧ d.within s := by
  rcases pushResponse_effect { s with unitSummary := u } f with ⟨hf, -, e⟩ | ⟨-, e⟩
  · exact ⟨{ s.untold with summary := u, upTx := some (.response f false), lastMember := .responses },
      by rw [e]; simp [State.told, State.untold], rfl, .inl rfl, .inr hf⟩
  · exact ⟨{ s.untold with summary := u, placed := [{ frame := f, resets := false }] },
      by rw [e]; simp [State.told, State.untold], rfl, .inr ⟨hr, rfl⟩, .inl ⟨rfl, rfl⟩⟩

/-- Nothing was placed and nothing sent. -/
theorem within_quiet (s : State) (u : UnitSummary) (c : Word32) :
    ({ s.untold with summary := u, drops := c } : Told).within s := ⟨.inl rfl, .inl ⟨rfl, rfl⟩⟩

/-- `raiseUnit` changes the unit summary, the response queue or the transmitter, and the count of responses lost; the event
is in the summary, which keeps what it had, and a summary that was not empty keeps its outcome and sends nothing. -/
theorem raiseUnit_effect (e : UnitEvent) (s : State) :
    ∃ d : Told,
      raiseUnit e s = s.told d
      ∧ d.summary.has e = true ∧ d.summary.kinds ≠ 0
      ∧ (∀ e', s.unitSummary.has e' = true → d.summary.has e' = true)
      ∧ (s.unitSummary.kinds ≠ 0 →
          d.summary.outcome = s.unitSummary.outcome ∧ d = { s.untold with summary := d.summary })
      ∧ d.within s := by
  unfold raiseUnit
  split
  · next h =>
    exact ⟨{ s.untold with summary := { s.unitSummary with kinds := s.unitSummary.kinds ||| 1#4 <<< e.bit } },
      by simp [State.told, State.untold], kinds_added _ _, kinds_added_ne_zero _ _,
      fun e' h => by simp [UnitSummary.has] at h ⊢; simp [h], fun _ => ⟨rfl, rfl⟩, within_quiet _ _ _⟩
  · split
    · exact ⟨{ s.untold with summary := { kinds := s.unitSummary.kinds ||| 1#4 <<< e.bit, outcome := .none } },
        by simp [State.told, State.untold], kinds_added _ _, kinds_added_ne_zero _ _,
        fun e' h => by simp [UnitSummary.has] at h ⊢; simp [h], fun h => absurd h ‹_›, within_quiet _ _ _⟩
    · split
      · next hr =>
        obtain ⟨d, e1, hs, hw⟩ := pushResponse_told s
          { kinds := s.unitSummary.kinds ||| 1#4 <<< e.bit, outcome := .sent } (s.alertFrame unitScope e.bit 0) hr
        exact ⟨d, e1, by rw [hs]; exact kinds_added _ _, by rw [hs]; exact kinds_added_ne_zero _ _,
          fun e' h => by rw [hs]; simp [UnitSummary.has] at h ⊢; simp [h], fun h => absurd h ‹_›, hw⟩
      · refine ⟨{ s.untold with
            summary := { kinds := s.unitSummary.kinds ||| 1#4 <<< e.bit ||| 1#4 <<< UnitEvent.chainLoss.bit, outcome := .lost }
            drops := s.counters.responseDrops + 1 },
          by simp [State.told, State.untold, State.dropResponse], ?_, kinds_added_ne_zero _ _,
          fun e' h => by simp [UnitSummary.has] at h ⊢; simp [h], fun h => absurd h ‹_›, within_quiet _ _ _⟩
        rw [UnitSummary.has, BitVec.getLsbD_or, kinds_added, Bool.true_or]

/-- `raiseUnit` on a summary that is not empty only adds its kind. -/
theorem raiseUnit_joins (e : UnitEvent) (s : State) (h : s.unitSummary.kinds ≠ 0) :
    raiseUnit e s =
      { s with unitSummary := { s.unitSummary with kinds := s.unitSummary.kinds ||| (1#4 <<< e.bit) } } := by
  simp only [raiseUnit, if_pos h]

/-- `raiseUnit` after a frame was lost. -/
theorem raiseUnit_lost (e : UnitEvent) (s : State) :
    ∃ d : Told,
      raiseUnit e s.dropResponse = s.told d
      ∧ d.summary.has e = true ∧ d.summary.kinds ≠ 0
      ∧ (∀ e', s.unitSummary.has e' = true → d.summary.has e' = true)
      ∧ (s.unitSummary.kinds ≠ 0 → d.summary.outcome = s.unitSummary.outcome)
      ∧ d.within s := by
  obtain ⟨d, eq, hu, hz, keep, same, hw⟩ := raiseUnit_effect e s.dropResponse
  exact ⟨d, by rw [eq]; simp [State.dropResponse, State.told], hu, hz, keep, fun h => (same h).1, hw⟩

/-- `raiseLine` changes the line's summary and what the Alert Unit can be told; the event with its indices and reasons is in
the line's summary, which keeps what it had; a summary that was not empty keeps its outcome, and nothing else changes. -/
theorem raiseLine_effect (l : LineNo) (e : LineEvent) (w : BitVec 64) (rs : BitVec 3) (arg : Nat) (s : State) :
    ∃ (o : AlertOutcome) (d : Told),
      raiseLine l e w rs arg s =
        (s.setLine l
          { s.line l with
            summary :=
              { kinds := (s.line l).summary.kinds ||| (1#9 <<< e.bit)
                watches := (s.line l).summary.watches ||| w
                reasons := (s.line l).summary.reasons ||| rs, outcome := o } }).told d
      ∧ ((s.line l).summary.kinds ≠ 0 → o = (s.line l).summary.outcome ∧ d = s.untold)
      ∧ (∀ e', s.unitSummary.has e' = true → d.summary.has e' = true)
      ∧ (s.unitSummary.kinds ≠ 0 → d.summary.kinds ≠ 0 ∧ d.summary.outcome = s.unitSummary.outcome)
      ∧ (d.summary.kinds = 0 → d.summary = s.unitSummary)
      ∧ d.within s := by
  unfold raiseLine
  simp only
  split
  · exact ⟨(s.line l).summary.outcome, s.untold, (told_same rfl).symm, fun _ => ⟨rfl, rfl⟩, fun _ h => h,
      fun h => ⟨h, rfl⟩, fun _ => rfl, within_quiet s _ _⟩
  · split
    · exact ⟨.none, s.untold, (told_same rfl).symm, fun h => absurd h ‹_›, fun _ h => h, fun h => ⟨h, rfl⟩, fun _ => rfl,
        within_quiet s _ _⟩
    · split
      · next hr =>
        obtain ⟨d, e1, hs, hw⟩ := pushResponse_told
          (s.modLine l fun x =>
            { x with
              summary :=
                { kinds := (s.line l).summary.kinds ||| (1#9 <<< e.bit)
                  watches := (s.line l).summary.watches ||| w
                  reasons := (s.line l).summary.reasons ||| rs, outcome := .sent } })
          s.unitSummary (s.alertFrame l.val e.bit arg) hr
        exact ⟨.sent, d, e1, fun h => absurd h ‹_›, fun e' h => by rw [hs]; exact h, fun h => by rw [hs]; exact ⟨h, rfl⟩,
          fun _ => hs, hw⟩
      · obtain ⟨d, eq, hu, hz, keep, same, hw⟩ := raiseUnit_lost .chainLoss
          (s.modLine l fun x =>
            { x with
              summary :=
                { kinds := (s.line l).summary.kinds ||| (1#9 <<< e.bit)
                  watches := (s.line l).summary.watches ||| w
                  reasons := (s.line l).summary.reasons ||| rs, outcome := .lost } })
        exact ⟨.lost, d, eq, fun h => absurd h ‹_›, keep, fun h => ⟨hz, same h⟩, fun h => absurd h hz, hw⟩

/-- `raiseLine`, with no more said of the summary than what it holds. -/
theorem raiseLine_summary (l : LineNo) (e : LineEvent) (w : BitVec 64) (rs : BitVec 3) (arg : Nat) (s : State) :
    ∃ (m : LineSummary) (d : Told),
      raiseLine l e w rs arg s = (s.setLine l { s.line l with summary := m }).told d
      ∧ m.has e = true ∧ (∀ e', (s.line l).summary.has e' = true → m.has e' = true)
      ∧ (∀ i, m.watches.getLsbD i = ((s.line l).summary.watches.getLsbD i || w.getLsbD i))
      ∧ (∀ i, m.reasons.getLsbD i = ((s.line l).summary.reasons.getLsbD i || rs.getLsbD i))
      ∧ ((s.line l).summary.kinds ≠ 0 → m.outcome = (s.line l).summary.outcome)
      ∧ (∀ e', s.unitSummary.has e' = true → d.summary.has e' = true)
      ∧ (s.unitSummary.kinds ≠ 0 → d.summary.kinds ≠ 0 ∧ d.summary.outcome = s.unitSummary.outcome) := by
  obtain ⟨o, d, e', h1, h2, h3, -⟩ := raiseLine_effect l e w rs arg s
  exact ⟨_, d, e', lineKinds_added _ e, fun k hk => by simp [LineSummary.has] at hk ⊢; simp [hk],
    fun i => BitVec.getLsbD_or, fun i => BitVec.getLsbD_or, fun h => (h1 h).1, h2, h3⟩

/-- `placeNotice` places the notice or sends it, or counts it lost and changes the unit summary. -/
theorem placeNotice_effect (f : OutFrame) (s : State) :
    ∃ d : Told,
      placeNotice f s = s.told d
      ∧ (∀ e', s.unitSummary.has e' = true → d.summary.has e' = true)
      ∧ (s.unitSummary.kinds ≠ 0 → d.summary.kinds ≠ 0 ∧ d.summary.outcome = s.unitSummary.outcome)
      ∧ (d.summary.kinds = 0 → d.summary = s.unitSummary)
      ∧ d.within s := by
  unfold placeNotice
  split
  · next hr =>
    obtain ⟨d, e1, hs, hw⟩ := pushResponse_told s s.unitSummary f hr
    exact ⟨d, e1, fun e' h => by rw [hs]; exact h, fun h => by rw [hs]; exact ⟨h, rfl⟩, fun _ => hs, hw⟩
  · obtain ⟨d, eq, hu, hz, keep, same, hw⟩ := raiseUnit_lost .chainLoss s
    exact ⟨d, eq, keep, fun h => ⟨hz, same h⟩, fun h => absurd h hz, hw⟩

/-- A notice that may be owed or not. -/
theorem noticeLost_effect (l : LineNo) (i : SessionNo) (reason : Option LostReason) (s : State) :
    ∃ d : Told,
      noticeLost l i reason s = s.told d
      ∧ (∀ e', s.unitSummary.has e' = true → d.summary.has e' = true)
      ∧ (s.unitSummary.kinds ≠ 0 → d.summary.kinds ≠ 0 ∧ d.summary.outcome = s.unitSummary.outcome)
      ∧ (d.summary.kinds = 0 → d.summary = s.unitSummary)
      ∧ d.within s := by
  cases reason with
  | none =>
    exact ⟨s.untold, (told_nothing s).symm, fun _ h => h, fun h => ⟨h, rfl⟩, fun _ => rfl, within_quiet s _ _⟩
  | some r => exact placeNotice_effect _ s

end Sys2Proof.Machine
end

