-- ==== Sys2Proof/Laws/Capture.lean ====
section
/-! SUPPORT. All that the operations of the Capture Store, the Delivery Unit and the Snapshot Store can do. -/

namespace Sys2Proof.Machine

/-! ### Capture Store -/

/-- A mark list to which nothing joins stays as it is. -/
theorem marksAfter_nil {ms : List Mark} (h : ms.length ≤ 32) : marksAfter ms [] = ms := by
  simp [marksAfter, Nat.sub_eq_zero_of_le h]

/-- A mark list never holds more than 32. -/
theorem marksAfter_length (ms new : List Mark) : (marksAfter ms new).length ≤ 32 := by
  simp [marksAfter]
  omega

/-- Marks that join in two goes join as in one. -/
theorem marksAfter_append (ms a b : List Mark) : marksAfter (marksAfter ms a) b = marksAfter ms (a ++ b) := by
  simp only [marksAfter]
  rw [← List.append_assoc, ← List.drop_append_of_le_length (by simp), List.drop_drop]
  simp only [List.length_drop, List.length_append]
  congr 1
  omega

/-- `appendMark` changes the mark list and the mark-loss counter of its line, and the new mark stands last. -/
theorem appendMark_effect (l : LineNo) (kind : MarkKind) (arg : Nat) (s : State) :
    ∃ (before : List Mark) (loss : Word32),
      appendMark l kind arg s =
        s.setLine l
          { s.line l with
            marks := before ++ [{ offset := (s.line l).ring.newest, stamp := s.unitTime, kind := kind, arg := arg }]
            markLoss := loss }
      ∧ (before = (s.line l).marks ∧ loss = (s.line l).markLoss ∧ (s.line l).marks.length < 32
        ∨ before = (s.line l).marks.tail ∧ loss = (s.line l).markLoss + 1 ∧ 32 ≤ (s.line l).marks.length) := by
  simp only [appendMark, modLine_eq]
  by_cases h : Config.markCapacity ≤ (s.line l).marks.length
  · exact ⟨_, _, by rw [if_pos h], .inr ⟨rfl, rfl, h⟩⟩
  · exact ⟨_, (s.line l).markLoss, by rw [if_neg h], .inl ⟨rfl, rfl, by simp [Config.markCapacity] at h; omega⟩⟩

/-- A cursor passed by stays in the ring's offsets when it was, and nothing but cursor, gap and lost total moves. -/
theorem passedBy_effect (r : Session) (l : LineNo) (oldest : Nat) :
    ∃ cursor gap lost, r.passedBy l oldest = { r with cursor := cursor, gap := gap, lost := lost }
      ∧ r.cursor ≤ cursor ∧ (cursor = r.cursor ∨ cursor = oldest)
      ∧ (r.isOpen = true → r.line = l → oldest ≤ cursor) ∧ (r.isOpen = false → r.passedBy l oldest = r)
      ∧ (gap = r.gap ∨ gap < 2 ^ 32) ∧ (lost = r.lost ∨ lost < 2 ^ 32) := by
  unfold Session.passedBy
  split
  · next h =>
    refine ⟨oldest, _, _, rfl, by omega, .inr rfl, by simp, by simp [h.1], .inr ?_, .inr ?_⟩ <;> simp [saturate32]
  · next h =>
    refine ⟨r.cursor, r.gap, r.lost, rfl, by omega, .inl rfl, ?_, by simp, .inl rfl, .inl rfl⟩
    intro ho hl
    by_contra hc
    exact h ⟨ho, hl, by omega⟩

/-- `ringAppend` changes the ring and mark list of its line, and the cursors that an overwrite passes. -/
theorem ringAppend_effect (l : LineNo) (b : Byte) (s : State) :
    let u := s.line l
    let ring := u.ring.append u.record.ringBytes b
    let t := s.setLine l { u with ring := ring, marks := u.marks.filter fun m => decide (ring.oldest ≤ m.offset) }
    (u.ring.held < u.record.ringBytes ∧ ringAppend l b s = t)
      ∨ (u.record.ringBytes ≤ u.ring.held ∧ ringAppend l b s = t.mapSessions fun _ r => r.passedBy l ring.oldest) := by
  simp only [ringAppend, reportOldest]
  split
  · next h => exact .inl ⟨h, rfl⟩
  · next h => exact .inr ⟨by omega, rfl⟩

/-! ### Delivery Unit -/

/-- A DATA frame granted at once changes the transmitter, what was served last and, of the session served, the cursor, the
credit and the gap. -/
theorem grantData_effect (s : State) :
    ∃ tx m i ss,
      grantData s = { s with upTx := tx, lastMember := m, lastSession := i, sessions := ss }
      ∧ ∀ j : SessionNo, ∃ cursor credit gap,
          ss[j.val] = { s.session j with cursor := cursor, credit := credit, gap := gap } := by
  have same : ∀ j : SessionNo, ∃ cursor credit gap,
      s.sessions[j.val] = { s.session j with cursor := cursor, credit := credit, gap := gap } :=
    fun j => ⟨_, _, _, rfl⟩
  unfold grantData
  split
  · simp only [grantMember]
    split
    · exact ⟨s.upTx, s.lastMember, s.lastSession, s.sessions, rfl, same⟩
    · next i _ =>
      refine ⟨_, _, _, _, rfl, fun j => ?_⟩
      by_cases h : j = i
      · subst h; exact ⟨_, _, _, by simp [State.session]; exact ⟨rfl, rfl, rfl⟩⟩
      · have : i.val ≠ j.val := fun e => h (Fin.ext e.symm)
        exact ⟨_, _, _, by simp [State.session, Vector.getElem_set_ne, this]; rfl⟩
  · exact ⟨s.upTx, s.lastMember, s.lastSession, s.sessions, rfl, same⟩

/-- Beside a transmitter that is not free nothing is granted. -/
theorem grantData_busy {s : State} (h : s.upFree = false) : grantData s = s := by simp [grantData, h]

/-- Where no session is ready nothing is granted. -/
theorem grantData_none {s : State} (h : s.nextReady? = none) : grantData s = s := by
  simp [grantData, grantMember, h]

@[simp] theorem grantData_pending (s : State) : (grantData s).pending = s.pending := by
  obtain ⟨_, _, _, _, h, -⟩ := grantData_effect s; rw [h]
@[simp] theorem grantData_lines (s : State) : (grantData s).lines = s.lines := by
  obtain ⟨_, _, _, _, h, -⟩ := grantData_effect s; rw [h]
@[simp] theorem grantData_rates (s : State) : (grantData s).rates = s.rates := by
  obtain ⟨_, _, _, _, h, -⟩ := grantData_effect s; rw [h]
@[simp] theorem grantData_probeQueue (s : State) : (grantData s).probeQueue = s.probeQueue := by
  obtain ⟨_, _, _, _, h, -⟩ := grantData_effect s; rw [h]
@[simp] theorem grantData_begun (s : State) : (grantData s).begun = s.begun := by
  obtain ⟨_, _, _, _, h, -⟩ := grantData_effect s; rw [h]
@[simp] theorem grantData_engine (s : State) : (grantData s).engine = s.engine := by
  obtain ⟨_, _, _, _, h, -⟩ := grantData_effect s; rw [h]
@[simp] theorem grantData_entries (s : State) : (grantData s).entries = s.entries := by
  obtain ⟨_, _, _, _, h, -⟩ := grantData_effect s; rw [h]
@[simp] theorem grantData_slots (s : State) : (grantData s).slots = s.slots := by
  obtain ⟨_, _, _, _, h, -⟩ := grantData_effect s; rw [h]
@[simp] theorem grantData_unitSummary (s : State) : (grantData s).unitSummary = s.unitSummary := by
  obtain ⟨_, _, _, _, h, -⟩ := grantData_effect s; rw [h]
@[simp] theorem grantData_upLink (s : State) : (grantData s).upLink = s.upLink := by
  obtain ⟨_, _, _, _, h, -⟩ := grantData_effect s; rw [h]
@[simp] theorem grantData_downLink (s : State) : (grantData s).downLink = s.downLink := by
  obtain ⟨_, _, _, _, h, -⟩ := grantData_effect s; rw [h]
@[simp] theorem grantData_downTx (s : State) : (grantData s).downTx = s.downTx := by
  obtain ⟨_, _, _, _, h, -⟩ := grantData_effect s; rw [h]
@[simp] theorem grantData_upQueue (s : State) : (grantData s).upQueue = s.upQueue := by
  obtain ⟨_, _, _, _, h, -⟩ := grantData_effect s; rw [h]
@[simp] theorem grantData_downQueue (s : State) : (grantData s).downQueue = s.downQueue := by
  obtain ⟨_, _, _, _, h, -⟩ := grantData_effect s; rw [h]
@[simp] theorem grantData_requests (s : State) : (grantData s).requests = s.requests := by
  obtain ⟨_, _, _, _, h, -⟩ := grantData_effect s; rw [h]
@[simp] theorem grantData_responses (s : State) : (grantData s).responses = s.responses := by
  obtain ⟨_, _, _, _, h, -⟩ := grantData_effect s; rw [h]
@[simp] theorem grantData_heldPlaces (s : State) : (grantData s).heldPlaces = s.heldPlaces := by
  obtain ⟨_, _, _, _, h, -⟩ := grantData_effect s; rw [h]
@[simp] theorem grantData_waitingTests (s : State) : (grantData s).waitingTests = s.waitingTests := by
  obtain ⟨_, _, _, _, h, -⟩ := grantData_effect s; rw [h]
@[simp] theorem grantData_unitNumber (s : State) : (grantData s).unitNumber = s.unitNumber := by
  obtain ⟨_, _, _, _, h, -⟩ := grantData_effect s; rw [h]
@[simp] theorem grantData_unit (s : State) : (grantData s).unit = s.unit := by
  obtain ⟨_, _, _, _, h, -⟩ := grantData_effect s; rw [h]
@[simp] theorem grantData_counters (s : State) : (grantData s).counters = s.counters := by
  obtain ⟨_, _, _, _, h, -⟩ := grantData_effect s; rw [h]
@[simp] theorem grantData_unitTime (s : State) : (grantData s).unitTime = s.unitTime := by
  obtain ⟨_, _, _, _, h, -⟩ := grantData_effect s; rw [h]
@[simp] theorem grantData_attendance (s : State) : (grantData s).attendance = s.attendance := by
  obtain ⟨_, _, _, _, h, -⟩ := grantData_effect s; rw [h]
@[simp] theorem grantData_resetPhase (s : State) : (grantData s).resetPhase = s.resetPhase := by
  obtain ⟨_, _, _, _, h, -⟩ := grantData_effect s; rw [h]
@[simp] theorem grantData_line (s : State) (j : LineNo) : (grantData s).line j = s.line j := by
  obtain ⟨_, _, _, _, h, -⟩ := grantData_effect s; rw [h]; rfl
@[simp] theorem grantData_slot (s : State) (j : SlotNo) : (grantData s).slot j = s.slot j := by
  obtain ⟨_, _, _, _, h, -⟩ := grantData_effect s; rw [h]; rfl
@[simp] theorem grantData_entry (s : State) (j : EntryNo) : (grantData s).entry j = s.entry j := by
  obtain ⟨_, _, _, _, h, -⟩ := grantData_effect s; rw [h]; rfl
@[simp] theorem grantData_rateAt (s : State) (j : RateIndex) : (grantData s).rateAt j = s.rateAt j := by
  obtain ⟨_, _, _, _, h, -⟩ := grantData_effect s; rw [h]; rfl

/-! ### Snapshot Store -/

/-- The slot found FILLING for a line is one, and none is where none was found. -/
theorem fillingSlot?_eq_some {s : State} {l : LineNo} {k : SlotNo} (h : s.fillingSlot? l = some k) :
    (s.slot k).state = .filling ∧ (s.slot k).line = l := by
  have := List.find?_some h
  simpa [Slot.fillsFor] using this

/-- No slot is FILLING for a line of which none was found. -/
theorem fillingSlot?_eq_none {s : State} {l : LineNo} (h : s.fillingSlot? l = none) (k : SlotNo)
    (hf : (s.slot k).state = .filling) : (s.slot k).line ≠ l := by
  have := List.find?_eq_none.mp h k (List.mem_finRange k)
  simpa [Slot.fillsFor, hf] using this

/-- `completeSlot` settles one slot and raises SNAPSHOT_DONE on its line. -/
theorem completeSlot_effect (k : SlotNo) (truncated : Bool) (s : State) :
    ∃ (m : LineSummary) (d : Told),
      completeSlot k truncated s =
        ((s.setSlot k { s.slot k with state := .complete, truncated := truncated, fillLeft := none }).setLine
          (s.slot k).line { s.line (s.slot k).line with summary := m }).told d := by
  obtain ⟨o, d, h, -⟩ := raiseLine_effect (s.slot k).line .snapshotDone 0 0 0
    (s.setSlot k { s.slot k with state := .complete, truncated := truncated, fillLeft := none })
  exact ⟨_, d, by simpa [completeSlot, raisePlain] using h⟩

/-- `truncateFor` does nothing, or completes the slot FILLING for the line; of the line the summary alone changes. -/
theorem truncateFor_effect (l : LineNo) (s : State) :
    ∃ (m : LineSummary) (d : Told) (t : State),
      truncateFor l s = (t.setLine l { s.line l with summary := m }).told d
      ∧ ((s.fillingSlot? l = none ∧ truncateFor l s = s ∧ t = s)
        ∨ ∃ k, s.fillingSlot? l = some k
          ∧ t = s.setSlot k { s.slot k with state := .complete, truncated := true, fillLeft := none }) := by
  unfold truncateFor
  split
  · next h =>
    exact ⟨(s.line l).summary, s.untold, s, by simp [told_nothing],
      .inl ⟨h, rfl, rfl⟩⟩
  · next k h =>
    obtain ⟨m, d, e⟩ := completeSlot_effect k true s
    have hl := (fillingSlot?_eq_some h).2
    rw [hl] at e
    exact ⟨m, d, _, e, .inr ⟨k, h, rfl⟩⟩

/-- `takeSlot` writes one slot, and of the trigger's line the marks and the summary. -/
theorem takeSlot_effect (k : SlotNo) (g : Trigger) (s : State) :
    ∃ (r : Slot) (ms : List Mark) (loss : Word32) (m : LineSummary) (d : Told),
      takeSlot k g s =
        ((s.setSlot k r).setLine g.line
          { s.line g.line with marks := ms, markLoss := loss, summary := m }).told d
      ∧ r.line = g.line := by
  unfold takeSlot
  simp only
  generalize hr : s.triggeredSlot g = r
  have hl : r.line = g.line := by rw [← hr, State.triggeredSlot]
  obtain ⟨before, loss, e, -⟩ := appendMark_effect g.line .snapshot k.val (s.setSlot k r)
  simp only [setSlot_line] at e
  generalize before ++ [_] = ms at e
  rw [e]
  split
  · obtain ⟨m, d, e'⟩ := completeSlot_effect k false
      ((s.setSlot k r).setLine g.line { s.line g.line with marks := ms, markLoss := loss })
    simp only [setLine_slot, setSlot_slot_same, hl, setLine_line_same, setLine_setSlot, setSlot_setSlot,
      setLine_setLine] at e'
    exact ⟨_, ms, loss, m, d, e', rfl⟩
  · exact ⟨r, ms, loss, (s.line g.line).summary, s.untold, (told_same rfl).symm, hl⟩

/-- `fireTrigger` changes at most one slot, and of the trigger's line at most the marks and the summary. -/
theorem fireTrigger_effect (g : Trigger) (s : State) :
    ∃ (t : State) (ms : List Mark) (loss : Word32) (m : LineSummary) (d : Told),
      fireTrigger g s =
        (t.setLine g.line { s.line g.line with marks := ms, markLoss := loss, summary := m }).told d
      ∧ (t = s ∨ ∃ k r, t = s.setSlot k r) := by
  unfold fireTrigger
  split
  · next k h =>
    exact ⟨s.setSlot k { s.slot k with retriggers := saturate16 ((s.slot k).retriggers + 1 + g.others) },
      (s.line g.line).marks, (s.line g.line).markLoss, (s.line g.line).summary, s.untold, ((told_same rfl).trans (setLine_self (s.setSlot k _) g.line)).symm,
      .inr ⟨k, _, rfl⟩⟩
  · next k h =>
    obtain ⟨r, ms, loss, m, d, e, -⟩ := takeSlot_effect k g s
    exact ⟨_, ms, loss, m, d, e, .inr ⟨k, r, rfl⟩⟩
  · obtain ⟨d, e, -⟩ := raiseUnit_effect .snapshotMissed s
    exact ⟨s, (s.line g.line).marks, (s.line g.line).markLoss, (s.line g.line).summary, d, by simp [e], .inl rfl⟩

/-- `optionTrigger` does what a trigger can, or nothing. -/
theorem optionTrigger_effect (l : LineNo) (cause : Cause) (o : Option SnapshotLengths) (s : State) :
    ∃ (t : State) (ms : List Mark) (loss : Word32) (m : LineSummary) (d : Told),
      optionTrigger l cause o s =
        (t.setLine l { s.line l with marks := ms, markLoss := loss, summary := m }).told d
      ∧ (t = s ∨ ∃ k r, t = s.setSlot k r) := by
  cases o with
  | none =>
    exact ⟨s, (s.line l).marks, (s.line l).markLoss, (s.line l).summary, s.untold,
      by simp [optionTrigger, told_nothing], .inl rfl⟩
  | some p => exact fireTrigger_effect _ s

/-- A trigger after its line was changed and the Alert Unit told. -/
theorem optionTrigger_on (l : LineNo) (cause : Cause) (o : Option SnapshotLengths) (s : State) (v : Line)
    (d : Told) :
    ∃ (t : State) (ms : List Mark) (loss : Word32) (m : LineSummary) (d' : Told),
      optionTrigger l cause o ((s.setLine l v).told d) =
        (t.setLine l { v with marks := ms, markLoss := loss, summary := m }).told d'
      ∧ (t = s ∨ ∃ k r, t = s.setSlot k r) := by
  obtain ⟨t, ms, loss, m, d', e, ht⟩ := optionTrigger_effect l cause o ((s.setLine l v).told d)
  rw [told_line, setLine_line_same] at e
  rcases ht with rfl | ⟨k, x, rfl⟩
  · exact ⟨s, ms, loss, m, { d' with placed := d.placed ++ d'.placed }, by rw [e, told_setLine, setLine_setLine, told_told], .inl rfl⟩
  · exact ⟨s.setSlot k x, ms, loss, m, { d' with placed := d.placed ++ d'.placed },
      by rw [e, told_setSlot, setLine_setSlot, told_setLine, setLine_setLine, told_told], .inr ⟨k, x, rfl⟩⟩

end Sys2Proof.Machine
end

