-- ==== Sys2Proof/Laws/Chain.lean ====
section
/-! SUPPORT. All that the UP Transmit Arbiter can do, and what the Message Engine makes of a request. -/

namespace Sys2Proof.Machine

/-! ### The UP Transmit Arbiter -/

/-- Waiting LINE TEST responses move to the tail of the response queue and nothing else does. -/
theorem placeWaiting_effect (s : State) :
    ∃ n, placeWaiting s =
      { s with
        responses := s.responses ++ (s.waitingTests.take n).map fun f => { frame := f, resets := false }
        waitingTests := s.waitingTests.drop n }
      ∧ n = Config.responseCapacity - (s.responses.length + s.heldPlaces) := ⟨_, rfl, rfl⟩

/-- No response waits: nothing to place. -/
theorem placeWaiting_none {s : State} (h : s.waitingTests = []) : placeWaiting s = s := by
  simp [placeWaiting, h]
  rw [← h]

/-- `upGrant` moves frames from the three members to the transmitter, and nothing else changes: of a session, the cursor,
the credit and the gap. -/
theorem upGrant_effect (s : State) :
    ∃ tx r w q m i ss,
      upGrant s =
        { s with
          upTx := tx, responses := r, waitingTests := w, upQueue := q, lastMember := m, lastSession := i, sessions := ss }
      ∧ (∀ j : SessionNo, ∃ cursor credit gap,
          ss[j.val] = { s.session j with cursor := cursor, credit := credit, gap := gap }) := by
  have same : ∀ j : SessionNo, ∃ cursor credit gap,
      s.sessions[j.val] = { s.session j with cursor := cursor, credit := credit, gap := gap } :=
    fun j => ⟨_, _, _, rfl⟩
  unfold upGrant
  split
  · split
    · exact ⟨s.upTx, s.responses, s.waitingTests, s.upQueue, s.lastMember, s.lastSession, s.sessions, rfl, same⟩
    · next m _ =>
      cases m with
      | responses =>
        simp only [grantMember]
        split
        · exact ⟨s.upTx, s.responses, s.waitingTests, s.upQueue, s.lastMember, s.lastSession, s.sessions, rfl, same⟩
        · exact ⟨_, _, _, s.upQueue, _, s.lastSession, s.sessions, rfl, same⟩
      | forward =>
        simp only [grantMember]
        split
        · exact ⟨s.upTx, s.responses, s.waitingTests, s.upQueue, s.lastMember, s.lastSession, s.sessions, rfl, same⟩
        · exact ⟨_, s.responses, s.waitingTests, _, _, s.lastSession, s.sessions, rfl, same⟩
      | data =>
        simp only [grantMember]
        split
        · exact ⟨s.upTx, s.responses, s.waitingTests, s.upQueue, s.lastMember, s.lastSession, s.sessions, rfl, same⟩
        · next i _ =>
          refine ⟨_, s.responses, s.waitingTests, s.upQueue, _, _, _, rfl, fun j => ?_⟩
          by_cases h : j = i
          · subst h; exact ⟨_, _, _, by simp [State.session]; exact ⟨rfl, rfl, rfl⟩⟩
          · have : i.val ≠ j.val := fun e => h (Fin.ext e.symm)
            exact ⟨_, _, _, by simp [State.session, Vector.getElem_set_ne, this]; rfl⟩
  · exact ⟨s.upTx, s.responses, s.waitingTests, s.upQueue, s.lastMember, s.lastSession, s.sessions, rfl, same⟩

@[simp] theorem upGrant_lines (s : State) : (upGrant s).lines = s.lines := by
  obtain ⟨_, _, _, _, _, _, _, h, -⟩ := upGrant_effect s; rw [h]
@[simp] theorem upGrant_line (s : State) (l : LineNo) : (upGrant s).line l = s.line l := by
  simp [State.line]
@[simp] theorem upGrant_slots (s : State) : (upGrant s).slots = s.slots := by
  obtain ⟨_, _, _, _, _, _, _, h, -⟩ := upGrant_effect s; rw [h]
@[simp] theorem upGrant_slot (s : State) (k : SlotNo) : (upGrant s).slot k = s.slot k := by
  simp [State.slot]
@[simp] theorem upGrant_entries (s : State) : (upGrant s).entries = s.entries := by
  obtain ⟨_, _, _, _, _, _, _, h, -⟩ := upGrant_effect s; rw [h]
@[simp] theorem upGrant_rates (s : State) : (upGrant s).rates = s.rates := by
  obtain ⟨_, _, _, _, _, _, _, h, -⟩ := upGrant_effect s; rw [h]
@[simp] theorem upGrant_probeQueue (s : State) : (upGrant s).probeQueue = s.probeQueue := by
  obtain ⟨_, _, _, _, _, _, _, h, -⟩ := upGrant_effect s; rw [h]
@[simp] theorem upGrant_begun (s : State) : (upGrant s).begun = s.begun := by
  obtain ⟨_, _, _, _, _, _, _, h, -⟩ := upGrant_effect s; rw [h]
@[simp] theorem upGrant_engine (s : State) : (upGrant s).engine = s.engine := by
  obtain ⟨_, _, _, _, _, _, _, h, -⟩ := upGrant_effect s; rw [h]
@[simp] theorem upGrant_unit (s : State) : (upGrant s).unit = s.unit := by
  obtain ⟨_, _, _, _, _, _, _, h, -⟩ := upGrant_effect s; rw [h]
@[simp] theorem upGrant_unitNumber (s : State) : (upGrant s).unitNumber = s.unitNumber := by
  obtain ⟨_, _, _, _, _, _, _, h, -⟩ := upGrant_effect s; rw [h]
@[simp] theorem upGrant_unitSummary (s : State) : (upGrant s).unitSummary = s.unitSummary := by
  obtain ⟨_, _, _, _, _, _, _, h, -⟩ := upGrant_effect s; rw [h]
@[simp] theorem upGrant_unitTime (s : State) : (upGrant s).unitTime = s.unitTime := by
  obtain ⟨_, _, _, _, _, _, _, h, -⟩ := upGrant_effect s; rw [h]
@[simp] theorem upGrant_attendance (s : State) : (upGrant s).attendance = s.attendance := by
  obtain ⟨_, _, _, _, _, _, _, h, -⟩ := upGrant_effect s; rw [h]
@[simp] theorem upGrant_counters (s : State) : (upGrant s).counters = s.counters := by
  obtain ⟨_, _, _, _, _, _, _, h, -⟩ := upGrant_effect s; rw [h]
@[simp] theorem upGrant_requests (s : State) : (upGrant s).requests = s.requests := by
  obtain ⟨_, _, _, _, _, _, _, h, -⟩ := upGrant_effect s; rw [h]
@[simp] theorem upGrant_downQueue (s : State) : (upGrant s).downQueue = s.downQueue := by
  obtain ⟨_, _, _, _, _, _, _, h, -⟩ := upGrant_effect s; rw [h]
@[simp] theorem upGrant_downTx (s : State) : (upGrant s).downTx = s.downTx := by
  obtain ⟨_, _, _, _, _, _, _, h, -⟩ := upGrant_effect s; rw [h]
@[simp] theorem upGrant_heldPlaces (s : State) : (upGrant s).heldPlaces = s.heldPlaces := by
  obtain ⟨_, _, _, _, _, _, _, h, -⟩ := upGrant_effect s; rw [h]
@[simp] theorem upGrant_resetPhase (s : State) : (upGrant s).resetPhase = s.resetPhase := by
  obtain ⟨_, _, _, _, _, _, _, h, -⟩ := upGrant_effect s; rw [h]
@[simp] theorem upGrant_upLink (s : State) : (upGrant s).upLink = s.upLink := by
  obtain ⟨_, _, _, _, _, _, _, h, -⟩ := upGrant_effect s; rw [h]
@[simp] theorem upGrant_downLink (s : State) : (upGrant s).downLink = s.downLink := by
  obtain ⟨_, _, _, _, _, _, _, h, -⟩ := upGrant_effect s; rw [h]

/-! ### The Message Engine -/

/-- Taking a request changes the attendance and the session table only; of a session the last-heard time and the keep
timer. -/
theorem greet_effect (rq : Request) (s : State) :
    ∃ a ss, greet rq s = { s with attendance := a, sessions := ss }
      ∧ (s.attendance.state ≠ .unattended → a = s.attendance)
      ∧ ∀ j : SessionNo, ss[j.val] =
          if rq.sessionNo = some j ∧ (s.session j).isOpen = true ∧ (s.session j).origin = rq.origin then
            { s.session j with lastHeard := s.unitTime, keepLeft := s.keepFull }
          else s.session j := by
  obtain ⟨a, ha, hn⟩ : ∃ a, (if s.attendance.state = .unattended then validMessage s else s) = { s with attendance := a }
      ∧ (s.attendance.state ≠ .unattended → a = s.attendance) := by
    split
    · next h =>
      unfold validMessage
      split
      · exact ⟨_, rfl, fun _ => rfl⟩
      · exact ⟨_, rfl, fun h' => absurd h h'⟩
    · exact ⟨_, rfl, fun _ => rfl⟩
  simp only [greet, ha, refreshNamed]
  split
  · next h => exact ⟨a, s.sessions, rfl, hn, fun j => by simp [h, State.session]⟩
  · next i h =>
    split
    · next hi =>
      refine ⟨a, _, rfl, hn, fun j => ?_⟩
      simp [State.namesOwn] at hi
      by_cases hj : j = i
      · subst hj; rw [if_pos ⟨h, hi⟩]; simp [State.session]; rfl
      · have : i.val ≠ j.val := fun e => hj (Fin.ext e.symm)
        rw [if_neg (by rw [h]; rintro ⟨e, -⟩; exact hj (Option.some.inj e).symm)]
        simp [State.session, Vector.getElem_set_ne, this]
    · next hi =>
      refine ⟨a, s.sessions, rfl, hn, fun j => ?_⟩
      rw [if_neg]
      · rfl
      · rintro ⟨e, ho⟩
        rw [h] at e
        cases e
        apply hi
        rw [State.namesOwn, Bool.and_eq_true, decide_eq_true_eq]
        exact ho

/-- The checks of the engine look at the unit record and at each session's state and origin only. -/
theorem engineCheck_congr {s t : State} (k : RequestKind) (rq : Request) (hu : t.unit = s.unit)
    (hs : ∀ i, (t.session i).isOpen = (s.session i).isOpen ∧ (t.session i).origin = (s.session i).origin) :
    t.engineCheck k rq = s.engineCheck k rq := by
  unfold State.engineCheck State.sessionCheck State.supervises
  rw [hu]
  cases rq.sessionNo with
  | none => rfl
  | some i => simp only [(hs i).1, (hs i).2]

/-- Of a session, taking a request changes the last-heard time and the keep timer. -/
theorem greet_session (rq : Request) (s : State) (j : SessionNo) :
    ∃ heard left, (greet rq s).session j = { s.session j with lastHeard := heard, keepLeft := left } := by
  obtain ⟨a, ss, h, -, hs⟩ := greet_effect rq s
  have hj := hs j
  by_cases hc : rq.sessionNo = some j ∧ (s.session j).isOpen = true ∧ (s.session j).origin = rq.origin
  · rw [if_pos hc] at hj
    exact ⟨s.unitTime, s.keepFull, by rw [h]; exact hj⟩
  · rw [if_neg hc] at hj
    exact ⟨(s.session j).lastHeard, (s.session j).keepLeft, by rw [h]; exact hj⟩

/-- Taking a request changes neither the unit record nor anything the engine's checks look at. -/
theorem engineCheck_greeted (k : RequestKind) (rq : Request) (s : State) :
    (greet rq s).engineCheck k rq = s.engineCheck k rq := by
  obtain ⟨a, ss, h, -⟩ := greet_effect rq s
  refine engineCheck_congr k rq (by rw [h]) fun j => ?_
  obtain ⟨x, y, e⟩ := greet_session rq s j
  rw [e]
  exact ⟨rfl, rfl⟩

/-- The checks of the engine read the same before and after the request is taken. -/
theorem engineCheck_greet (k : RequestKind) (rq : Request) (s : State) (rest : List Frame) (n : Nat) :
    (greet rq { s with requests := rest, heldPlaces := n }).engineCheck k rq = s.engineCheck k rq :=
  (engineCheck_greeted k rq _).trans (engineCheck_congr k rq rfl fun _ => ⟨rfl, rfl⟩)

/-- A request that the engine may take, other than CREDIT, and that passes the engine's checks is carried out on the state
in which it was taken. -/
theorem serve_admitted {s : State} {k : RequestKind} {rq : Request} {rest : List Frame}
    (own : Request → State → Answer) (h : s.admits k rq rest) (hk : k ≠ .credit) :
    serve k own s = upGrant (deliver rq (own rq (s.taken rq rest))) := by
  obtain ⟨⟨f, hr, rfl, hc, hm⟩, he⟩ := h
  have hc' : RequestKind.ofCode (frameKind f) = some k := hc
  simp only [serve, hr, hc', hm, and_self, if_true, if_neg hk, carryOut]
  rw [engineCheck_greet, he]
  rfl

/-- A request that the engine may take, other than CREDIT, and that fails the engine's checks is refused with their status. -/
theorem serve_refused {s : State} {k : RequestKind} {rq : Request} {rest : List Frame} {st : Status}
    (own : Request → State → Answer) (h : s.offers k rq rest) (hk : k ≠ .credit) (he : s.engineCheck k rq = some st) :
    serve k own s =
      upGrant ((s.taken rq rest).answered rq st ((s.taken rq rest).refusedBody k rq st)) := by
  obtain ⟨f, hr, rfl, hc, hm⟩ := h
  have hc' : RequestKind.ofCode (frameKind f) = some k := hc
  simp only [serve, hr, hc', hm, and_self, if_true, if_neg hk, carryOut]
  rw [engineCheck_greet, he]
  rfl

/-- No place is held for a CREDIT, and none is asked back. -/
theorem serve_credit {s : State} {rq : Request} {rest : List Frame} (own : Request → State → Answer)
    (h : s.offers .credit rq rest) :
    serve .credit own s =
      upGrant (deliver rq (carryOut .credit own rq (greet rq { s with requests := rest, heldPlaces := 0 }))) := by
  obtain ⟨f, hr, rfl, hc, hm⟩ := h
  have hc' : RequestKind.ofCode (frameKind f) = some .credit := hc
  simp only [serve, hr, hc', hm, and_self, if_true]

/-- A request that is not at the head of the queue, or may not be taken, is not carried out. -/
theorem serve_not_offered {s : State} {k : RequestKind} (own : Request → State → Answer)
    (h : ∀ rq rest, ¬ s.offers k rq rest) : serve k own s = s := by
  unfold serve
  split
  · rfl
  · next f rest hr =>
    rw [if_neg]
    rintro ⟨hc, hm⟩
    exact h (Request.ofFrame f) rest ⟨f, hr, rfl, hc, hm⟩

/-- A CREDIT served holds no place at any moment. -/
theorem taken_credit (s : State) (rq : Request) (rest : List Frame) :
    { s.taken rq rest with heldPlaces := 0 } = greet rq { s with requests := rest, heldPlaces := 0 } := by
  unfold State.taken greet refreshNamed validMessage refreshSession State.modSession State.setSession State.namesOwn
    State.session State.keepFull
  cases rq.sessionNo <;> simp only <;> repeat' split
  all_goals rfl

/-! ### The state in which a request begins -/

/-- What stands in the state in which a request is taken: all but the input queue, the place held, the attendance and the
session refreshed as it was. -/
theorem taken_effect (s : State) (rq : Request) (rest : List Frame) :
    ∃ a ss, s.taken rq rest = { s with requests := rest, heldPlaces := 1, attendance := a, sessions := ss } := by
  obtain ⟨a, ss, h, -⟩ := greet_effect rq { s with requests := rest, heldPlaces := 1 }
  exact ⟨a, ss, h⟩

@[simp] theorem taken_pending (s : State) (rq : Request) (rest : List Frame) : (s.taken rq rest).pending = s.pending := by
  obtain ⟨a, ss, h⟩ := taken_effect s rq rest; rw [h]
@[simp] theorem taken_lines (s : State) (rq : Request) (rest : List Frame) : (s.taken rq rest).lines = s.lines := by
  obtain ⟨a, ss, h⟩ := taken_effect s rq rest; rw [h]
@[simp] theorem taken_rates (s : State) (rq : Request) (rest : List Frame) : (s.taken rq rest).rates = s.rates := by
  obtain ⟨a, ss, h⟩ := taken_effect s rq rest; rw [h]
@[simp] theorem taken_probeQueue (s : State) (rq : Request) (rest : List Frame) : (s.taken rq rest).probeQueue = s.probeQueue := by
  obtain ⟨a, ss, h⟩ := taken_effect s rq rest; rw [h]
@[simp] theorem taken_begun (s : State) (rq : Request) (rest : List Frame) : (s.taken rq rest).begun = s.begun := by
  obtain ⟨a, ss, h⟩ := taken_effect s rq rest; rw [h]
@[simp] theorem taken_engine (s : State) (rq : Request) (rest : List Frame) : (s.taken rq rest).engine = s.engine := by
  obtain ⟨a, ss, h⟩ := taken_effect s rq rest; rw [h]
@[simp] theorem taken_entries (s : State) (rq : Request) (rest : List Frame) : (s.taken rq rest).entries = s.entries := by
  obtain ⟨a, ss, h⟩ := taken_effect s rq rest; rw [h]
@[simp] theorem taken_slots (s : State) (rq : Request) (rest : List Frame) : (s.taken rq rest).slots = s.slots := by
  obtain ⟨a, ss, h⟩ := taken_effect s rq rest; rw [h]
@[simp] theorem taken_unitSummary (s : State) (rq : Request) (rest : List Frame) : (s.taken rq rest).unitSummary = s.unitSummary := by
  obtain ⟨a, ss, h⟩ := taken_effect s rq rest; rw [h]
@[simp] theorem taken_upLink (s : State) (rq : Request) (rest : List Frame) : (s.taken rq rest).upLink = s.upLink := by
  obtain ⟨a, ss, h⟩ := taken_effect s rq rest; rw [h]
@[simp] theorem taken_downLink (s : State) (rq : Request) (rest : List Frame) : (s.taken rq rest).downLink = s.downLink := by
  obtain ⟨a, ss, h⟩ := taken_effect s rq rest; rw [h]
@[simp] theorem taken_upTx (s : State) (rq : Request) (rest : List Frame) : (s.taken rq rest).upTx = s.upTx := by
  obtain ⟨a, ss, h⟩ := taken_effect s rq rest; rw [h]
@[simp] theorem taken_downTx (s : State) (rq : Request) (rest : List Frame) : (s.taken rq rest).downTx = s.downTx := by
  obtain ⟨a, ss, h⟩ := taken_effect s rq rest; rw [h]
@[simp] theorem taken_upQueue (s : State) (rq : Request) (rest : List Frame) : (s.taken rq rest).upQueue = s.upQueue := by
  obtain ⟨a, ss, h⟩ := taken_effect s rq rest; rw [h]
@[simp] theorem taken_downQueue (s : State) (rq : Request) (rest : List Frame) : (s.taken rq rest).downQueue = s.downQueue := by
  obtain ⟨a, ss, h⟩ := taken_effect s rq rest; rw [h]
@[simp] theorem taken_responses (s : State) (rq : Request) (rest : List Frame) : (s.taken rq rest).responses = s.responses := by
  obtain ⟨a, ss, h⟩ := taken_effect s rq rest; rw [h]
@[simp] theorem taken_waitingTests (s : State) (rq : Request) (rest : List Frame) : (s.taken rq rest).waitingTests = s.waitingTests := by
  obtain ⟨a, ss, h⟩ := taken_effect s rq rest; rw [h]
@[simp] theorem taken_lastMember (s : State) (rq : Request) (rest : List Frame) : (s.taken rq rest).lastMember = s.lastMember := by
  obtain ⟨a, ss, h⟩ := taken_effect s rq rest; rw [h]
@[simp] theorem taken_lastSession (s : State) (rq : Request) (rest : List Frame) : (s.taken rq rest).lastSession = s.lastSession := by
  obtain ⟨a, ss, h⟩ := taken_effect s rq rest; rw [h]
@[simp] theorem taken_unitNumber (s : State) (rq : Request) (rest : List Frame) : (s.taken rq rest).unitNumber = s.unitNumber := by
  obtain ⟨a, ss, h⟩ := taken_effect s rq rest; rw [h]
@[simp] theorem taken_unit (s : State) (rq : Request) (rest : List Frame) : (s.taken rq rest).unit = s.unit := by
  obtain ⟨a, ss, h⟩ := taken_effect s rq rest; rw [h]
@[simp] theorem taken_counters (s : State) (rq : Request) (rest : List Frame) : (s.taken rq rest).counters = s.counters := by
  obtain ⟨a, ss, h⟩ := taken_effect s rq rest; rw [h]
@[simp] theorem taken_unitTime (s : State) (rq : Request) (rest : List Frame) : (s.taken rq rest).unitTime = s.unitTime := by
  obtain ⟨a, ss, h⟩ := taken_effect s rq rest; rw [h]
@[simp] theorem taken_resetPhase (s : State) (rq : Request) (rest : List Frame) : (s.taken rq rest).resetPhase = s.resetPhase := by
  obtain ⟨a, ss, h⟩ := taken_effect s rq rest; rw [h]
@[simp] theorem taken_line (s : State) (rq : Request) (rest : List Frame) (j : LineNo) : (s.taken rq rest).line j = s.line j := by
  obtain ⟨a, ss, h⟩ := taken_effect s rq rest; rw [h]; rfl
@[simp] theorem taken_slot (s : State) (rq : Request) (rest : List Frame) (j : SlotNo) : (s.taken rq rest).slot j = s.slot j := by
  obtain ⟨a, ss, h⟩ := taken_effect s rq rest; rw [h]; rfl
@[simp] theorem taken_entry (s : State) (rq : Request) (rest : List Frame) (j : EntryNo) : (s.taken rq rest).entry j = s.entry j := by
  obtain ⟨a, ss, h⟩ := taken_effect s rq rest; rw [h]; rfl
@[simp] theorem taken_rateAt (s : State) (rq : Request) (rest : List Frame) (j : RateIndex) : (s.taken rq rest).rateAt j = s.rateAt j := by
  obtain ⟨a, ss, h⟩ := taken_effect s rq rest; rw [h]; rfl
@[simp] theorem taken_requests (s : State) (rq : Request) (rest : List Frame) : (s.taken rq rest).requests = rest := by
  obtain ⟨a, ss, h⟩ := taken_effect s rq rest; rw [h]
@[simp] theorem taken_heldPlaces (s : State) (rq : Request) (rest : List Frame) : (s.taken rq rest).heldPlaces = 1 := by
  obtain ⟨a, ss, h⟩ := taken_effect s rq rest; rw [h]

/-- Of a session, taking a request changes the last-heard time and the keep timer. -/
theorem taken_session (s : State) (rq : Request) (rest : List Frame) (j : SessionNo) :
    ∃ heard left, (s.taken rq rest).session j = { s.session j with lastHeard := heard, keepLeft := left } :=
  greet_session rq { s with requests := rest, heldPlaces := 1 } j

end Sys2Proof.Machine
end

