-- ==== Sys2Proof/Laws/Floor.lean ====
section
/-! SUPPORT. All that the operations of the Floor Arbiter, the Activity Monitor and the Watch Unit can do. -/

namespace Sys2Proof.Machine

/-! ### Floor Arbiter -/

/-- The waiter that is served waits. -/
theorem nextWaiter?_mem {s : State} {waiting : List SessionNo} {w : SessionNo} (h : s.nextWaiter? waiting = some w) :
    w ∈ waiting := by
  unfold State.nextWaiter? at h
  split at h
  · next i hi => cases h; exact List.mem_of_find?_eq_some hi
  · cases waiting with
    | nil => simp at h
    | cons a rest => simp at h; simp [h]

/-- Nobody is served exactly when nobody waits. -/
theorem nextWaiter?_none {s : State} {waiting : List SessionNo} : s.nextWaiter? waiting = none ↔ waiting = [] := by
  unfold State.nextWaiter?
  split
  · next i hi =>
    have := List.mem_of_find?_eq_some hi
    constructor
    · intro h; cases h
    · intro h; rw [h] at this; cases this
  · cases waiting <;> simp

/-- `releaseHeld` changes the floor of its line: the waiter served holds it, or nobody waits and it is as `empty` says. -/
theorem releaseHeld_effect (l : LineNo) (h : SessionNo) (reason : Option LostReason) (empty : FloorState) (s : State) :
    ∃ (f : Floor) (d : Told),
      releaseHeld l h reason empty s = (s.setLine l { s.line l with floor := f }).told d
      ∧ ((s.line l).floor.waiting = [] ∧ f = { (s.line l).floor with state := empty, idle := .stopped }
        ∨ ∃ w, s.nextWaiter? (s.line l).floor.waiting = some w
          ∧ f = { (s.line l).floor with
            state := .held w, waiting := (s.line l).floor.waiting.erase w, idle := (s.line l).idleFull }) := by
  unfold releaseHeld
  split
  · next hn =>
    obtain ⟨d, e, -⟩ := noticeLost_effect l h reason
      (s.modLine l fun u => { u with floor := { u.floor with state := empty, idle := .stopped } })
    exact ⟨_, d, e, .inl ⟨nextWaiter?_none.mp hn, rfl⟩⟩
  · next w hw =>
    obtain ⟨d, e, -⟩ := noticeLost_effect l h reason (becomeHolder l w s)
    obtain ⟨d', e', -⟩ := placeNotice_effect
      ((noticeLost l h reason (becomeHolder l w s)).noticeFrame l w none) (noticeLost l h reason (becomeHolder l w s))
    refine ⟨_, { d' with placed := d.placed ++ d'.placed }, ?_, .inr ⟨w, hw, rfl⟩⟩
    rw [noticeGranted, e', e, told_told]
    rfl

/-- `releaseFloor` changes the floor of its line alone, and leaves a FREE floor as it stands. -/
theorem releaseFloor_effect (l : LineNo) (reason : Option LostReason) (s : State) :
    ∃ (f : Floor) (d : Told),
      releaseFloor l reason s = (s.setLine l { s.line l with floor := f }).told d
      ∧ ((s.line l).floor.state = .free → f = (s.line l).floor) ∧ f.busy = (s.line l).floor.busy := by
  unfold releaseFloor
  split
  · next h =>
    exact ⟨(s.line l).floor, s.untold,
      ((told_same rfl).trans (setLine_self s l)).symm, fun _ => rfl, rfl⟩
  · next p h =>
    obtain ⟨f, d, e, hf⟩ := releaseHeld_effect l p reason .free s
    refine ⟨f, d, e, by simp [h], ?_⟩
    rcases hf with ⟨-, rfl⟩ | ⟨w, -, rfl⟩ <;> rfl
  · next p h =>
    obtain ⟨d, e, -⟩ := noticeLost_effect l p reason
      (s.modLine l fun u => { u with floor := { u.floor with state := .free, idle := .stopped } })
    exact ⟨_, d, e, by simp [h], rfl⟩

/-- `clearFloor` makes a floor FREE with an empty list; line busy is kept. -/
theorem clearFloor_effect (l : LineNo) (reason : LostReason) (s : State) :
    ∃ (d : Told),
      clearFloor l reason s =
        (s.setLine l
          { s.line l with
            floor := { state := .free, waiting := [], idle := .stopped, busy := (s.line l).floor.busy } }).told d
      ∧ (s.unitSummary.kinds ≠ 0 → d.summary.kinds ≠ 0 ∧ d.summary.outcome = s.unitSummary.outcome)
      ∧ ∀ e', s.unitSummary.has e' = true → d.summary.has e' = true := by
  unfold clearFloor
  simp only
  split
  · exact ⟨s.untold, (told_same rfl).symm, fun h => ⟨h, rfl⟩, fun _ h => h⟩
  · next h _ =>
    obtain ⟨d, e, keep, same, -⟩ := noticeLost_effect l h (some reason)
      (s.modLine l fun u => { u with floor := { u.floor with state := .free, waiting := [], idle := .stopped } })
    exact ⟨d, e, same, keep⟩
  · next h _ =>
    obtain ⟨d, e, keep, same, -⟩ := noticeLost_effect l h (some reason)
      (s.modLine l fun u => { u with floor := { u.floor with state := .free, waiting := [], idle := .stopped } })
    exact ⟨d, e, same, keep⟩

/-- `leaveFloor` changes the floor of the session's line alone. -/
theorem leaveFloor_effect (i : SessionNo) (reason : Option LostReason) (s : State) :
    ∃ (f : Floor) (d : Told),
      leaveFloor i reason s =
        (s.setLine (s.session i).line { s.line (s.session i).line with floor := f }).told d := by
  unfold leaveFloor
  simp only
  split
  · obtain ⟨f, d, e, -⟩ := releaseHeld_effect (s.session i).line i reason .free s
    exact ⟨f, d, e⟩
  · split
    · obtain ⟨d, e, -⟩ := noticeLost_effect (s.session i).line i reason
        (s.modLine (s.session i).line fun u => { u with floor := { u.floor with state := .free, idle := .stopped } })
      exact ⟨_, d, e⟩
    · exact ⟨_, s.untold, (told_same rfl).symm⟩

/-- `restartIdle` changes the idle timer alone. -/
theorem restartIdle_effect (l : LineNo) (s : State) :
    restartIdle l s =
      s.setLine l
        { s.line l with floor := { (s.line l).floor with
            idle := match (s.line l).floor.state with | .held _ => (s.line l).idleFull | _ => (s.line l).floor.idle } } := by
  unfold restartIdle
  rw [modLine_eq]
  generalize hi : (match (s.line l).floor.state with
    | .held _ => (s.line l).idleFull | _ => (s.line l).floor.idle) = idle
  split
  · next h => rw [h] at hi; rw [← hi]
  · next h =>
    have : idle = (s.line l).floor.idle := by rw [← hi]; split <;> first | rfl | exact absurd ‹_› (h _)
    rw [this]

/-- `floorQuiet` clears line busy and starts the idle timer of a HELD floor afresh. -/
theorem floorQuiet_effect (l : LineNo) (s : State) :
    floorQuiet l s =
      s.setLine l
        { s.line l with floor := { (s.line l).floor with
            busy := false
            idle := match (s.line l).floor.state with
              | .held _ =>
                if (s.line l).record.floorIdle = 0 then .stopped else .running ((s.line l).record.floorIdle * 1000)
              | _ => (s.line l).floor.idle } } := by
  unfold floorQuiet
  rw [restartIdle_effect, modLine_eq, setLine_line_same, setLine_setLine]
  rfl

/-! ### Activity Monitor -/

/-- The end of a burst, by decay or timeout, changes the marks and the summary of its line. -/
theorem burstEnds_effect (l : LineNo) (arg : Nat) (s : State) :
    ∃ (before : List Mark) (loss : Word32) (m : LineSummary) (d : Told),
      burstEnds l arg s =
        (s.setLine l
          { s.line l with
            marks := before ++ [{ offset := (s.line l).ring.newest, stamp := s.unitTime, kind := .burstEnd, arg := arg }]
            markLoss := loss, summary := m }).told d
      ∧ m.has .burstEnd = true := by
  obtain ⟨before, loss, e, -⟩ := appendMark_effect l .burstEnd arg s
  obtain ⟨m, d, e', hm, -⟩ := raiseLine_summary l .burstEnd 0 0 0 (appendMark l .burstEnd arg s)
  refine ⟨before, loss, m, d, e'.trans ?_, hm⟩
  rw [e, setLine_line_same, setLine_setLine]

/-- What an operation on one line may change there beside the line's configuration, history and transmission. -/
def Line.reported (v : Line) (ms : List Mark) (loss : Word32) (mon : Monitor) (m : LineSummary) (f : Floor) : Line :=
  { v with marks := ms, markLoss := loss, monitor := mon, summary := m, floor := f }

/-- The beginning of a burst changes the monitor's timeout, the marks, the summary and the floor of its line, and at most
one slot. -/
theorem burstBegins_effect (l : LineNo) (s : State) :
    ∃ (t : State) (ms : List Mark) (loss : Word32) (mon : Monitor) (m : LineSummary) (f : Floor) (d : Told),
      burstBegins l s = (t.setLine l ((s.line l).reported ms loss mon m f)).told d
      ∧ (t = s ∨ ∃ k q, t = s.setSlot k q)
      ∧ mon = { (s.line l).monitor with
          burstLeft := if (s.line l).params.tb = 0 then none else some ((s.line l).params.tb * 1000) }
      ∧ f = { (s.line l).floor with
          busy := true, idle := match (s.line l).floor.idle with | .running _ => .heldStill | x => x } := by
  obtain ⟨before, loss, e, -⟩ := appendMark_effect l .burstBegin 0 s
  obtain ⟨m₀, d, e', -⟩ := raiseLine_summary l .burstBegin 0 0 0 (appendMark l .burstBegin 0 s)
  rw [e, setLine_line_same, setLine_setLine, ← e] at e'
  unfold burstBegins
  simp only [raisePlain, e', modLine_eq, told_line, setLine_line_same, told_setLine, setLine_setLine]
  obtain ⟨t, ms, loss', m, d', e3, ht⟩ := optionTrigger_on l .burst (s.line l).record.burstSnapshot s
    { s.line l with
      marks := before ++ [{ offset := (s.line l).ring.newest, stamp := s.unitTime, kind := .burstBegin, arg := 0 }]
      markLoss := loss
      monitor := { (s.line l).monitor with
        burstLeft := if (s.line l).params.tb = 0 then none else some ((s.line l).params.tb * 1000) }
      summary := m₀ } d
  rw [e3, floorBusy, modLine_eq, told_line, setLine_line_same, told_setLine, setLine_setLine]
  exact ⟨t, ms, loss', _, m, _, d', rfl, ht, rfl, rfl⟩

/-! ### Watch Unit -/

/-- MARK actions change the marks of the line. -/
theorem markHits_effect (l : LineNo) (firing : List EntryNo) (s : State) :
    ∃ (ms : List Mark) (loss : Word32),
      markHits l firing s = s.setLine l { s.line l with marks := ms, markLoss := loss } := by
  unfold markHits
  generalize (firing.filter fun i => (s.entry i).mark) = is
  induction is generalizing s with
  | nil => exact ⟨(s.line l).marks, (s.line l).markLoss, (setLine_self s l).symm⟩
  | cons i is ih =>
    obtain ⟨before, loss, e, -⟩ := appendMark_effect l .watchHit i.val s
    rw [List.foldl_cons, e]
    obtain ⟨ms, loss', e'⟩ := ih (s.setLine l
      { s.line l with
        marks := before ++ [{ offset := (s.line l).ring.newest, stamp := s.unitTime, kind := .watchHit, arg := i.val }]
        markLoss := loss })
    refine ⟨ms, loss', e'.trans ?_⟩
    rw [setLine_line_same, setLine_setLine]

/-- NOTE actions change the summary of the line. -/
theorem noteHits_effect (l : LineNo) (firing : List EntryNo) (s : State) :
    ∃ (m : LineSummary) (d : Told),
      noteHits l firing s = (s.setLine l { s.line l with summary := m }).told d := by
  unfold noteHits
  split
  · exact ⟨(s.line l).summary, s.untold,
      ((told_same rfl).trans (setLine_self s l)).symm⟩
  · obtain ⟨m, d, e, -⟩ := raiseLine_summary l .watchFired _ 0 _ s
    exact ⟨m, d, e⟩

/-- The SNAPSHOT action changes at most one slot, and of the line the marks and the summary. -/
theorem snapshotHits_effect (l : LineNo) (firing : List EntryNo) (s : State) :
    ∃ (t : State) (ms : List Mark) (loss : Word32) (m : LineSummary) (d : Told),
      snapshotHits l firing s = (t.setLine l { s.line l with marks := ms, markLoss := loss, summary := m }).told d
      ∧ (t = s ∨ ∃ k q, t = s.setSlot k q) := by
  have nothing : ∃ (t : State) (ms : List Mark) (loss : Word32) (m : LineSummary) (d : Told),
      s = (t.setLine l { s.line l with marks := ms, markLoss := loss, summary := m }).told d
      ∧ (t = s ∨ ∃ k q, t = s.setSlot k q) :=
    ⟨s, (s.line l).marks, (s.line l).markLoss, (s.line l).summary, s.untold,
      ((told_same rfl).trans (setLine_self s l)).symm, .inl rfl⟩
  unfold snapshotHits
  split
  · exact nothing
  · split
    · exact nothing
    · exact fireTrigger_effect _ s

/-- HOLD_TYPE actions change the hold of the line. -/
theorem holdHits_effect (l : LineNo) (firing : List EntryNo) (s : State) :
    ∃ h, holdHits l firing s = s.setLine l { s.line l with hold := h } := by
  unfold holdHits
  split
  · exact ⟨(s.line l).hold, (setLine_self s l).symm⟩
  · unfold extendHold
    rw [modLine_eq]
    simp only
    split
    · exact ⟨_, rfl⟩
    · split
      · exact ⟨(s.line l).hold, by rw [setLine_self]⟩
      · exact ⟨_, rfl⟩

/-- DROP_FLOOR actions change the floor of the line. -/
theorem dropHits_effect (l : LineNo) (firing : List EntryNo) (s : State) :
    ∃ (f : Floor) (d : Told),
      dropHits l firing s = (s.setLine l { s.line l with floor := f }).told d := by
  unfold dropHits
  split
  · obtain ⟨f, d, e, -⟩ := releaseFloor_effect l (some .watch) s
    exact ⟨f, d, e⟩
  · exact ⟨(s.line l).floor, s.untold,
      ((told_same rfl).trans (setLine_self s l)).symm⟩

/-- All the actions of one byte change, of the line, marks, summary, hold and floor, and at most one slot. -/
theorem watchActions_effect (l : LineNo) (firing : List EntryNo) (s : State) :
    ∃ (t : State) (ms : List Mark) (loss : Word32) (m : LineSummary) (h : Option Word32) (f : Floor) (d : Told),
      watchActions l firing s =
        (t.setLine l
          { s.line l with marks := ms, markLoss := loss, summary := m, hold := h, floor := f }).told d
      ∧ (t = s ∨ ∃ k q, t = s.setSlot k q) := by
  unfold watchActions
  obtain ⟨ms, loss, e1⟩ := markHits_effect l firing s
  obtain ⟨m, d, e2⟩ := noteHits_effect l firing (markHits l firing s)
  simp only [e1, setLine_line_same, setLine_setLine] at e2
  obtain ⟨t, ms', loss', m', d', e3, ht⟩ := snapshotHits_effect l firing (noteHits l firing (markHits l firing s))
  rw [e1, e2] at e3 ht
  simp only [told_line, setLine_line_same] at e3
  obtain ⟨h, e4⟩ := holdHits_effect l firing (snapshotHits l firing (noteHits l firing (markHits l firing s)))
  rw [e1, e2, e3] at e4
  simp only [told_line, setLine_line_same, told_setLine, setLine_setLine] at e4
  obtain ⟨f, d'', e5⟩ := dropHits_effect l firing
    (holdHits l firing (snapshotHits l firing (noteHits l firing (markHits l firing s))))
  rw [e1, e2, e3, e4] at e5
  simp only [told_line, setLine_line_same, told_setLine, setLine_setLine, told_told] at e5
  rw [e1, e2, e3, e4, e5]
  rcases ht with rfl | ⟨k, q, rfl⟩
  · simp only [told_setLine, setLine_setLine, told_told]
    exact ⟨s, _, _, _, _, _, _, rfl, .inl rfl⟩
  · simp only [told_setSlot, setLine_setSlot, told_setLine, setLine_setLine, told_told]
    exact ⟨s.setSlot k q, _, _, _, _, _, _, rfl, .inr ⟨k, q, rfl⟩⟩

end Sys2Proof.Machine
end

