-- ==== Sys2Proof/Laws/Lines.lean ====
section
/-! SUPPORT. All that the operations of the Line Units and the Rate Probe can do. -/

namespace Sys2Proof.Machine

/-! ### Transmitters -/

/-- `startElement` does nothing, or takes the head of the queue. -/
theorem startElement_effect (l : LineNo) (s : State) :
    startElement l s = s
      ∨ ∃ rest tx counters ms loss,
        startElement l s =
          s.setLine l
            { s.line l with
              injection := rest, gap := none, tx := tx, counters := counters, marks := ms, markLoss := loss }
        ∧ (s.line l).mayStart s.unitTime = true
        ∧ ((∃ b, (s.line l).injection = .byte b :: rest ∧ tx = .byte b (s.line l).record.framing
              ∧ counters = (s.line l).counters ∧ ms = (s.line l).marks)
          ∨ ∃ d, (s.line l).injection = .brk d :: rest ∧ tx = .breakSpace d
              ∧ counters = { (s.line l).counters with breaksOut := (s.line l).counters.breaksOut + 1 }) := by
  unfold startElement
  simp only
  split
  · next hm =>
    split
    · exact .inl rfl
    · next b rest hq =>
      exact .inr ⟨rest, _, (s.line l).counters, (s.line l).marks, (s.line l).markLoss, rfl, hm,
        .inl ⟨b, hq, rfl, rfl, rfl⟩⟩
    · next d rest hq =>
      obtain ⟨before, loss, e, -⟩ := appendMark_effect l .breakOut d
        (s.setLine l
          { s.line l with
            injection := rest
            gap := none
            tx := .breakSpace d
            counters := { (s.line l).counters with breaksOut := (s.line l).counters.breaksOut + 1 } })
      rw [setLine_line_same, setLine_setLine] at e
      exact .inr ⟨rest, _, _, _, loss, e, hm, .inr ⟨d, hq, rfl, rfl⟩⟩
  · exact .inl rfl

/-! ### Entry into and exit from LIVE -/

/-- An entry into LIVE sets everything R3 names of its line, marks and raises RATE_SET, and changes no other record. -/
theorem enterLive_effect (l : LineNo) (rate : TakenRate) (s : State) :
    ∃ (before : List Mark) (loss : Word32) (m : LineSummary) (d : Told),
      enterLive l rate s =
        (s.setLine l
          { s.line l with
            state := .live, current := some rate, last := some rate, matchWindow := [], monitor := .seeded
            streak := 0, gap := none, tx := .idle, rx := receiverAt (s.line l).rxd, test := none
            marks := before ++
              [{ offset := (s.line l).ring.newest, stamp := s.unitTime, kind := .rateSet, arg := rate.index.val }]
            markLoss := loss, summary := m }).told d
      ∧ (before = (s.line l).marks ∧ loss = (s.line l).markLoss ∧ (s.line l).marks.length < 32
        ∨ before = (s.line l).marks.tail ∧ loss = (s.line l).markLoss + 1 ∧ 32 ≤ (s.line l).marks.length)
      ∧ m.has .rateSet = true ∧ (∀ e, (s.line l).summary.has e = true → m.has e = true) := by
  obtain ⟨before, loss, e, hb⟩ := appendMark_effect l .rateSet rate.index.val
    (s.modLine l fun u =>
      { u with
        state := .live, current := some rate, last := some rate, matchWindow := [], monitor := .seeded
        streak := 0, gap := none, tx := .idle, rx := receiverAt u.rxd, test := none })
  rw [modLine_eq, setLine_line_same, setLine_setLine] at e
  obtain ⟨m, d, e', hm, hk, -⟩ := raiseLine_summary l .rateSet 0 0 0 (appendMark l .rateSet rate.index.val
    (s.modLine l fun u =>
      { u with
        state := .live, current := some rate, last := some rate, matchWindow := [], monitor := .seeded
        streak := 0, gap := none, tx := .idle, rx := receiverAt u.rxd, test := none }))
  rw [modLine_eq, e, setLine_line_same, setLine_setLine] at e'
  refine ⟨before, loss, m, d, ?_, ?_, hm, ?_⟩
  · unfold enterLive raisePlain
    rw [modLine_eq, e]
    exact e'
  · simpa [modLine_eq] using hb
  · intro x hx
    apply hk
    rw [modLine_eq, e, setLine_line_same]
    exact hx

/-- A line as an exit from LIVE leaves it before the monitor and the Snapshot Store hear of it (R4, R120). -/
def Line.cutOff (u : Line) : Line :=
  { u with
    tx := .idle, injection := [], hold := none, rx := .waiting, current := none, gather := none, settled := true }

/-- An exit from LIVE sets everything R4 names of its line, may grant a session that the settled line makes ready,
truncates the slot FILLING for the line, and changes no other record. The line state that follows is not set here. -/
theorem exitLive_effect (l : LineNo) (s : State) :
    ∃ (t : State) (f : Floor) (m : LineSummary) (d : Told),
      exitLive l s =
        (t.setLine l
          { s.line l with
            tx := .idle, injection := [], hold := none, rx := .waiting, current := none, gather := none
            settled := true, monitor := (s.line l).monitor.left, floor := f, summary := m }).told d
      ∧ (s.fillingSlot? l = none ∧ t = grantData (s.setLine l (s.line l).cutOff)
        ∨ ∃ k, s.fillingSlot? l = some k
          ∧ t = (grantData (s.setLine l (s.line l).cutOff)).setSlot k
              { s.slot k with state := .complete, truncated := true, fillLeft := none })
      ∧ (f = if (s.line l).monitor.state.bursting then
            { (s.line l).floor with
              busy := false
              idle := match (s.line l).floor.state with
                | .held _ =>
                  if (s.line l).record.floorIdle = 0 then .stopped else .running ((s.line l).record.floorIdle * 1000)
                | _ => (s.line l).floor.idle }
          else (s.line l).floor) := by
  generalize hg : grantData (s.setLine l (s.line l).cutOff) = g
  have hl : g.line l = (s.line l).cutOff := by rw [← hg]; simp
  have hs : ∀ k, g.slot k = s.slot k := fun k => by rw [← hg]; simp
  have hmon : ∃ f, monitorExit l g = g.setLine l { (s.line l).cutOff with monitor := (s.line l).monitor.left, floor := f }
      ∧ (f = if (s.line l).monitor.state.bursting then
            { (s.line l).floor with
              busy := false
              idle := match (s.line l).floor.state with
                | .held _ =>
                  if (s.line l).record.floorIdle = 0 then .stopped else .running ((s.line l).record.floorIdle * 1000)
                | _ => (s.line l).floor.idle }
          else (s.line l).floor) := by
    unfold monitorExit
    simp only [modLine_eq, hl]
    split
    · next h =>
      refine ⟨_, ?_, (if_pos h).symm⟩
      rw [floorQuiet_effect, setLine_line_same, setLine_setLine]; rfl
    · next h => exact ⟨_, rfl, (if_neg h).symm⟩
  obtain ⟨f, e, hf⟩ := hmon
  have he : exitLive l s = truncateFor l (monitorExit l g) := by rw [← hg]; rfl
  obtain ⟨m, d, t, e', ht⟩ := truncateFor_effect l (monitorExit l g)
  have hfill : (monitorExit l g).fillingSlot? l = s.fillingSlot? l := by
    rw [e]; unfold State.fillingSlot?; simp [hs]
  rw [← he, e, setLine_line_same] at e'
  rw [hfill, e] at ht
  rcases ht with ⟨hn, -, rfl⟩ | ⟨k, hk, rfl⟩
  · rw [setLine_setLine] at e'
    exact ⟨g, f, m, d, e', .inl ⟨hn, rfl⟩, hf⟩
  · rw [setLine_slot, hs, setLine_setSlot, setLine_setLine] at e'
    exact ⟨_, f, m, d, e', .inr ⟨k, hk, rfl⟩, hf⟩

/-! ### The probe queue -/

/-- `probeTake` does nothing, or the idle engine takes the head of the queue. -/
theorem probeTake_effect (s : State) :
    (probeTake s = s ∧ (s.engine = none → s.probeQueue = []))
      ∨ ∃ (l : LineNo) (rest : List LineNo) (tx : Transmitter) (before : List Mark) (loss : Word32) (m : Measurement),
        s.engine = none ∧ s.probeQueue = l :: rest
        ∧ probeTake s =
          { s.setLine l
              { s.line l with
                state := .measuring, tx := tx
                marks := before ++
                  [{ offset := (s.line l).ring.newest, stamp := s.unitTime, kind := .measureBegin, arg := 0 }]
                markLoss := loss } with
            probeQueue := rest, begun := s.begun + 1, engine := some m }
        ∧ (before = (s.line l).marks ∧ loss = (s.line l).markLoss ∧ (s.line l).marks.length < 32
          ∨ before = (s.line l).marks.tail ∧ loss = (s.line l).markLoss + 1 ∧ 32 ≤ (s.line l).marks.length)
        ∧ m.line = l ∧ m.number = s.begun ∧ m.edgeCount = 0 ∧ m.start = s.unitTime
        ∧ m.windowLeft = (s.line l).record.window.seconds * 1000
        ∧ (tx = .idle ∨ tx = .probe (s.line l).record.framing (s.rateAt (s.line l).record.fallbackIndex)) := by
  unfold probeTake
  split
  · next l rest he hq =>
    obtain ⟨before, loss, e, hb⟩ := appendMark_effect l .measureBegin 0
      (s.modLine l fun u =>
        { u with
          state := .measuring
          tx := match (s.line l).record.probe with
            | .silent => .idle
            | .cr => .probe (s.line l).record.framing (s.rateAt (s.line l).record.fallbackIndex) })
    rw [modLine_eq, setLine_line_same, setLine_setLine] at e
    let r := (s.line l).record
    refine .inr ⟨l, rest,
      match r.probe with | .silent => .idle | .cr => .probe r.framing (s.rateAt r.fallbackIndex), before, loss,
      { number := s.begun, line := l, probe := r.probe, edges := r.edges, window := r.window, framing := r.framing, start := s.unitTime,
        edgeCount := 0, pulse := 0, phase := 0, narrowest := none, elapsed := 0,
        windowLeft := r.window.seconds * 1000 },
      he, hq, ?_, ?_, rfl, rfl, rfl, rfl, rfl, ?_⟩
    · have key : ∀ (t : State) (v : Line) (q : List LineNo) (n : Nat) (m : Option Measurement), t = s.setLine l v →
          ({ t with probeQueue := q, begun := n, engine := m } : State)
            = { s.setLine l v with probeQueue := q, begun := n, engine := m } := by
        rintro _ _ _ _ _ rfl
        rfl
      exact key _ _ _ _ _ e
    · simpa [modLine_eq] using hb
    · cases r.probe with
      | silent => exact .inl rfl
      | cr => exact .inr rfl
  · next h =>
    refine .inl ⟨rfl, fun he => ?_⟩
    cases hq : s.probeQueue with
    | nil => rfl
    | cons l rest => exact absurd hq (h l rest he)

end Sys2Proof.Machine
end

