-- ==== Sys2Proof/WellFormed.lean ====
section
/-! DEFINITION. Which commands make sense on the pins. Line, session, entry and slot numbers are bounded by their
types; what is left to check is that an arriving frame is an Ethernet frame at all (destination, source and EtherType,
11_message_formats.md section 11.1) and that an RXD edge does not fall in the same reference clock period as the one
before it (R30). -/

namespace Sys2Proof

/-- Bytes of an Ethernet frame before its payload: two addresses and the EtherType (section 11.1). -/
def ethernetHeaderBytes : Nat := 14

/-- The command can occur on the pins of the part. -/
def Instr.wellFormed : Instr → Bool
  | .upFrameArrival frame _ => decide (ethernetHeaderBytes ≤ frame.length)
  | .downFrameArrival frame _ => decide (ethernetHeaderBytes ≤ frame.length)
  | .edgeCountReached edge => decide (0 < edge.periods)
  | .measureEdge edge => decide (0 < edge.periods)
  | .powerOn _ | .upLinkDown | .downLinkDown | .linkComesUp _ | .upTransmitComplete | .downTransmitComplete
  | .unitResetApplied | .unitStatus | .unitSet | .setTime | .unitReset | .lineRead | .lineSet | .lineEnable
  | .lineDisable | .lineMeasure | .lineTest | .rateTableRead | .rateTableSet | .monitorRead | .monitorSet
  | .marksRead | .eventsRead | .watchRead | .watchSet | .snapshotList | .snapshotRead | .snapshotFree
  | .snapshotTake | .openSession | .closeSession | .seek | .credit | .floorRequest | .floorRelease | .typeBytes
  | .sendBreak | .unknownKindRequest | .characterCapture _ _ _ | .framingErrorCapture _ _ _ | .breakIn _
  | .loopCharacterReceived _ _ _ _ | .loopTestTimeout _ | .byteTransmitted _ | .breakOutEnd _
  | .pacingGapExpiry _ | .holdExpiry _ | .measureWindowExpiry | .measureBreak | .sampleExpiry _
  | .burstTimeout _ | .holdoffExpiry _ _ | .fillLimitExpiry _ | .gatherTimerExpiry _ | .keepTimerExpiry _
  | .idleExpiry _ | .attendanceExpiry | .startEdge _ _ | .rxdReturnToMark _ | .probeCharacterEnd
  | .patternByteSent _ | .breakSpaceEnd _ => true

end Sys2Proof
end

