-- ==== Sys2Proof/Tests/Slice0.lean ====
section
/-! SUPPORT. The tests of the model: the checks of WellFormed each refusing an ill-formed command; the values that the
worked examples and tables of the manual give; one or two small runs of one step for each command; and, for every
statement with hypotheses, a state and operands that meet them together. -/

namespace Sys2Proof.Tests
open Sys2Proof Sys2Proof.Machine

/- One theorem at a time: many kernel evaluations at once take more threads than the memory limit allows. -/
set_option Elab.async false

/-! ### Builders -/

/-- A request frame for unit 1 of the chain at its reset addresses (section 11.1), with tag 7. -/
def frameFor (kind session origin : Nat) (body : List Byte) : Frame :=
  beBytes 6 0x0F4E4A000000 ++ beBytes 6 origin ++ beBytes 2 0x88B6 ++ beBytes 1 1 ++ beBytes 1 1 ++ beBytes 1 kind
    ++ beBytes 1 session ++ beBytes 2 7 ++ beBytes 2 body.length ++ body

/-- The state with one request waiting. -/
def asked (s : State) (f : Frame) : State := { s with requests := [f] }

/-- The state a step answers with. -/
def nextOf (o : Host.Outcome State Fault Refusal) : State :=
  match o with
  | .next t => t
  | .fault _ => State.reset
  | .refused _ => State.reset

/-- The state after a command. -/
def after (s : State) (c : Instr) : State := nextOf (exec c s)

/-- The state after a request is carried out. -/
def afterRequest (s : State) (c : Instr) (f : Frame) : State := after (asked s f) c

/-- The status and body of the last response placed. -/
def answerOf (s : State) : Option (Option Status × List Byte) :=
  s.responses.getLast?.map fun q => (q.frame.status, q.frame.body)

/-- The status of the last response placed. -/
def statusOf (s : State) : Option Status := s.responses.getLast?.bind fun q => q.frame.status

/-- The reset state with one line changed. -/
def withLine (l : LineNo) (f : Line → Line) : State := State.reset.modLine l f

/-- A line in a given state that is not LIVE, as its last run left it. -/
def lineIn (st : LineState) (u : Line) : Line :=
  { u with state := st, current := none, monitor := { u.monitor with seedPending := false, sampleLeft := none } }

/-- A TYPE session on a line. -/
def typist (origin : Addr) (l : LineNo) (c : SessionClass) : Session :=
  { Session.reset with isOpen := true, origin := origin, line := l, role := .typist, cls := c }

/-- Line 2 with an OPERATOR session 4 of origin 5 and a SUPERVISOR session 7 of origin 6; the floor as given. -/
def withFloor (f : FloorState) (waiting : List SessionNo) : State :=
  ((withLine 2 fun u =>
    { u with floor :=
      { u.floor with
        state := f, waiting := waiting
        idle := match f with | .held _ => .running 300000 | _ => .stopped } }).setSession 4
    (typist 5 2 .operator)).setSession 7 (typist 6 2 .supervisor)

/-- The idle timer of line 2 run out. -/
def idleOut (s : State) : State := s.modLine 2 fun u => { u with floor := { u.floor with idle := .running 0 } }

/-- A line measured by the engine, `edges` edges counted so far with a smallest width. -/
def measuring (l : LineNo) (edges : Nat) (narrowest : Option Nat) : State :=
  { withLine l fun u => lineIn .measuring u with
    begun := 1
    engine := some
      { number := 0, line := l, probe := .silent, edges := .e32, window := .s5, framing := .reset, start := 0, edgeCount := edges,
        pulse := 0, narrowest := narrowest, elapsed := 0, phase := 0, windowLeft := 5000 } }

/-- The measurement at the end of its window. -/
def windowOver (s : State) : State := { s with engine := s.engine.map fun m => { m with windowLeft := 0 } }

/-- The measurement with its pulse counter at `n` in a first millisecond of 14,745 periods. -/
def pulseOf (n : Nat) (s : State) : State := { s with engine := s.engine.map fun m => { m with pulse := n } }

/-- A line in a loopback test with prior state OFF over the pattern 0x55, 0xAA. -/
def looping (sent received matched : Nat) (tx : Transmitter) : State :=
  withLine 3 fun u =>
    { lineIn .loop u with
      tx := tx
      test := some
        { prior := .off, restartPending := false, rate := 9600, pattern := [0x55#8, 0xAA#8], sent := sent,
          received := received, matched := matched, firstMismatch := none, wait := none, origin := 5, session := 255,
          tag := 7 } }

/-- The supervisor list holding one address that is not 5. -/
def supervised (s : State) : State := { s with unit := { s.unit with supervisors := [9#48] } }

/-- The reset state with the UP link up and the UP transmitter sending. -/
def upBusy : State := { State.reset with upLink := true, upTx := some (.forward [0#8]) }

/-! ### WellFormed refuses the ill-formed -/

theorem test_wellFormed_refuses_short_frame_up : (Instr.upFrameArrival (List.replicate 13 0#8) true).wellFormed = false := by
  decide

theorem test_wellFormed_refuses_short_frame_down :
    (Instr.downFrameArrival (List.replicate 13 0#8) true).wellFormed = false := by decide

theorem test_wellFormed_refuses_edge_without_period : (Instr.measureEdge ⟨3, 0, 0⟩).wellFormed = false := by decide

theorem test_wellFormed_refuses_last_edge_without_period : (Instr.edgeCountReached ⟨3, 0, 0⟩).wellFormed = false := by decide

theorem test_wellFormed_accepts :
    [Instr.upFrameArrival (List.replicate 14 0#8) true, .measureEdge ⟨3, 0, 1⟩, .edgeCountReached ⟨3, 0, 1⟩, .unitStatus].all
      Instr.wellFormed = true := by decide

theorem test_no_word_spells_a_command : decodeTableWord 8 0 = none ∧ State.reset.withFetchWord 8 0 = State.reset :=
  ⟨rfl, rfl⟩

/-! ### Tables and worked examples of the manual -/

/-- The table of R8. -/
theorem test_divisors :
    [300, 1200, 9600, 38400, 56000, 100000, 115200, 230400].map divisor = [3072, 768, 96, 24, 16, 9, 8, 4]
      ∧ [16, 9, 8].map effectiveRate = [57600, 102400, 115200] := by decide

/-- The character times of R120's table in 4,608ths of a millisecond: 8 / N / 1 at 38,400 takes 1.042 ms for four. -/
theorem test_character_time : 4 * charTime .reset 38400 = 4800 ∧ 4 * charTime .reset 115200 = 1600 := by decide

/-- R7's table, by hand: 7 / E / 2 at 300 bit/s takes 11 bits, 36.667 ms; 8 / O / 1 at 115,200 takes 11, 0.0955 ms. -/
theorem test_character_time_with_parity :
    charTime { dataBits := .seven, parity := .even, stopBits := .two } 300 = 168960
      ∧ charTime { dataBits := .eight, parity := .odd, stopBits := .one } 115200 = 440 := by decide

/-- Section 11.3's line condition block of a line LIVE at 9600 bit/s (index 4), a BREAK in counted, two elements queued
and a hold of 258 ms ahead, written out by hand. -/
theorem test_line_condition :
    ({ State.reset.line 0 with
        state := .live, current := some { index := 4, rate := 9600 }, last := some { index := 4, rate := 9600 }
        counters := { LineCounters.reset with breaksIn := 1 }, injection := [.byte 0x41#8, .brk 50]
        hold := some 0x0107 } : Line).conditionBytes 5
      = [3, 255, 0, 4, 0, 96, 0, 0, 0x25, 0x80, 4] ++ zeros 12 ++ [0, 0, 0, 1] ++ zeros 12
        ++ [0, 2, 0, 0, 1, 2, 0, 0, 0, 0, 0, 0, 0, 0] := by decide +kernel

/-- The table of R63. -/
theorem test_step_rule :
    [moveToward 320 6400 2, moveToward 3575 480 2, moveToward 160 181 6, moveToward 500 498 6, moveToward 900 900 6,
      moveToward 100 9000 0] = [1840, 2802, 161, 499, 900, 9000] := by decide

/-- The first worked example of chapter 4, expiries 1 to 11 of line 11. -/
theorem test_shelf_reboots :
    let expire (s : State) (n : Nat) : State :=
      after (s.modLine 11 fun u => { u with monitor := { u.monitor with chars := n, sampleLeft := some 0 } })
        (.sampleExpiry 11)
    let start := withLine 11 fun u =>
      { u with monitor := { u.monitor with fast := 320, long := 320, seedPending := false } }
    let runs := ([20, 400, 380, 350, 30, 20, 20, 20, 20, 20, 20].foldl
      (fun (acc : List State) n => expire (acc.headD start) n :: acc) []).reverse
    runs.map (fun s => let m := (s.line 11).monitor; (m.fast, m.state, m.count, m.long)) =
      [(320, .quiet, 0, 320), (1840, .rising, 1, 343), (2900, .burst, 0, 343), (3575, .burst, 0, 343),
        (2802, .burst, 0, 343), (2182, .burst, 0, 343), (1717, .burst, 0, 343), (1368, .burst, 0, 343),
        (1106, .falling, 1, 343), (910, .falling, 2, 343), (763, .quiet, 0, 349)] := by decide +kernel

/-- The example of overlapping matches in chapter 5: "aaaaA" against two elements 'a', hits needed 2. -/
theorem test_overlapping_matches :
    let entry : WatchEntry :=
      { WatchEntry.reset with
        enabled := true, pattern := [.literal 0x61#8 false, .literal 0x61#8 false], lines := 1#24 <<< 6
        hitsNeeded := 2, mark := true }
    let runs := ([0x61#8, 0x61#8, 0x61#8, 0x61#8, 0x41#8].foldl
      (fun (acc : List State) b =>
        after (acc.headD (State.reset.setEntry 9 entry)) (.characterCapture 6 b false) :: acc) []).reverse
    runs.map (fun s => (((s.line 6).pair 9).hits, ((s.line 6).pair 9).fires.toNat)) =
      [(0, 0), (1, 0), (0, 1), (1, 1), (1, 1)]
    ∧ runs.getLast?.map (fun s => (s.line 6).marks.getLast?) =
        some (some { offset := 3, stamp := 0, kind := .watchHit, arg := 9 }) := by decide +kernel

/-- Folding pairs the letters at both ends of the alphabet and no byte beside them (R79); the last P bytes of the window
count, and a shorter window gives no match (R83). -/
theorem test_patternMatches_edges :
    let folds (b c : Byte) := patternMatches [.any, .literal b true] [0#8, 9#8, c]
    (folds 0x41#8 0x61#8 && folds 0x7A#8 0x5A#8 && !folds 0x40#8 0x60#8 && !folds 0x5B#8 0x7B#8
        && !folds 0x41#8 0x62#8 && !patternMatches [.literal 0x41#8 false] [0x61#8]
        && !patternMatches [.any, .literal 0x41#8 false] [0x41#8]) = true := by decide +kernel

/-- R41's table as a measurement matches it (R33): 9600 bit/s has the nominal width 1536, 4800 has 3072. -/
theorem test_nominal_widths : [9600, 4800, 115200, 300].map nominalWidth = [1536, 3072, 128, 49152] := by decide

/-! ### One step of each command -/

/-- POWER_ON with every strap low gives the reset state (R2, R164). -/
theorem test_powerOn_straps_low : after State.reset (.powerOn ⟨0, false, false, false⟩) = State.reset := by
  decide +kernel

/-- POWER_ON with AUTOSEL, RATESEL and ATTSEL high and unit straps 12 (R2, R21, R164). -/
theorem test_powerOn_straps_high :
    let t := after State.reset (.powerOn ⟨12, true, true, true⟩)
    t.unitNumber = 12 ∧ t.unit.station = 0x0E4E4A00000C ∧ t.unit.period = .s60 ∧ (t.line 0).state = .measuring
      ∧ (t.line 23).state = .queued ∧ (t.line 5).record.fallbackIndex = 8 := by decide +kernel

theorem test_upLinkDown_counts_forward :
    let t := after upBusy .upLinkDown
    t.upTx = none ∧ t.counters.upDrops = 1 ∧ t.unitSummary.has .chainLoss = true := by decide +kernel

theorem test_downLinkDown_empties_queue :
    let t := after { State.reset with downLink := true, downTx := some [1#8], downQueue := [[2#8]] } .downLinkDown
    t.downTx = none ∧ t.downQueue = [] ∧ t.counters.downDrops = 2 := by decide +kernel

theorem test_linkComesUp_sends_waiting_response :
    let s := after (asked State.reset (frameFor 0x12 255 5 [3#8])) .lineEnable
    (after s (.linkComesUp .up)).upTx.isSome = true ∧ (after s (.linkComesUp .up)).responses = [] := by decide +kernel

theorem test_upFrameArrival_for_this_unit :
    (after upBusy (.upFrameArrival (frameFor 0x01 255 5 []) true)).requests = [frameFor 0x01 255 5 []] := by
  decide +kernel

/-- A frame of another protocol goes on DOWN; with the DOWN link down it is dropped and counted (R154, R155). -/
theorem test_upFrameArrival_foreign_dropped :
    (after upBusy (.upFrameArrival (List.replicate 60 0#8) true)).counters.downDrops = 1 := by decide +kernel

theorem test_downFrameArrival_forwarded_up :
    (after { upBusy with downLink := true } (.downFrameArrival [9#8] true)).upQueue = [[9#8]] := by decide +kernel

theorem test_upTransmitComplete_sends_next :
    (after { upBusy with upQueue := [[9#8]] } .upTransmitComplete).upTx = some (.forward [9#8]) := by decide +kernel

theorem test_downTransmitComplete_sends_next :
    let t := after { State.reset with downLink := true, downTx := some [1#8], downQueue := [[2#8, 3#8]] } .downTransmitComplete
    t.downTx = some [2#8, 3#8] ∧ t.downWire.map (fun w => (w.length, w.take 2)) = some (6, [2#8, 3#8]) := by decide +kernel

/-- UNIT_RESET_APPLIED keeps unit time and settings and empties rings (R169). -/
theorem test_unitResetApplied :
    let s := { after State.reset (.characterCapture 3 0x41#8 false) with resetPhase := .due, unitTime := 500 }
    let t := after s .unitResetApplied
    (s.line 3).ring.newest = 1 ∧ (t.line 3).ring.newest = 0 ∧ t.unitTime = 500 ∧ t.resetPhase = .idle := by
  decide +kernel

/-- UNIT STATUS answers 102 bytes (section 11.3). -/
theorem test_unitStatus_length :
    (answerOf (afterRequest State.reset .unitStatus (frameFor 0x01 255 5 []))).map (fun a => (a.1, a.2.length)) =
      some (some .ok, 102) := by decide +kernel

/-- A unit record with keep 241 and fill limit 0: both clamped (R165). -/
theorem test_unitSet_clamps :
    let body := beBytes 6 0x0F4E4A000000 ++ beBytes 2 0x88B6 ++ beBytes 6 0x0E4E4A000009 ++ beBytes 6 0
      ++ [0#8, 1#8, 241#8, 0#8, 35#8, 0#8] ++ zeros 24
    let t := afterRequest State.reset .unitSet (frameFor 0x02 255 5 body)
    statusOf t = some .adjusted ∧ t.unit.keep = 240 ∧ t.unit.fillLimit = 1 ∧ t.unit.policy = .recycle
      ∧ t.unit.station = 0x0E4E4A000009 := by decide +kernel

theorem test_setTime :
    let t := afterRequest { State.reset with unitTime := 16 } .setTime (frameFor 0x03 255 5 [0#8, 0#8, 1#8, 0#8])
    t.unitTime = 256 ∧ answerOf t = some (some .ok, [0#8, 0#8, 0#8, 16#8, 0#8, 0#8, 1#8, 0#8]) := by decide +kernel

theorem test_unitReset_waits_for_response :
    let t := afterRequest { State.reset with upLink := true } .unitReset (frameFor 0x04 255 5 [])
    t.resetPhase = .answered ∧ (after t .upTransmitComplete).resetPhase = .due := by decide +kernel

/-- LINE READ answers 86 bytes, the line's number first and then the policy FIXED, index 4 twice (section 11.3). -/
theorem test_lineRead :
    (answerOf (afterRequest State.reset .lineRead (frameFor 0x10 255 5 [23#8]))).map
      (fun a => (a.1, a.2.length, a.2.take 4)) = some (some .ok, 86, [23#8, 0#8, 4#8, 4#8]) := by decide +kernel

/-- A line record whose ring grows to 17 KiB does not fit in capture memory (R50); one of 8 KiB does. -/
theorem test_lineSet_ring :
    let body (kib : Nat) : List Byte :=
      beBytes 1 5 ++ [0#8, 4#8, 4#8, 8#8, 0#8, 1#8, 1#8, 32#8, 5#8, 2#8, 1#8, 3#8, 0#8, 0#8, 0#8, 0#8, 0#8]
        ++ beBytes 2 300 ++ [0#8] ++ beBytes 1 kib ++ zeros 10 ++ [1#8]
    statusOf (afterRequest State.reset .lineSet (frameFor 0x11 255 5 (body 17))) = some .noRoom
      ∧ statusOf (afterRequest State.reset .lineSet (frameFor 0x11 255 5 (body 8))) = some .ok
      ∧ ((afterRequest State.reset .lineSet (frameFor 0x11 255 5 (body 8))).line 5).record.ringKiB = 8 := by
  decide +kernel

theorem test_lineEnable_off :
    let t := afterRequest (withLine 23 (lineIn .off)) .lineEnable (frameFor 0x12 255 5 [23#8])
    (t.line 23).state = .live ∧ statusOf t = some .ok := by decide +kernel

theorem test_lineDisable :
    let t := afterRequest State.reset .lineDisable (frameFor 0x13 255 5 [23#8])
    (t.line 23).state = .off ∧ (t.line 23).marks.getLast?.map (·.kind) = some .lineOff := by decide +kernel

theorem test_lineMeasure_idle_engine :
    let t := afterRequest State.reset .lineMeasure (frameFor 0x14 255 5 [0#8])
    (t.line 0).state = .measuring ∧ (t.line 0).tx = .probe .reset 9600 := by decide +kernel

theorem test_lineTest_enters_loop :
    let t := afterRequest State.reset .lineTest (frameFor 0x15 255 5 [3#8, 2#8, 0x55#8, 0xAA#8])
    (t.line 3).state = .loop ∧ (t.line 3).tx = .pattern 0x55#8 .reset ∧ t.responses = [] := by decide +kernel

theorem test_rateTableRead :
    (answerOf (afterRequest State.reset .rateTableRead (frameFor 0x16 255 5 []))).map
      (fun a => (a.1, a.2.take 8, a.2.drop 60)) =
    some (some .ok, [0#8, 0#8, 1#8, 0x2C#8, 0#8, 0#8, 4#8, 0xB0#8], [0#8, 0#8, 0#8, 0#8, 35#8]) := by decide +kernel

/-- Clearing the entry that every record names is refused BUSY; a rate of 299 OUT_OF_RANGE (R43). -/
theorem test_rateTableSet_refusals :
    statusOf (afterRequest State.reset .rateTableSet (frameFor 0x17 255 5 (zeros 64))) = some .busy
      ∧ statusOf (afterRequest State.reset .rateTableSet
          (frameFor 0x17 255 5 (zeros 16 ++ beBytes 4 9600 ++ beBytes 4 299 ++ zeros 40))) = some .outOfRange := by
  decide +kernel

theorem test_monitorRead :
    answerOf (afterRequest State.reset .monitorRead (frameFor 0x18 255 5 [0#8])) =
      some (some .ok, [0#8, 2#8, 6#8, 48#8, 64#8, 0#8, 160#8, 2#8, 3#8, 60#8, 0#8]
        ++ [0#8] ++ zeros 5 ++ [1#8] ++ zeros 8) := by decide +kernel

/-- A ce of 0 is stored as 1 and answered ADJUSTED (R76). -/
theorem test_monitorSet_clamps :
    let t := afterRequest State.reset .monitorSet
      (frameFor 0x19 255 5 [0#8, 0x80#8, 0#8, 1#8, 2#8, 6#8, 48#8, 64#8, 0#8, 160#8, 0#8, 3#8, 60#8, 0#8])
    statusOf t = some .adjusted ∧ (t.line 0).params.ce = 1 ∧ (t.line 23).params.ce = 1 ∧ (t.line 1).params.ce = 2 := by
  decide +kernel

/-- An empty line set is answered OK whatever the parameters, and changes nothing (R76). -/
theorem test_monitorSet_empty_set :
    let t := afterRequest State.reset .monitorSet (frameFor 0x19 255 5 (zeros 14))
    statusOf t = some .ok ∧ (t.line 0).params = (State.reset.line 0).params := by decide +kernel

theorem test_marksRead :
    (answerOf (afterRequest State.reset .marksRead (frameFor 0x1A 255 5 ([4#8] ++ zeros 6)))).map
      (fun a => (a.2.length, (a.2.drop 16).take 2)) = some (32, [1#8, 1#8]) := by decide +kernel

theorem test_eventsRead_unit :
    let t := afterRequest State.reset .eventsRead (frameFor 0x1B 255 5 [255#8])
    answerOf t = some (some .ok, [255#8, 0#8, 1#8] ++ zeros 10) ∧ t.unitSummary.kinds = 0 := by decide +kernel

theorem test_watchRead_length :
    (answerOf (afterRequest State.reset .watchRead (frameFor 0x20 255 5 [63#8]))).map (·.2.length) = some 234 := by
  decide +kernel

/-- A watch entry of one LITERAL with the actions MARK and HOLD_TYPE, hold seconds 0 stored as 1 (R91). -/
theorem test_watchSet :
    let t := afterRequest State.reset .watchSet (frameFor 0x21 255 5
      [9#8, 1#8, 1#8, 0#8, 0#8, 0#8, 0x40#8, 1#8, 0#8, 0#8, 0x11#8, 0#8, 0#8, 0#8, 0#8, 0#8, 0#8, 0x61#8])
    statusOf t = some .adjusted ∧ (t.entry 9).mark = true ∧ (t.entry 9).holdType = some 1
      ∧ (t.entry 9).lines = 0x40#24 ∧ (t.entry 9).pattern = [.literal 0x61#8 false] := by decide +kernel

theorem test_snapshotList_length :
    (answerOf (afterRequest State.reset .snapshotList (frameFor 0x28 255 5 []))).map (·.2.length) = some 228 := by
  decide +kernel

/-- A slot taken by request holds what the ring held; it is read, then freed (R102, R104, R105). -/
theorem test_snapshot_take_read_free :
    let s := after (after State.reset (.characterCapture 3 0x41#8 false)) (.characterCapture 3 0x42#8 false)
    let t := afterRequest s .snapshotTake (frameFor 0x2B 255 5 [3#8, 0#8, 16#8, 0#8, 0#8])
    let r := afterRequest t .snapshotRead (frameFor 0x29 255 5 [0#8, 0#8, 1#8, 0#8, 9#8])
    let f := afterRequest t .snapshotFree (frameFor 0x2A 255 5 [0#8])
    answerOf t = some (some .ok, [0#8]) ∧ (t.slot 0).state = .complete ∧ (t.slot 0).data = [0x41#8, 0x42#8]
      ∧ (answerOf r).map (·.2.drop 10) = some [0#8, 1#8, 0#8, 1#8, 0x42#8]
      ∧ f.slot 0 = .reset := by decide +kernel

/-- OPEN takes record 0; the gather of 65 is raised to 256 (R110). -/
theorem test_open_close :
    let t := afterRequest State.reset .openSession
      (frameFor 0x30 255 5 ([3#8, 1#8, 0#8, 0#8] ++ zeros 6 ++ [0#8, 65#8, 0#8, 100#8]))
    let c := afterRequest t .closeSession (frameFor 0x31 0 5 [])
    statusOf t = some .adjusted ∧ (t.session 0).gather = 256 ∧ (t.session 0).credit = 100
      ∧ (t.session 0).role = .typist ∧ statusOf c = some .ok ∧ c.session 0 = .reset := by decide +kernel

theorem test_seek_clamped :
    let s := after (State.reset.setSession 31 (typist 5 3 .operator)) (.characterCapture 3 0x41#8 false)
    let t := afterRequest s .seek (frameFor 0x32 31 5 [2#8, 0#8, 0#8, 0#8, 0#8, 0#8, 9#8])
    statusOf t = some .adjusted ∧ (t.session 31).cursor = 1 := by decide +kernel

/-- An OPEN that makes its session ready beside an idle UP: DATA alone is eligible then and goes out; the response
waits (R158). -/
theorem test_open_sends_data_first :
    let s := after { State.reset with upLink := true } (.characterCapture 3 0x41#8 false)
    let t := afterRequest s .openSession
      (frameFor 0x30 255 5 ([3#8, 0#8, 0#8, 1#8] ++ zeros 6 ++ [0#8, 1#8, 0#8, 100#8]))
    t.lastMember = .data ∧ (t.session 0).cursor = 1 ∧ t.upTx.isSome = true ∧ statusOf t = some .ok := by decide +kernel

theorem test_credit_saturates :
    let s := State.reset.setSession 0 { typist 5 3 .operator with credit := 65000 }
    let t := afterRequest s .credit (frameFor 0x40 0 5 [0xFF#8, 0xFF#8])
    (t.session 0).credit = 65535 ∧ t.responses = [] := by decide +kernel

/-- The SUPERVISOR takes the floor over from the OPERATOR, who receives LOST with reason TAKEOVER (R130, R133). -/
theorem test_floorRequest_takeover :
    let t := afterRequest (withFloor (.held 4) []) .floorRequest (frameFor 0x33 7 6 [1#8])
    (t.line 2).floor.state = .held 7 ∧ t.responses.length = 2 ∧ statusOf t = some .ok := by decide +kernel

/-- A waiting list served out of order: the SUPERVISOR behind an OPERATOR is granted first (R132). -/
theorem test_floorRelease_prefers_supervisor :
    let s := (withFloor (.held 9) [4, 7]).setSession 9 (typist 8 2 .operator)
    let t := afterRequest s .floorRelease (frameFor 0x34 9 8 [])
    (t.line 2).floor.state = .held 7 ∧ (t.line 2).floor.waiting = [4] := by decide +kernel

theorem test_type_starts_transmission :
    let t := afterRequest (withFloor (.held 4) []) .typeBytes (frameFor 0x35 4 5 [0#8, 2#8, 0x41#8, 0x42#8])
    answerOf t = some (some .ok, [0#8, 2#8]) ∧ (t.line 2).tx = .byte 0x41#8 .reset
      ∧ (t.line 2).injection = [.byte 0x42#8] ∧ (t.line 2).counters.bytesTyped = 2 := by decide +kernel

theorem test_sendBreak_clamped :
    let s := (withFloor (.held 4) []).modLine 2 fun u => { u with record := { u.record with breakPolicy := .holder } }
    let t := afterRequest s .sendBreak (frameFor 0x36 4 5 [0#8, 49#8])
    answerOf t = some (some .adjusted, [0#8, 50#8]) ∧ (t.line 2).tx = .breakSpace 50 := by decide +kernel

theorem test_unknownKind :
    statusOf (afterRequest State.reset .unknownKindRequest (frameFor 0x7F 255 5 [])) = some .unknownKind := by
  decide +kernel

/-- Under 7 data bits the captured byte's top bit is zero; even parity over three ones is wrong with the bit 0 (R9). -/
theorem test_characterCapture_parity :
    let s := withLine 3 fun u =>
      { u with record := { u.record with framing := { dataBits := .seven, parity := .even, stopBits := .one } } }
    let t := after s (.characterCapture 3 0xC3#8 false)
    (t.line 3).ring.bytes = [0x43#8] ∧ (t.line 3).counters.parityErrors = 1
      ∧ (t.line 3).counters.bytesCaptured = 1 := by decide +kernel

/-- The byte at offset 16,384 of a 16 KiB ring stands at place 0 of its share (R44). -/
theorem test_capture_storage_place :
    let s := withLine 3 fun u => { u with ring := { oldest := 0, newest := 16384, bytes := zeros 16384 } }
    let t := after s (.characterCapture 3 0x41#8 false)
    ((t.line 3).storedAt 0, (t.line 3).storedAt 1) = (some 0x41#8, some 0#8) := by decide +kernel

theorem test_framingErrorCapture :
    let t := after State.reset (.framingErrorCapture 3 0x00#8 false)
    (t.line 3).ring.newest = 1 ∧ (t.line 3).counters.framingErrors = 1 ∧ (t.line 3).monitor.errors = 1 := by
  decide +kernel

theorem test_breakIn :
    let t := after State.reset (.breakIn 3)
    (t.line 3).counters.breaksIn = 1 ∧ (t.line 3).ring.newest = 0
      ∧ (t.line 3).marks.getLast?.map (·.kind) = some .breakIn := by decide +kernel

/-- The second character of a two-byte pattern ends the test, the response carrying sent, matched and no mismatch
(R19, R20). -/
theorem test_loopCharacterReceived_completes :
    let t := after (looping 2 1 1 .idle) (.loopCharacterReceived 3 0xAA#8 false true)
    (t.line 3).state = .off ∧ answerOf t = some (some .ok, [2#8, 2#8, 255#8]) := by decide +kernel

theorem test_loopTestTimeout :
    let s := (looping 2 1 1 .idle).modLine 3 fun u =>
      { u with test := u.test.map fun x => { x with wait := some 0 } }
    answerOf (after s (.loopTestTimeout 3)) = some (some .ok, [2#8, 1#8, 1#8]) := by decide +kernel

/-- The pacing example of chapter 1: after CR the gap is the character gap plus the line gap (R15). -/
theorem test_byteTransmitted_cr_gap :
    let s := withLine 3 fun u =>
      { u with record := { u.record with charGap := 20, lineGap := 100 }, tx := .byte 0x0D#8 .reset }
    let t := after s (.byteTransmitted 3)
    (t.line 3).gap = some 120 ∧ (t.line 3).counters.bytesTransmitted = 1 := by decide +kernel

/-- A BREAK of 50 ms ends neither in the millisecond it begins nor in its space, and its mark takes a character time of
4800 parts of 4608 to the millisecond at 9600 bit/s (R7, R14). -/
theorem test_break_space_then_mark_then_next :
    let s := withLine 3 fun u => { u with tx := .breakSpace 0, injection := [.byte 0x41#8] }
    let begun := withLine 3 fun u => { u with tx := .breakSpace 50 }
    let t := after s (.breakSpaceEnd 3)
    (t.line 3).tx = .breakMark 4800 ∧ after t (.breakOutEnd 3) = t
      ∧ ((after (tick t) (.breakOutEnd 3)).line 3).tx = .byte 0x41#8 .reset
      ∧ after begun (.breakSpaceEnd 3) = begun ∧ after begun (.breakOutEnd 3) = begun := by decide +kernel

theorem test_pacingGapExpiry :
    let s := withLine 3 fun u => { u with gap := some 0, injection := [.byte 0x41#8] }
    ((after s (.pacingGapExpiry 3)).line 3).tx = .byte 0x41#8 .reset := by decide +kernel

theorem test_holdExpiry :
    let s := withLine 3 fun u => { u with hold := some 0, injection := [.byte 0x41#8] }
    ((after s (.holdExpiry 3)).line 3).tx = .byte 0x41#8 .reset := by decide +kernel

/-- The widths 1531 and 3072 match 9600 and 4800 bit/s (R33). -/
theorem test_edgeCountReached_matches :
    ((after (measuring 3 31 (some 1531)) (.edgeCountReached ⟨3, 0, 5000⟩)).line 3).current = some { index := 4, rate := 9600 }
      ∧ ((after (measuring 3 31 (some 9000)) (.edgeCountReached ⟨3, 0, 3072⟩)).line 3).current =
          some { index := 3, rate := 4800 } := by decide +kernel

/-- The width 2302 matches no entry under tolerance 35: the first attempt fails and the line is measured again (R33,
R35). -/
theorem test_edgeCountReached_no_match :
    let t := after (measuring 3 31 (some 2302)) (.edgeCountReached ⟨3, 0, 5000⟩)
    (t.line 3).attempts = 1 ∧ (t.line 3).state = .measuring := by decide +kernel

theorem test_measureWindowExpiry_final :
    let s := windowOver ((measuring 3 0 none).modLine 3 fun u => { u with attempts := 1 })
    let t := after s .measureWindowExpiry
    (t.line 3).state = .live ∧ (t.line 3).summary.reasons = 1#3 := by decide +kernel

/-- The window of a measurement that its S-th edge has ended has no effect on the next line's (R31). -/
theorem test_measureWindowExpiry_after_last_edge :
    let s := windowOver ({ measuring 3 31 (some 1531) with probeQueue := [5] }.modLine 5 (lineIn .queued))
    let t := after s (.edgeCountReached ⟨3, 0, 5000⟩)
    (t.line 5).state = .measuring ∧ after t .measureWindowExpiry = t := by decide +kernel

/-- An edge after 65,535 periods at space finds the attempt failed BREAK and taken up again (R32, R35). -/
theorem test_measureEdge_after_break :
    let s := (measuring 3 1 none).modLine 3 fun u => { u with rxd := .space }
    let t := after s (.measureEdge ⟨3, 0, 70000⟩)
    (t.line 3).attempts = 1 ∧ t.engine.map (fun m => (m.number, m.edgeCount, m.narrowest)) = some (1, 1, none) := by
  decide +kernel

/-- 50,790 periods and a millisecond's 14,745 make a break (R32); a period fewer does not. -/
theorem test_measureBreak_final :
    let s := pulseOf 50790 ((measuring 3 1 none).modLine 3 fun u => { u with attempts := 1, rxd := .space })
    ((after s .measureBreak).line 3).summary.reasons = 2#3
      ∧ after (pulseOf 50789 s) .measureBreak = pulseOf 50789 s := by decide +kernel

/-- The first expiry of a line seeds both averages with 16 times the count (R64). -/
theorem test_sampleExpiry_seeds :
    let s := withLine 3 fun u => { u with monitor := { u.monitor with chars := 20, sampleLeft := some 0 } }
    let t := after s (.sampleExpiry 3)
    (t.line 3).monitor.fast = 320 ∧ (t.line 3).monitor.long = 320 ∧ (t.line 3).monitor.seedPending = false := by
  decide +kernel

theorem test_burstTimeout :
    let s := withLine 3 fun u =>
      { u with
        monitor := { u.monitor with state := .burst, fast := 5600, long := 343, burstLeft := some 0 }
        floor := { u.floor with busy := true } }
    let t := after s (.burstTimeout 3)
    (t.line 3).monitor.state = .quiet ∧ (t.line 3).monitor.long = 5600 ∧ (t.line 3).floor.busy = false
      ∧ (t.line 3).marks.getLast?.map (fun m => (m.kind, m.arg)) = some (.burstEnd, 1) := by decide +kernel

theorem test_holdoffExpiry :
    let s := withLine 3 fun u => u.setPair 9 { hits := 1, holdoff := some 0, fires := 1 }
    (((after s (.holdoffExpiry 9 3)).line 3).pair 9) = { hits := 1, holdoff := none, fires := 1 } := by decide +kernel

theorem test_fillLimitExpiry :
    let s := afterRequest State.reset .snapshotTake (frameFor 0x2B 255 5 [3#8, 0#8, 0#8, 0#8, 9#8])
    let t := after (s.setSlot 0 { s.slot 0 with fillLeft := some 0 }) (.fillLimitExpiry 0)
    (s.slot 0).state = .filling ∧ (t.slot 0).state = .complete ∧ (t.slot 0).truncated = true := by decide +kernel

/-- The settled flag makes a session with gather 1024 ready, and the idle transmitter takes its frame (R121, R122). -/
theorem test_gatherTimerExpiry_delivers :
    let s := { State.reset with upLink := true }.setSession 0
      { typist 5 3 .operator with gather := 1024, credit := 2000 }
    let s := after s (.characterCapture 3 0x41#8 false)
    let t := after (s.modLine 3 fun u => { u with gather := some 4607 }) (.gatherTimerExpiry 3)
    s.upTx = none ∧ t.upTx.isSome = true ∧ (t.session 0).cursor = 1 ∧ (t.session 0).credit = 1999 := by decide +kernel

/-- A byte captured before the gather expiry starts the timer afresh, and the line stays unsettled (R120). -/
theorem test_gatherTimerExpiry_after_byte :
    let s := after (withLine 3 fun u => { u with settled := false, gather := some 0 }) (.characterCapture 3 0x41#8 false)
    after s (.gatherTimerExpiry 3) = s ∧ (s.line 3).settled = false := by decide +kernel

/-- A message of the session's origin taken before the keep expiry refreshes it, and the expiry does not occur (R116). -/
theorem test_keepTimerExpiry_after_message :
    let s := { (withFloor (.held 4) []).modSession 4 fun r => { r with keepLeft := some 0 } with
      unit := { UnitRecord.reset with keep := 1 } }
    let t := afterRequest s .floorRelease (frameFor 0x34 4 5 [])
    (t.session 4).keepLeft = some 60000 ∧ after t (.keepTimerExpiry 4) = t := by decide +kernel

/-- Keep expiry of a floor holder with a waiter: LOST to the holder, then GRANTED to the waiter (R116, R135). -/
theorem test_keepTimerExpiry_of_holder :
    let s := (withFloor (.held 4) [7]).modSession 4 fun r => { r with keepLeft := some 0 }
    let t := after s (.keepTimerExpiry 4)
    t.session 4 = .reset ∧ (t.line 2).floor.state = .held 7 ∧ t.responses.length = 2 := by decide +kernel

theorem test_idleExpiry_parks :
    let s := (idleOut (withFloor (.held 4) [])).modLine 2 fun u => { u with record := { u.record with parkMode := .last } }
    ((after s (.idleExpiry 2)).line 2).floor.state = .parked 4 := by decide +kernel

theorem test_attendanceExpiry :
    let s := { withFloor (.held 4) [7] with
      unit := { UnitRecord.reset with period := .s10 }
      attendance := { state := .attended, left := some 0, lapses := 0 } }
    let t := after s .attendanceExpiry
    t.attendance.state = .unattended ∧ (t.line 2).floor.state = .free ∧ t.responses.length = 1 := by decide +kernel

/-- A lapse that takes 17 floors beside an idle UP: one LOST notice goes out at once and the other 16 find places (R158,
R162, R171). -/
theorem test_attendanceExpiry_grants_at_once :
    let held := (List.finRange 17).foldl (fun (s : State) i =>
      (s.modLine (i.castLE (by decide)) fun u =>
        { u with floor := { u.floor with state := .held (i.castLE (by decide)), idle := .running 300000 } }).setSession
          (i.castLE (by decide)) (typist 5 (i.castLE (by decide)) .operator)) State.reset
    let s := { held with
      upLink := true
      unit := { UnitRecord.reset with period := .s10 }
      attendance := { state := .attended, left := some 0, lapses := 0 } }
    let t := after s .attendanceExpiry
    t.responses.length = 16 ∧ t.counters.responseDrops = 0 ∧ t.lastMember = .responses := by decide +kernel

/-- A pulse is as wide as its periods; one that begins 14,000 periods into a millisecond of 14,745 and ends 300 into the
next is 1,045 wide (R30). -/
theorem test_measureEdge_counts :
    let one := after (measuring 3 1 none) (.measureEdge ⟨3, 0, 1536⟩)
    let s := after (measuring 3 0 none) (.measureEdge ⟨3, 0, 14000⟩)
    let t := after (nextOf (step s)) (.measureEdge ⟨3, 0, 300⟩)
    one.engine.map (fun m => (m.edgeCount, m.narrowest)) = some (2, some 1536)
      ∧ t.engine.map (·.narrowest) = some (some 1045) := by decide +kernel

theorem test_startEdge_noise :
    ((after State.reset (.startEdge 3 false)).line 3).rx = .waiting
      ∧ ((after State.reset (.startEdge 3 true)).line 3).rx = .assembling .reset := by decide +kernel

/-- A falling edge inside a character is the pin's level when LIVE is entered again: space is no edge there (R11). -/
theorem test_startEdge_while_assembling :
    let s := after (after (after State.reset (.startEdge 3 true)) (.rxdReturnToMark 3)) (.startEdge 3 true)
    let off := afterRequest s .lineDisable (frameFor 0x13 255 5 [3#8])
    ((afterRequest off .lineEnable (frameFor 0x12 255 5 [3#8])).line 3).rx = .awaitMark := by decide +kernel

theorem test_rxdReturnToMark_after_break :
    ((after (after State.reset (.breakIn 3)) (.rxdReturnToMark 3)).line 3).rx = .waiting := by decide +kernel

theorem test_probeCharacterEnd :
    let s := (measuring 3 0 none).modLine 3 fun u => { u with tx := .probe .reset 9600 }
    ((after s .probeCharacterEnd).line 3).tx = .idle := by decide +kernel

theorem test_patternByteSent_sends_next :
    ((after (looping 0 0 0 (.pattern 0x55#8 .reset)) (.patternByteSent 3)).line 3).tx = .pattern 0xAA#8 .reset := by
  decide +kernel

/-- With no command waiting a millisecond passes (assumption log 2). -/
theorem test_empty_queue_ticks : (nextOf (step State.reset)).unitTime = 1 := by decide +kernel


/-! ### A part at work, and the laws it obeys -/

/-- A TYPE session that has credit and takes every byte at once. -/
def eager (origin : Addr) (l : LineNo) (c : SessionClass) : Session := { typist origin l c with credit := 1 }

/-- A part at work: line 2 has captured a byte, its floor is held by session 4 with session 7 waiting, and its snapshot
slot fills; line 19 is DARK, 20 QUEUED, 21 MEASURING, 22 in LOOP and 23 OFF. -/
def work : State :=
  let s := after ((withFloor (.held 4) [7]).setSession 4 (eager 5 2 .operator)) (.characterCapture 2 0x41#8 false)
  let s := afterRequest s .snapshotTake (frameFor 0x2B 255 5 [2#8, 0#8, 1#8, 0#8, 9#8])
  let s := ((((s.modLine 19 (lineIn .dark)).modLine 20 (lineIn .queued)).modLine 21 (lineIn .measuring)).modLine 22
    fun _ => (looping 1 0 0 (.pattern 0xAA#8 .reset)).line 3).modLine 23 (lineIn .off)
  { s with responses := [], probeQueue := [20], begun := 1, engine := (measuring 21 31 (some 2302)).engine }

/-- The part at work with a byte of line 2 waiting to be captured. -/
def sample : State := { work with pending := [.characterCapture 2 0x42#8 false] }

/-- Every command answers a next state. -/
theorem exec_answers (c : Instr) (s : State) : exec c s = .next (after s c) := by cases c <;> rfl

/-- Every step answers a next state. -/
theorem step_answers (s : State) : ∃ t, step s = .next t := by
  unfold step
  split
  · exact ⟨_, rfl⟩
  · exact ⟨_, exec_answers _ _⟩

/-- A law about the value an option may hold, from a check of it. -/
theorem all_some {α : Type} {o : Option α} {p : α → Prop} [DecidablePred p]
    (h : o.all (fun a => decide (p a)) = true) : ∀ a, o = some a → p a := by
  intro a ha
  subst ha
  simpa using h

/-- Whether the transmitter is as the line state lets it be. -/
def txOk (u : Line) : Bool :=
  match u.state, u.tx with
  | _, .idle => true
  | .live, .byte _ _ | .live, .breakSpace _ | .live, .breakMark _ => true
  | .measuring, .probe _ _ => true
  | .loop, .pattern _ _ => true
  | _, _ => false

theorem txLaw_of {u : Line} (h : txOk u = true) : u.txLaw := by
  unfold txOk at h
  unfold Line.txLaw
  split <;> simp_all

/-- Whether a slot's fields are as its state says. -/
def slotStateOk (k : Slot) : Bool :=
  match k.state with
  | .free => decide (k = .reset)
  | .filling => decide (k.postHeld < k.postTarget ∧ k.truncated = false ∧ k.fillLeft.isSome = true ∧ k.cause.isSome = true)
  | .complete =>
    decide ((k.truncated = true ↔ k.postHeld < k.postTarget) ∧ k.fillLeft = none ∧ k.cause.isSome = true)

theorem slotLaw_of {k : Slot}
    (h : k.data.length = k.preHeld + k.postHeld ∧ k.postHeld ≤ k.postTarget
      ∧ k.preHeld + k.postTarget ≤ Config.slotBytes ∧ k.retriggers ≤ 65535 ∧ slotStateOk k = true) : k.law := by
  obtain ⟨h1, h2, h3, h4, h5⟩ := h
  refine ⟨h1, h2, h3, h4, ?_⟩
  unfold slotStateOk at h5
  split <;> simp_all

/-- Whether the idle timer is as the floor says. -/
def idleOk (u : Line) : Bool :=
  match u.floor.state, u.floor.idle with
  | .free, i => decide (i = .stopped)
  | .parked _, i => decide (i = .stopped)
  | .held _, .running _ => decide (u.record.floorIdle ≠ 0 ∧ u.floor.busy = false)
  | .held _, .stopped => decide (u.record.floorIdle = 0)
  | .held _, .heldStill => decide (u.record.floorIdle ≠ 0) && u.floor.busy

theorem idleLaw_of {u : Line} (h : idleOk u = true) : u.idleLaw := by
  unfold idleOk at h
  unfold Line.idleLaw
  split at h <;> simp_all

/-- Whether the holder or parked session may stand there. -/
def standingOk (s : State) (l : LineNo) : Bool :=
  let speaks (i : SessionNo) : Bool :=
    (s.session i).isOpen && decide ((s.session i).role = .typist ∧ (s.session i).line = l)
  let f := (s.line l).floor
  decide f.waiting.Nodup && f.waiting.all speaks
    && (match f.state with
      | .free => f.waiting.isEmpty
      | .parked p => speaks p && f.waiting.isEmpty
      | .held h => speaks h && decide (h ∉ f.waiting))

theorem floorLaw_of {s : State} {l : LineNo} (h : standingOk s l = true) : s.floorLaw l := by
  unfold standingOk at h
  unfold State.floorLaw
  cases hf : (s.line l).floor.state <;> simp_all [State.maySpeak, and_assoc]

theorem floorClosedLaw_of {u : Line}
    (h : u.state = .off ∨ u.state = .dark ∨ u.test.any (fun t => decide (t.prior = .off)) = true →
      u.floor.state = .free) : u.floorClosedLaw := by
  intro hu
  apply h
  rcases hu with hu | hu | ⟨t, ht, hp⟩
  · exact .inl hu
  · exact .inr (.inl hu)
  · exact .inr (.inr (by simp [ht, hp]))

theorem sample_storeLaw : sample.storeLaw := by
  unfold State.storeLaw Line.ringLaw Line.markLaw
  decide +kernel

theorem sample_cursorLaw : sample.cursorLaw := by
  unfold State.cursorLaw
  decide +kernel

theorem sample_sessions : ∀ i, (sample.session i).inRange := by
  unfold Session.inRange
  decide +kernel

theorem sample_linesLaw : sample.linesLaw := by
  refine ⟨fun l => ⟨?_, ?_, ?_, ?_, txLaw_of ?_, ?_⟩, ?_, ?_, ?_, ?_⟩
  all_goals try unfold Line.stillLaw
  all_goals first | (revert l; decide +kernel) | decide +kernel

/-- A part whose engine idles, line 19 DARK. -/
def darkLine : State := withLine 19 (lineIn .dark)

theorem darkLine_linesLaw : darkLine.linesLaw := by
  refine ⟨fun l => ⟨?_, ?_, ?_, ?_, txLaw_of ?_, ?_⟩, ?_, ?_, ?_, ?_⟩
  all_goals try unfold Line.stillLaw
  all_goals first | (revert l; decide +kernel) | decide +kernel

theorem sample_attempts : sample.attemptsLaw := by
  unfold State.attemptsLaw
  decide +kernel

theorem sample_counts : (∀ l, (sample.line l).countsLaw) ∧ sample.hitsLaw := by
  unfold Line.countsLaw State.hitsLaw Monitor.inRange
  decide +kernel

theorem sample_configLaw : sample.configLaw := by
  refine ⟨fun l => ⟨⟨?_, ?_, ?_, ?_, ?_, ?_, ?_, ?_, all_some ?_, all_some ?_⟩, ?_⟩, fun i => ⟨?_, ?_, ?_, ?_, ?_,
    all_some ?_, all_some ?_⟩, ?_, ?_, ?_⟩
  all_goals try unfold MonitorParams.inRange
  all_goals try unfold UnitRecord.inRange
  all_goals first | (revert l; decide +kernel) | (revert i; decide +kernel) | decide +kernel

theorem sample_slotsLaw : sample.slotsLaw := by
  refine ⟨fun k => slotLaw_of ?_, ?_, ?_⟩
  all_goals first | (revert k; decide +kernel) | decide +kernel

theorem sample_floorsLaw : sample.floorsLaw := by
  refine fun l => ⟨floorLaw_of ?_, idleLaw_of ?_, floorClosedLaw_of ?_, ?_⟩ <;> (revert l; decide +kernel)

theorem sample_attendanceLaw : sample.attendanceLaw := by
  unfold State.attendanceLaw
  decide +kernel

theorem sample_summariesLaw : sample.summariesLaw := by
  unfold State.summariesLaw LineSummary.law
  decide +kernel

theorem sample_queuesLaw : sample.queuesLaw := by
  unfold State.queuesLaw
  decide +kernel

theorem sample_transmitLaw : sample.transmitLaw := by
  refine ⟨fun h => absurd h (by decide +kernel), by decide +kernel⟩

/-! ### Witnesses: the premises of the statements are met -/

/-- The premises of a law that every step keeps, at the part at work. -/
theorem stepped {P : State → Prop} (h : P sample) : ∃ s t, P s ∧ step s = .next t :=
  ⟨sample, (step_answers sample).choose, h, (step_answers sample).choose_spec⟩

theorem witness_StoreLawKept : ∃ s t, s.storeLaw ∧ step s = .next t := stepped sample_storeLaw

theorem witness_CursorLawKept : ∃ s t, (s.storeLaw ∧ s.cursorLaw) ∧ step s = .next t :=
  stepped (P := fun s => s.storeLaw ∧ s.cursorLaw) ⟨sample_storeLaw, sample_cursorLaw⟩

theorem witness_SessionRangesKept : ∃ s t, (∀ i, (s.session i).inRange) ∧ step s = .next t :=
  stepped (P := fun s => ∀ i, (s.session i).inRange) sample_sessions

theorem witness_LineStatesKept : ∃ s t, s.linesLaw ∧ step s = .next t := stepped sample_linesLaw

theorem witness_LineCountsKept :
    (∃ s t, (s.configLaw ∧ (∀ l, (s.line l).countsLaw) ∧ s.hitsLaw) ∧ step s = .next t)
      ∧ ∃ s t, (s.linesLaw ∧ s.attemptsLaw) ∧ step s = .next t :=
  ⟨stepped (P := fun s => s.configLaw ∧ (∀ l, (s.line l).countsLaw) ∧ s.hitsLaw) ⟨sample_configLaw, sample_counts⟩,
    stepped (P := fun s => s.linesLaw ∧ s.attemptsLaw) ⟨sample_linesLaw, sample_attempts⟩⟩

theorem witness_ConfigurationKept : ∃ s t, s.configLaw ∧ step s = .next t := stepped sample_configLaw

theorem witness_SlotsKept :
    ∃ s t, (s.storeLaw ∧ s.linesLaw ∧ s.configLaw ∧ s.slotsLaw) ∧ step s = .next t :=
  stepped (P := fun s => s.storeLaw ∧ s.linesLaw ∧ s.configLaw ∧ s.slotsLaw)
    ⟨sample_storeLaw, sample_linesLaw, sample_configLaw, sample_slotsLaw⟩

theorem witness_FloorsKept : ∃ s t, (s.linesLaw ∧ s.floorsLaw) ∧ step s = .next t :=
  stepped (P := fun s => s.linesLaw ∧ s.floorsLaw) ⟨sample_linesLaw, sample_floorsLaw⟩

theorem witness_AttendanceKept : ∃ s t, s.attendanceLaw ∧ step s = .next t := stepped sample_attendanceLaw

theorem witness_SummariesKept : ∃ s t, s.summariesLaw ∧ step s = .next t := stepped sample_summariesLaw

theorem witness_QueuesKept : ∃ s t, s.queuesLaw ∧ step s = .next t := stepped sample_queuesLaw

theorem witness_TransmittersNeverIdle : ∃ s t, s.transmitLaw ∧ step s = .next t := stepped sample_transmitLaw

theorem witness_HistoryAndSummariesOnlyGrow :
    ∃ (s t : State) (c : Instr), s.storeLaw ∧ (∀ straps, c ≠ .powerOn straps) ∧ c ≠ .unitResetApplied ∧ c ≠ .eventsRead
      ∧ exec c s = .next t ∧ (s.line 2).summary.kinds ≠ 0 ∧ (s.line 2).summary.has .rateSet = true
      ∧ s.unitSummary.kinds ≠ 0 :=
  ⟨sample, _, .breakIn 2, sample_storeLaw, by simp, by simp, by simp, exec_answers _ _, by decide +kernel,
    by decide +kernel, by decide +kernel⟩

/-- A request that passes the engine's checks, and what else a statement assumes of it. -/
theorem meets {k : RequestKind} {P : State → Request → Prop} (s : State) (f : Frame)
    (h : RequestKind.ofCode (frameKind f) = some k ∧ (asked s f).mayTake k = true
      ∧ (asked s f).engineCheck k (Request.ofFrame f) = none)
    (hp : P (asked s f) (Request.ofFrame f)) : ∃ (s : State) (rq : Request) (rest : List Frame), s.admits k rq rest ∧ P s rq :=
  ⟨asked s f, Request.ofFrame f, [], ⟨⟨f, rfl, rfl, h.1, h.2.1⟩, h.2.2⟩, hp⟩

/-- A request that the engine may take, and what else a statement assumes of it. -/
theorem offered {k : RequestKind} {P : State → Request → Prop} (s : State) (f : Frame)
    (h : RequestKind.ofCode (frameKind f) = some k ∧ (asked s f).mayTake k = true)
    (hp : P (asked s f) (Request.ofFrame f)) : ∃ (s : State) (rq : Request) (rest : List Frame), s.offers k rq rest ∧ P s rq :=
  ⟨asked s f, Request.ofFrame f, [], ⟨f, rfl, rfl, h.1, h.2⟩, hp⟩

/-- Whether a frame asks for a kind that the engine may take, the request and the state being as `p` says. -/
def tried (s : State) (k : RequestKind) (f : Frame) (p : State → Request → Bool) : Bool :=
  decide (RequestKind.ofCode (frameKind f) = some k) && (asked s f).mayTake k && p (asked s f) (Request.ofFrame f)

/-- Whether it passes the engine's checks besides. -/
def passes (s : State) (k : RequestKind) (f : Frame) (p : State → Request → Bool) : Bool :=
  tried s k f fun s rq => decide (s.engineCheck k rq = none) && p s rq

theorem offered_of_tried {s : State} {k : RequestKind} {f : Frame} {p : State → Request → Bool}
    (h : tried s k f p = true) : ∃ (s : State) (rq : Request) (rest : List Frame), s.offers k rq rest ∧ p s rq = true := by
  simp only [tried, Bool.and_eq_true, decide_eq_true_eq] at h
  exact offered s f h.1 h.2

theorem admitted_of_passes {s : State} {k : RequestKind} {f : Frame} {p : State → Request → Bool}
    (h : passes s k f p = true) : ∃ (s : State) (rq : Request) (rest : List Frame), s.admits k rq rest ∧ p s rq = true := by
  simp only [passes, tried, Bool.and_eq_true, decide_eq_true_eq] at h
  exact meets s f ⟨h.1.1, h.1.2, h.2.1⟩ h.2.2

theorem witness_EmptyQueuePassesMillisecond : State.reset.pending = [] := rfl

/-- Every line under AUTO. -/
def allAuto : State :=
  { State.reset with lines := State.reset.lines.map fun u => { u with record := { u.record with policy := .auto } } }

theorem witness_UnitResetAppliedState :
    (let s := { sample with resetPhase := .due }
     s.resetPhase = .due ∧ s.upLink = false ∧ s.unit.collector = 0 ∧ (s.line 23).record.policy = .fixed
        ∧ s.abortedTests ≠ [] ∧ (s.slot 0).state = .filling ∧ (s.slot 7).state ≠ .filling
        ∧ ∀ k, (s.slot k).state = .filling → (s.slot k).line ≠ 23)
      ∧ (let s := { sample with resetPhase := .due, upLink := true }
        s.upTx = none ∧ s.waitingTests ++ s.abortedTests ≠ [])
      ∧ (let s := { upBusy with resetPhase := .due, upTx := none }
        s.upLink = true ∧ s.waitingTests ++ s.abortedTests = [] ∧ s.unit.collector = 0)
      ∧ (let s := { allAuto with resetPhase := .due }
        s.resetPhase = .due ∧ (s.line 0).record.policy = .auto ∧ (s.line 23).record.policy = .auto
          ∧ ((List.finRange 24).filter fun l => decide ((s.line l).record.policy = .auto)).head? = some 0)
      ∧ (let s := { sample with resetPhase := .due }
        (s.line 2).record.policy = .fixed ∧ (s.slot 0).state = .filling ∧ (s.slot 0).line = 2
          ∧ (s.line 2).rxd = .mark ∧ s.unit.period = .off)
      ∧ (let s := { (allAuto.modLine 0 fun u => { u with rxd := .space, record := { u.record with probe := .cr } }) with
          resetPhase := .due, slots := State.reset.slots.set 0 { Slot.reset with state := .filling, line := 0 }
          unit := { UnitRecord.reset with period := .s300 } }
        (s.line 0).record.probe = .cr ∧ (s.line 0).rxd = .space ∧ (s.slot 0).state = .filling ∧ (s.slot 0).line = 0
          ∧ s.unit.period = .s300) := by
  decide +kernel

/-- The DOWN link up, its transmitter sending. -/
def downBusy : State := { upBusy with downLink := true, downTx := some [1#8] }

/-- A response frame. -/
def someResponse : OutFrame := State.reset.ownFrame 5 0x84#8 255#8 7 (some .ok) []

theorem witness_LinkDownLosesFrames :
    (upBusy.upLink = true ∧ upBusy.unit.collector = 0)
      ∧ (let s := { upBusy with upTx := some (.response someResponse true), resetPhase := .answered }
        s.upLink = true ∧ s.upTx = some (.response someResponse true))
      ∧ (downBusy.downLink = true ∧ downBusy.upFree = false ∧ downBusy.unit.collector = 0)
      ∧ State.reset.upLink = false ∧ State.reset.downLink = false := by decide +kernel

theorem witness_TransmittersGoOn :
    State.reset.upLink = false
      ∧ (State.reset.downLink = false ∧ State.reset.downTx = none ∧ State.reset.downQueue = [])
      ∧ (∃ f, upBusy.upTx = some f ∧ f.isReset = false)
      ∧ (∃ (s : State) (f : UpFrame), s.upTx = some f ∧ f.isReset = true)
      ∧ (∃ f, downBusy.downTx = some f ∧ downBusy.downQueue = [])
      ∧ (∃ (s : State) (f g : Frame) (rest : List Frame), s.downTx = some f ∧ s.downLink = true
          ∧ s.downQueue = g :: rest)
      ∧ someResponse.status = some .ok ∧ (State.reset.ownFrame 5 0xC1#8 255#8 0 none []).status = none
      ∧ downBusy.downTx = some [1#8] ∧ upBusy.upTx = some (.forward [0#8])
      ∧ (zeros 1024).length < 65536
      ∧ (Request.ofFrame (frameFor 0x7F 255 5 [])).kind.toNat < 0x80 ∧ (Reply.mk .ok [] false).resets = false
      ∧ (7 : SessionNo) ∉ ((withFloor (.held 4) []).line 2).floor.waiting
      ∧ ((withFloor (.parked 9) [4, 7, 5]).line 2).floor.waiting = [4] ++ 7 :: [5] ∧ (7 : SessionNo) ∉ [(4 : SessionNo)] :=
  ⟨rfl, ⟨rfl, rfl, rfl⟩, ⟨_, rfl, rfl⟩, ⟨{ upBusy with upTx := some (.response someResponse true) }, _, rfl, rfl⟩,
    ⟨_, rfl, rfl⟩, ⟨{ downBusy with downQueue := [[2#8]] }, _, _, _, rfl, rfl, rfl⟩,
    rfl, rfl, rfl, rfl, by decide +kernel, by decide +kernel, rfl, by decide +kernel, by decide +kernel, by decide⟩

theorem witness_TransmittersGoOn_fields :
    6 + 2 ≤ (frameFor 0x01 255 5 []).length ∧ beBytes 4 0x12345678 = [0x12, 0x34, 0x56, 0x78] := by decide +kernel

/-- A request read back from its frame, with filling behind its body (section 11.2). -/
theorem test_request_of_frame :
    Request.ofFrame (frameFor 0x35 4 5 [0#8, 1#8, 0x41#8] ++ zeros 9)
      = { origin := 5, kind := 0x35#8, session := 4#8, tag := 7, body := [0#8, 1#8, 0x41#8] } := by decide +kernel

/-- A chain message for unit 2, and one for every unit. -/
def frameToUnit (unit : Byte) : Frame := (frameFor 0x01 255 5 []).set 15 unit

/-- A chain message holds a whole header at the unit's group address and EtherType (R155); its version is 1 and its body
length at most the bytes that follow (R160). -/
theorem test_chain_message_header :
    let f := frameFor 0x01 255 5 [0#8]
    State.reset.isChainMessage (f.take 22) = true ∧ State.reset.isChainMessage (f.take 21) = false
      ∧ State.reset.isChainMessage (f.set 5 1#8) = false ∧ State.reset.isChainMessage (f.set 13 0xB7#8) = false
      ∧ frameHeaderGood f = true ∧ frameHeaderGood (f.take 22) = false ∧ frameHeaderGood (f ++ [0#8]) = true
      ∧ frameHeaderGood (f.set 14 0#8) = false := by decide +kernel

theorem witness_ArrivalsSorted :
    (downBusy.upLink = true ∧ downBusy.unitNumber ≠ 0)
      ∧ (let f := frameToUnit 1#8
        upBusy.upLink = true ∧ upBusy.isChainMessage f = true ∧ frameUnitField f = upBusy.unitNumber.toNat
          ∧ frameHeaderGood f = true ∧ upBusy.requests.length < 8 ∧ upBusy.unit.period = .off)
      ∧ (let f := frameToUnit 1#8
        let s := { upBusy with unit := { UnitRecord.reset with period := .s10 } }
        s.isChainMessage f = true ∧ frameUnitField f = s.unitNumber.toNat ∧ s.unit.period ≠ .off)
      ∧ (let f := frameToUnit 1#8
        let s := { upBusy with requests := List.replicate 8 f }
        s.upLink = true ∧ s.isChainMessage f = true ∧ frameUnitField f = s.unitNumber.toNat ∧ frameHeaderGood f = true
          ∧ 8 ≤ s.requests.length)
      ∧ (let f := (frameToUnit 1#8).set 14 2#8
        upBusy.isChainMessage f = true ∧ frameUnitField f = upBusy.unitNumber.toNat ∧ frameHeaderGood f = false)
      ∧ ([zeros 60, frameToUnit 2#8, frameToUnit 0#8].all fun f =>
        !(downBusy.isChainMessage f && decide (frameUnitField f = downBusy.unitNumber.toNat))) = true
      ∧ (downBusy.downLink = true ∧ downBusy.downTx ≠ none
        ∧ ({ downBusy with downQueue := List.replicate 7 [9#8] } : State).downQueue.length < 8)
      ∧ (let s := { upBusy with downLink := true }
        s.downLink = true ∧ s.downTx = none ∧ s.downQueue = [])
      ∧ (let s := { downBusy with downQueue := List.replicate 8 [9#8] }
        s.upLink = true ∧ s.downLink = true ∧ 8 ≤ s.downQueue.length)
      ∧ (upBusy.upLink = true ∧ upBusy.downLink = false)
      ∧ (let s := { downBusy with upQueue := List.replicate 7 [9#8] }
        s.downLink = true ∧ s.upLink = true ∧ s.upQueue.length < 8)
      ∧ (let s := { downBusy with upQueue := List.replicate 8 [9#8] }
        s.downLink = true ∧ 8 ≤ s.upQueue.length)
      ∧ (let s := { downBusy with upLink := false, upTx := none }
        s.downLink = true ∧ s.upLink = false)
      ∧ State.reset.upLink = false ∧ State.reset.downLink = false := by decide +kernel

/-- The part at work with the UP link up: session 4 of line 2 has credit and a byte to come. -/
def delivering : State := { sample with upLink := true }

theorem witness_ArbiterGrantsInRotation :
    (let s := { State.reset with upLink := true, responses := [⟨someResponse, false⟩] }
     s.upFree = true ∧ s.responses ≠ [] ∧ s.lastMember = .data)
    ∧ (let s := { State.reset with upLink := true, responses := [⟨someResponse, false⟩], lastMember := .forward }
       s.upFree = true ∧ s.responses ≠ [] ∧ s.lastMember = .forward ∧ s.nextReady? = none)
    ∧ (let s := { State.reset with upLink := true, responses := [⟨someResponse, false⟩], lastMember := .responses }
       s.upFree = true ∧ s.responses ≠ [] ∧ s.upQueue = [] ∧ s.nextReady? = none)
    ∧ (let s := { delivering with upQueue := [[9#8]], lastMember := .responses }
       s.upFree = true ∧ s.upQueue ≠ [] ∧ s.lastMember = .responses)
    ∧ (let s := { delivering with upQueue := [[9#8]], lastMember := .data }
       s.upFree = true ∧ s.upQueue ≠ [] ∧ s.lastMember = .data ∧ s.responses = [])
    ∧ (let s := { State.reset with upLink := true, upQueue := [[9#8]], lastMember := .forward }
       s.upFree = true ∧ s.upQueue ≠ [] ∧ s.responses = [] ∧ s.nextReady? = none)
    ∧ (let s := { delivering with lastMember := .forward }
       s.upFree = true ∧ s.nextReady? = some 4 ∧ s.lastMember = .forward)
    ∧ (let s := { delivering with lastMember := .responses }
       s.upFree = true ∧ s.nextReady? = some 4 ∧ s.lastMember = .responses ∧ s.upQueue = [])
    ∧ (delivering.upFree = true ∧ delivering.nextReady? = some 4 ∧ delivering.upQueue = [] ∧ delivering.responses = [])
    ∧ (let s := { State.reset with upLink := true }
       s.upFree = true ∧ s.responses = [] ∧ s.upQueue = [] ∧ s.nextReady? = none)
    ∧ (let s := { State.reset with
          upLink := true, responses := List.replicate 16 ⟨someResponse, false⟩, waitingTests := [someResponse] }
       s.upFree = true ∧ s.responses.length = 16 ∧ s.waitingTests ≠ [] ∧ s.lastMember = .data ∧ s.heldPlaces = 0)
    ∧ (let s := { State.reset with upLink := true, responses := [⟨someResponse, false⟩] }
       s.upFree = true ∧ s.responses ≠ [])
    ∧ State.reset.upFree = false
    ∧ ({ State.reset with upLink := true, resetPhase := .due } : State).upFree = false := by decide +kernel

theorem witness_DataSessionRotation :
    delivering.nextReady? = some 4 ∧ delivering.ready 4 = true
      ∧ (let s := delivering.modSession 4 fun r => { r with credit := 9, gather := 2 }
        (s.line 2).ring.newest = 1 ∧ (s.line 2).settled = false ∧ s.ready 4 = false)
      ∧ (let s := (delivering.modSession 4 fun r => { r with credit := 9, gather := 2 }).modLine 2
          fun u => { u with settled := true }
        s.ready 4 = true) := by decide +kernel

theorem witness_DataFrameFormed : delivering.storeLaw ∧ delivering.cursorLaw ∧ delivering.ready 4 = true :=
  ⟨by unfold State.storeLaw Line.ringLaw Line.markLaw; decide +kernel, by unfold State.cursorLaw; decide +kernel,
    by decide +kernel⟩

theorem witness_ReadsChangeNothing :
    (∃ (s : State) (rq : Request) (rest : List Frame), s.admits .unitStatus rq rest ∧ rq.body = [])
    ∧ (∃ (s : State) (rq : Request) (rest : List Frame), s.admits .rateTableRead rq rest ∧ rq.body = [])
    ∧ (∃ (s : State) (rq : Request) (rest : List Frame), s.admits .lineRead rq rest ∧ numAt rq.body 0 1 = (23 : LineNo).val)
    ∧ (∃ (s : State) (rq : Request) (rest : List Frame), s.admits .monitorRead rq rest ∧ numAt rq.body 0 1 = (23 : LineNo).val)
    ∧ (∃ (s : State) (rq : Request) (rest : List Frame), s.admits .marksRead rq rest ∧ numAt rq.body 0 1 = (23 : LineNo).val)
    ∧ (∃ (s : State) (rq : Request) (rest : List Frame), s.admits .watchRead rq rest ∧ numAt rq.body 0 1 = (63 : EntryNo).val)
    ∧ (∃ (s : State) (rq : Request) (rest : List Frame), s.admits .snapshotList rq rest ∧ rq.body = [])
    ∧ (∃ (s : State) (rq : Request) (rest : List Frame), s.admits .snapshotRead rq rest ∧ numAt rq.body 0 1 = (7 : SlotNo).val
        ∧ numAt rq.body 3 2 = 1024)
    ∧ (∃ (s : State) (rq : Request) (rest : List Frame), s.admits .snapshotRead rq rest ∧ numAt rq.body 0 1 = (7 : SlotNo).val ∧ numAt rq.body 3 2 = 1025)
    ∧ passes State.reset .watchRead (frameFor 0x20 255 5 [64#8]) (fun _ rq => decide (64 ≤ numAt rq.body 0 1)) = true
    ∧ passes State.reset .snapshotRead (frameFor 0x29 255 5 [8#8, 0#8, 0#8, 4#8, 0#8])
        (fun _ rq => decide (8 ≤ numAt rq.body 0 1)) = true :=
  ⟨meets State.reset (frameFor 0x01 255 5 []) (by decide +kernel) (by decide +kernel),
    meets State.reset (frameFor 0x16 255 5 []) (by decide +kernel) (by decide +kernel),
    meets State.reset (frameFor 0x10 255 5 [23#8]) (by decide +kernel) (by decide +kernel),
    meets State.reset (frameFor 0x18 255 5 [23#8]) (by decide +kernel) (by decide +kernel),
    meets State.reset (frameFor 0x1A 255 5 ([23#8] ++ zeros 6)) (by decide +kernel) (by decide +kernel),
    meets State.reset (frameFor 0x20 255 5 [63#8]) (by decide +kernel) (by decide +kernel),
    meets State.reset (frameFor 0x28 255 5 []) (by decide +kernel) (by decide +kernel),
    meets State.reset (frameFor 0x29 255 5 [7#8, 0#8, 0#8, 4#8, 0#8]) (by decide +kernel) (by decide +kernel),
    meets State.reset (frameFor 0x29 255 5 [7#8, 0#8, 0#8, 4#8, 1#8]) (by decide +kernel) (by decide +kernel),
    by decide +kernel, by decide +kernel⟩

theorem witness_RateTableReadReturnsTable : ∃ (s : State) (rq : Request) (rest : List Frame), s.offers .rateTableRead rq rest ∧ rq.body = [] :=
  offered State.reset (frameFor 0x16 255 5 []) (by decide +kernel) (by decide +kernel)

/-- A unit record block: period code, keep, fill limit and collector as given. -/
def unitBlock (collector period keep fill : Nat) : List Byte :=
  beBytes 6 0x0F4E4A000000 ++ beBytes 2 0x88B6 ++ beBytes 6 0x0E4E4A000009 ++ beBytes 6 collector ++ beBytes 1 period
    ++ [0#8] ++ beBytes 1 keep ++ beBytes 1 fill ++ [35#8, 0#8] ++ zeros 24

theorem witness_UnitSetApplies :
    (∃ (s : State) (rq : Request) (rest : List Frame), s.admits .unitSet rq rest ∧ readUnitRecord rq.body = none)
    ∧ (∃ (s : State) (rq : Request) (rest : List Frame), s.admits .unitSet rq rest
        ∧ (readUnitRecord rq.body).any (fun c => !c.clamped && decide (c.val.period = .s10 ∧ c.val.keep = 240)) = true)
    ∧ (∃ (s : State) (rq : Request) (rest : List Frame), s.admits .unitSet rq rest ∧ (readUnitRecord rq.body).any (fun c => c.clamped) = true)
    ∧ 50 ≤ (unitBlock 0 3 240 1).length
    ∧ ((readUnitRecord (unitBlock 0 3 240 1)).map fun c => (c.val.keep, c.val.fillLimit, c.clamped)) = some (240, 1, false)
    ∧ ((readUnitRecord (unitBlock 0 3 241 0)).map fun c => (c.val.keep, c.val.fillLimit, c.clamped)) = some (240, 1, true)
    ∧ readUnitRecord (unitBlock (2 ^ 40) 3 240 1) = none :=
  ⟨meets State.reset (frameFor 0x02 255 5 (unitBlock 0 4 0 30)) (by decide +kernel) (by decide +kernel),
    meets sample (frameFor 0x02 255 5 (unitBlock 0 1 240 255)) (by decide +kernel) (by decide +kernel),
    meets sample (frameFor 0x02 255 5 (unitBlock 0 1 241 0)) (by decide +kernel) (by decide +kernel), by decide +kernel,
    by decide +kernel, by decide +kernel, by decide +kernel⟩

theorem witness_SetTimeAndUnitReset :
    (∃ (s : State) (rq : Request) (rest : List Frame), s.admits .setTime rq rest ∧ (s.line 3).hold = none ∧ (s.line 2).hold = some 300
        ∧ holdRuns (BitVec.ofNat 32 (numAt rq.body 0 4)) 300 = true)
    ∧ (∃ (s : State) (rq : Request) (rest : List Frame), s.admits .setTime rq rest ∧ (s.line 2).hold = some 300
        ∧ holdRuns (BitVec.ofNat 32 (numAt rq.body 0 4)) 300 = false)
    ∧ ∃ (s : State) (rq : Request) (rest : List Frame), s.admits .unitReset rq rest ∧ rq.body = [] :=
  ⟨meets (withLine 2 fun u => { u with hold := some 300 }) (frameFor 0x03 255 5 [0#8, 0#8, 1#8, 0#8])
      (by decide +kernel) (by decide +kernel),
    meets (withLine 2 fun u => { u with hold := some 300 }) (frameFor 0x03 255 5 [0#8, 0#8, 1#8, 44#8])
      (by decide +kernel) (by decide +kernel),
    meets State.reset (frameFor 0x04 255 5 []) (by decide +kernel) (by decide +kernel)⟩

theorem witness_EventsReadClears :
    (∃ (s : State) (rq : Request) (rest : List Frame), s.offers .eventsRead rq rest ∧ 1 ≤ rq.body.length ∧ numAt rq.body 0 1 = 255)
    ∧ (∃ (s : State) (rq : Request) (rest : List Frame), s.offers .eventsRead rq rest ∧ 1 ≤ rq.body.length ∧ numAt rq.body 0 1 = (23 : LineNo).val)
    ∧ ∃ (s : State) (rq : Request) (rest : List Frame), s.offers .eventsRead rq rest ∧ 1 ≤ rq.body.length ∧ 24 ≤ numAt rq.body 0 1
        ∧ numAt rq.body 0 1 ≠ 255 :=
  ⟨offered State.reset (frameFor 0x1B 255 5 [255#8]) (by decide +kernel) (by decide +kernel),
    offered State.reset (frameFor 0x1B 255 5 [23#8]) (by decide +kernel) (by decide +kernel),
    offered State.reset (frameFor 0x1B 255 5 [24#8]) (by decide +kernel) (by decide +kernel)⟩

/-- The code and the least body length of the kinds whose body may be short (section 11.3). -/
def leastBodies : List (RequestKind × Nat × Nat) :=
  [(.unitSet, 0x02, 50), (.setTime, 0x03, 4), (.lineRead, 0x10, 1), (.lineSet, 0x11, 33), (.lineEnable, 0x12, 1),
    (.lineDisable, 0x13, 1), (.lineMeasure, 0x14, 1), (.lineTest, 0x15, 2), (.rateTableSet, 0x17, 64),
    (.monitorRead, 0x18, 1), (.monitorSet, 0x19, 14), (.marksRead, 0x1A, 7), (.eventsRead, 0x1B, 1),
    (.watchRead, 0x20, 1), (.watchSet, 0x21, 16), (.snapshotRead, 0x29, 5), (.snapshotFree, 0x2A, 1),
    (.snapshotTake, 0x2B, 5), (.openSession, 0x30, 14), (.seek, 0x32, 7), (.floorRequest, 0x33, 1),
    (.typeBytes, 0x35, 2), (.sendBreak, 0x36, 2)]

/-- The code and a full body of each session request. -/
def sessionKinds : List (RequestKind × Nat × List Byte) :=
  [(.closeSession, 0x31, []), (.seek, 0x32, zeros 7), (.typeBytes, 0x35, [0#8, 1#8, 0x41#8]),
    (.sendBreak, 0x36, zeros 2), (.floorRequest, 0x33, [0#8]), (.floorRelease, 0x34, [])]

/-- The code and a full body of each configuration request. -/
def configKinds : List (RequestKind × Nat × List Byte) :=
  [(.lineSet, 0x11, zeros 33), (.lineEnable, 0x12, [0#8]), (.lineDisable, 0x13, [0#8]), (.lineMeasure, 0x14, [0#8]),
    (.lineTest, 0x15, [0#8, 1#8, 0x55#8]), (.rateTableSet, 0x17, zeros 64), (.monitorSet, 0x19, zeros 14),
    (.watchSet, 0x21, zeros 16), (.unitSet, 0x02, zeros 50), (.setTime, 0x03, zeros 4), (.unitReset, 0x04, []),
    (.snapshotFree, 0x2A, [0#8])]

theorem witness_EngineRefuses :
    (let f := frameFor 0x7F 255 5 []
      let s := asked State.reset f
      s.requests = [f] ∧ RequestKind.ofCode (frameKind f) = none ∧ s.resetPhase = .idle ∧ s.waitingTests = []
        ∧ s.responseRoom = true)
    ∧ (leastBodies.all fun x =>
      tried State.reset x.1 (frameFor x.2.1 255 5 (zeros (x.2.2 - 1))) fun _ rq => decide (rq.body.length < x.2.2)) = true
    ∧ tried State.reset .typeBytes (frameFor 0x35 4 5 ([2#8, 0#8] ++ zeros 511)) (fun _ rq =>
        decide (2 ≤ rq.body.length ∧ rq.body.length < 2 + min 512 (numAt rq.body 0 2))) = true
    ∧ tried State.reset .lineTest (frameFor 0x15 255 5 ([0#8, 16#8] ++ zeros 15)) (fun _ rq =>
        decide (2 ≤ rq.body.length ∧ rq.body.length < 2 + min 16 (numAt rq.body 1 1))) = true
    ∧ tried State.reset .watchSet (frameFor 0x21 255 5 ([0#8, 0#8, 24#8] ++ zeros 60)) (fun _ rq =>
        decide (16 ≤ rq.body.length ∧ rq.body.length < 16 + 2 * min 24 (numAt rq.body 2 1))) = true
    ∧ (sessionKinds.all fun x =>
      tried State.reset x.1 (frameFor x.2.1 32 5 x.2.2) (fun _ rq => decide (rq.sessionNo = none))
        && tried State.reset x.1 (frameFor x.2.1 31 5 x.2.2) (fun s rq =>
          decide (rq.sessionNo = some 31 ∧ (s.session 31).isOpen = false))
        && tried sample x.1 (frameFor x.2.1 4 6 x.2.2) fun s rq =>
          decide (rq.sessionNo = some 4 ∧ (s.session 4).isOpen = true ∧ (s.session 4).origin ≠ rq.origin)) = true
    ∧ (configKinds.all fun x =>
      tried (supervised State.reset) x.1 (frameFor x.2.1 255 5 x.2.2) fun s rq =>
        decide (s.unit.supervisors ≠ [] ∧ rq.origin ∉ s.unit.supervisors)) = true := by decide +kernel

theorem witness_EngineRefuses_takes :
    State.reset.mayTake .credit = true ∧ { State.reset with heldPlaces := 16 }.mayTake .lineRead = false
      ∧ { State.reset with heldPlaces := 16 }.mayTake .credit = true
      ∧ sample.engineCheck .seek (Request.ofFrame (frameFor 0x32 4 5 (zeros 7))) = none
      ∧ State.reset.engineCheck .unitReset (Request.ofFrame (frameFor 0x04 255 5 [])) = none := by decide +kernel

theorem witness_LineNumberRefused :
    (∃ (s : State) (rq : Request) (rest : List Frame), s.admits .lineRead rq rest ∧ 24 ≤ numAt rq.body 0 1)
    ∧ (∃ (s : State) (rq : Request) (rest : List Frame), s.admits .lineSet rq rest ∧ 24 ≤ numAt rq.body 0 1)
    ∧ (∃ (s : State) (rq : Request) (rest : List Frame), s.admits .lineEnable rq rest ∧ 24 ≤ numAt rq.body 0 1)
    ∧ (∃ (s : State) (rq : Request) (rest : List Frame), s.admits .lineDisable rq rest ∧ 24 ≤ numAt rq.body 0 1)
    ∧ (∃ (s : State) (rq : Request) (rest : List Frame), s.admits .lineMeasure rq rest ∧ 24 ≤ numAt rq.body 0 1)
    ∧ (∃ (s : State) (rq : Request) (rest : List Frame), s.admits .lineTest rq rest ∧ 24 ≤ numAt rq.body 0 1)
    ∧ (∃ (s : State) (rq : Request) (rest : List Frame), s.admits .monitorRead rq rest ∧ 24 ≤ numAt rq.body 0 1)
    ∧ (∃ (s : State) (rq : Request) (rest : List Frame), s.admits .marksRead rq rest ∧ 24 ≤ numAt rq.body 0 1)
    ∧ ∃ (s : State) (rq : Request) (rest : List Frame), s.admits .snapshotTake rq rest ∧ 24 ≤ numAt rq.body 0 1 :=
  ⟨meets State.reset (frameFor 0x10 255 5 [24#8]) (by decide +kernel) (by decide +kernel),
    meets State.reset (frameFor 0x11 255 5 ([24#8] ++ zeros 32)) (by decide +kernel) (by decide +kernel),
    meets State.reset (frameFor 0x12 255 5 [24#8]) (by decide +kernel) (by decide +kernel),
    meets State.reset (frameFor 0x13 255 5 [24#8]) (by decide +kernel) (by decide +kernel),
    meets State.reset (frameFor 0x14 255 5 [24#8]) (by decide +kernel) (by decide +kernel),
    meets State.reset (frameFor 0x15 255 5 [24#8, 0#8]) (by decide +kernel) (by decide +kernel),
    meets State.reset (frameFor 0x18 255 5 [24#8]) (by decide +kernel) (by decide +kernel),
    meets State.reset (frameFor 0x1A 255 5 ([24#8] ++ zeros 6)) (by decide +kernel) (by decide +kernel),
    meets State.reset (frameFor 0x2B 255 5 ([24#8] ++ zeros 4)) (by decide +kernel) (by decide +kernel)⟩

theorem witness_TakenRequestRefreshes :
    sample.attendance.state ≠ .unattended
    ∧ (∃ s : State, s.attendance.state = .unattended ∧ s.unit.period.ms = some 10000)
    ∧ ∃ rq : Request, rq.session.toNat = (4 : SessionNo).val ∧ (sample.session 4).isOpen = true
        ∧ (sample.session 4).origin = rq.origin :=
  ⟨by decide +kernel,
    ⟨{ State.reset with
        unit := { UnitRecord.reset with period := .s10 }, attendance := { state := .unattended, left := none, lapses := 1 } },
      rfl, rfl⟩,
    ⟨Request.ofFrame (frameFor 0x31 4 5 []), by decide +kernel⟩⟩

/-- Line 23 given a state and a policy. -/
def line23 (st : LineState) (p : RatePolicy) : State :=
  withLine 23 fun u => { lineIn st u with record := { u.record with policy := p } }

/-- The measurement of line 21 under way, and line 20 queued behind it. -/
def engineBusy (s : State) : State := { s with engine := (measuring 21 31 (some 2302)).engine }

theorem witness_LineEnableStartsLine :
    (∃ (s : State) (rq : Request) (rest : List Frame), s.offers .lineEnable rq rest ∧ 1 ≤ rq.body.length
        ∧ s.unit.supervisors ≠ [] ∧ rq.origin ∉ s.unit.supervisors)
    ∧ (∃ (s : State) (rq : Request) (rest : List Frame), s.admits .lineEnable rq rest ∧ 24 ≤ numAt rq.body 0 1)
    ∧ (∃ (s : State) (rq : Request) (rest : List Frame), s.admits .lineEnable rq rest
        ∧ numAt rq.body 0 1 = (23 : LineNo).val ∧ (s.engine = none → s.probeQueue = []) ∧ (s.line 23).state = .off
        ∧ (s.line 23).record.policy = .fixed)
    ∧ (∃ (s : State) (rq : Request) (rest : List Frame), s.admits .lineEnable rq rest
        ∧ numAt rq.body 0 1 = (23 : LineNo).val ∧ (s.engine = none → s.probeQueue = []) ∧ (s.line 23).state = .dark
        ∧ (s.line 23).record.policy = .auto ∧ s.engine ≠ none)
    ∧ (∃ (s : State) (rq : Request) (rest : List Frame), s.admits .lineEnable rq rest
        ∧ numAt rq.body 0 1 = (23 : LineNo).val ∧ (s.engine = none → s.probeQueue = []) ∧ (s.line 23).state = .off
        ∧ (s.line 23).record.policy = .auto ∧ s.engine = none)
    ∧ ∃ (s : State) (rq : Request) (rest : List Frame), s.admits .lineEnable rq rest
        ∧ numAt rq.body 0 1 = (0 : LineNo).val ∧ (s.engine = none → s.probeQueue = []) ∧ (s.line 0).state = .live :=
  ⟨offered (supervised State.reset) (frameFor 0x12 255 5 [0#8]) (by decide +kernel) (by decide +kernel),
    meets State.reset (frameFor 0x12 255 5 [24#8]) (by decide +kernel) (by decide +kernel),
    meets (line23 .off .fixed) (frameFor 0x12 255 5 [23#8]) (by decide +kernel) (by decide +kernel),
    meets (engineBusy (line23 .dark .auto)) (frameFor 0x12 255 5 [23#8]) (by decide +kernel) (by decide +kernel),
    meets (line23 .off .auto) (frameFor 0x12 255 5 [23#8]) (by decide +kernel) (by decide +kernel),
    meets sample (frameFor 0x12 255 5 [0#8]) (by decide +kernel) (by decide +kernel)⟩

/-- A request that waits does not touch the law of line states. -/
theorem asked_linesLaw {s : State} (h : s.linesLaw) (f : Frame) : (asked s f).linesLaw := h

/-- Slot `k` is the first that fills for a line. -/
abbrev firstFilling (s : State) (k : SlotNo) (l : LineNo) : Prop :=
  ((s.slot k).state = .filling ∧ (s.slot k).line = l)
    ∧ ∀ j, j < k → ¬ ((s.slot j).state = .filling ∧ (s.slot j).line = l)

/-- No slot fills for a line. -/
abbrev noneFilling (s : State) (l : LineNo) : Prop := ∀ k, ¬ ((s.slot k).state = .filling ∧ (s.slot k).line = l)

/-- A DARK line whose floor is parked. -/
def darkParked : State := darkLine.modLine 19 fun u => { u with floor := { u.floor with state := .parked 4 } }

theorem darkParked_linesLaw : darkParked.linesLaw := by
  refine ⟨fun l => ⟨?_, ?_, ?_, ?_, txLaw_of ?_, ?_⟩, ?_, ?_, ?_, ?_⟩
  all_goals try unfold Line.stillLaw
  all_goals first | (revert l; decide +kernel) | decide +kernel

/-- The LOST notice of a line that is disabled carries the line, kind LOST, reason LINE_OFF and a FREE floor (R128, R136,
section 11.4), and the exit from LIVE truncates the line's slot, its data kept (R101). -/
theorem test_lineDisable_notice_and_slot :
    let t := afterRequest sample .lineDisable (frameFor 0x13 255 5 [2#8])
    (t.responses.map fun q => (q.frame.kind, q.frame.body)) = [(0xC2#8, [2#8, 1#8, 5#8, 0#8, 255#8, 0#8]), (0x93#8, [])]
      ∧ (t.slot 0).state = .complete ∧ (t.slot 0).truncated = true ∧ (t.slot 0).data = [0x41#8]
      ∧ (t.slot 0).fillLeft = none ∧ (t.line 2).summary.has .snapshotDone = true := by decide +kernel

theorem witness_LineDisableTurnsOff :
    (∃ (s : State) (rq : Request) (rest : List Frame), s.admits .lineDisable rq rest ∧ s.linesLaw
        ∧ numAt rq.body 0 1 = (23 : LineNo).val ∧ (s.line 23).state = .off)
    ∧ (∃ (s : State) (rq : Request) (rest : List Frame), s.admits .lineDisable rq rest ∧ s.linesLaw
        ∧ numAt rq.body 0 1 = (21 : LineNo).val ∧ (s.line 21).state = .measuring ∧ s.probeQueue.head? = some 20)
    ∧ (∃ (s : State) (rq : Request) (rest : List Frame), s.admits .lineDisable rq rest ∧ s.linesLaw
        ∧ numAt rq.body 0 1 = (2 : LineNo).val ∧ (s.line 2).state = .live ∧ firstFilling s 0 2
        ∧ (s.line 2).floor.state = .held 4)
    ∧ (∃ (s : State) (rq : Request) (rest : List Frame), s.admits .lineDisable rq rest ∧ s.linesLaw
        ∧ numAt rq.body 0 1 = (0 : LineNo).val ∧ (s.line 0).state = .live ∧ noneFilling s 0
        ∧ (s.line 0).floor.state = .free)
    ∧ (∃ (s : State) (rq : Request) (rest : List Frame), s.admits .lineDisable rq rest ∧ s.linesLaw
        ∧ numAt rq.body 0 1 = (19 : LineNo).val ∧ (s.line 19).state = .dark ∧ (s.line 19).floor.state = .parked 4)
    ∧ ∃ (s : State) (rq : Request) (rest : List Frame), s.admits .lineDisable rq rest ∧ s.linesLaw
        ∧ numAt rq.body 0 1 = (22 : LineNo).val ∧ (s.line 22).state = .loop ∧ (s.line 22).test.isSome = true :=
  ⟨meets sample (frameFor 0x13 255 5 [23#8]) (by decide +kernel) ⟨asked_linesLaw sample_linesLaw _, by decide +kernel⟩,
    meets sample (frameFor 0x13 255 5 [21#8]) (by decide +kernel) ⟨asked_linesLaw sample_linesLaw _, by decide +kernel⟩,
    meets sample (frameFor 0x13 255 5 [2#8]) (by decide +kernel) ⟨asked_linesLaw sample_linesLaw _, by decide +kernel⟩,
    meets sample (frameFor 0x13 255 5 [0#8]) (by decide +kernel) ⟨asked_linesLaw sample_linesLaw _, by decide +kernel⟩,
    meets darkParked (frameFor 0x13 255 5 [19#8]) (by decide +kernel)
      ⟨asked_linesLaw darkParked_linesLaw _, by decide +kernel⟩,
    meets sample (frameFor 0x13 255 5 [22#8]) (by decide +kernel) ⟨asked_linesLaw sample_linesLaw _, by decide +kernel⟩⟩

theorem witness_LineMeasureQueuesLine :
    (∃ (s : State) (rq : Request) (rest : List Frame), s.admits .lineMeasure rq rest
        ∧ numAt rq.body 0 1 = (23 : LineNo).val ∧ (s.engine = none → s.probeQueue = []) ∧ (s.line 23).state = .off
        ∧ s.engine ≠ none)
    ∧ (∃ (s : State) (rq : Request) (rest : List Frame), s.admits .lineMeasure rq rest
        ∧ numAt rq.body 0 1 = (0 : LineNo).val ∧ (s.engine = none → s.probeQueue = []) ∧ (s.line 0).state = .live
        ∧ s.engine = none ∧ noneFilling s 0)
    ∧ (∃ (s : State) (rq : Request) (rest : List Frame), s.admits .lineMeasure rq rest
        ∧ numAt rq.body 0 1 = (2 : LineNo).val ∧ (s.engine = none → s.probeQueue = []) ∧ (s.line 2).state = .live
        ∧ firstFilling s 0 2)
    ∧ ∃ (s : State) (rq : Request) (rest : List Frame), s.admits .lineMeasure rq rest
        ∧ numAt rq.body 0 1 = (20 : LineNo).val ∧ (s.engine = none → s.probeQueue = []) ∧ (s.line 20).state = .queued :=
  ⟨meets sample (frameFor 0x14 255 5 [23#8]) (by decide +kernel) (by decide +kernel),
    meets State.reset (frameFor 0x14 255 5 [0#8]) (by decide +kernel) (by decide +kernel),
    meets sample (frameFor 0x14 255 5 [2#8]) (by decide +kernel) (by decide +kernel),
    meets sample (frameFor 0x14 255 5 [20#8]) (by decide +kernel) (by decide +kernel)⟩

theorem witness_LineTestEntersLoop :
    (∃ (s : State) (rq : Request) (rest : List Frame), s.admits .lineTest rq rest
        ∧ numAt rq.body 0 1 = (23 : LineNo).val ∧ numAt rq.body 1 1 = 1 ∧ (s.line 23).state = .off)
    ∧ (∃ (s : State) (rq : Request) (rest : List Frame), s.admits .lineTest rq rest
        ∧ numAt rq.body 0 1 = (0 : LineNo).val ∧ numAt rq.body 1 1 = 16 ∧ (s.line 0).state = .live
        ∧ (s.line 0).current = some { index := 4, rate := 9600 } ∧ noneFilling s 0)
    ∧ (∃ (s : State) (rq : Request) (rest : List Frame), s.admits .lineTest rq rest
        ∧ numAt rq.body 0 1 = (2 : LineNo).val ∧ numAt rq.body 1 1 = 1 ∧ (s.line 2).state = .live
        ∧ (s.line 2).current = some { index := 4, rate := 9600 } ∧ firstFilling s 0 2)
    ∧ (∃ (s : State) (rq : Request) (rest : List Frame), s.admits .lineTest rq rest
        ∧ numAt rq.body 0 1 = (22 : LineNo).val ∧ numAt rq.body 1 1 = 16 ∧ (s.line 22).state = .loop)
    ∧ (∃ (s : State) (rq : Request) (rest : List Frame), s.admits .lineTest rq rest
        ∧ numAt rq.body 0 1 = (19 : LineNo).val ∧ numAt rq.body 1 1 = 1 ∧ (s.line 19).state = .dark)
    ∧ (∃ (s : State) (rq : Request) (rest : List Frame), s.admits .lineTest rq rest
        ∧ numAt rq.body 0 1 = (0 : LineNo).val ∧ numAt rq.body 1 1 = 0)
    ∧ ∃ (s : State) (rq : Request) (rest : List Frame), s.admits .lineTest rq rest
        ∧ numAt rq.body 0 1 = (0 : LineNo).val ∧ 16 < numAt rq.body 1 1 :=
  ⟨meets sample (frameFor 0x15 255 5 [23#8, 1#8, 0#8]) (by decide +kernel) (by decide +kernel),
    meets sample (frameFor 0x15 255 5 ([0#8, 16#8] ++ zeros 16)) (by decide +kernel) (by decide +kernel),
    meets sample (frameFor 0x15 255 5 [2#8, 1#8, 0#8]) (by decide +kernel) (by decide +kernel),
    meets sample (frameFor 0x15 255 5 ([22#8, 16#8] ++ zeros 16)) (by decide +kernel) (by decide +kernel),
    meets sample (frameFor 0x15 255 5 ([19#8, 1#8, 0#8])) (by decide +kernel) (by decide +kernel),
    meets sample (frameFor 0x15 255 5 [0#8, 0#8]) (by decide +kernel) (by decide +kernel),
    meets sample (frameFor 0x15 255 5 ([0#8, 17#8] ++ zeros 16)) (by decide +kernel) (by decide +kernel)⟩

/-- A LINE SET body for a line: policy code, fixed index, character gap, floor idle time and ring size as given. -/
def lineSetBody (line policy fixed gap idle kib : Nat) : List Byte :=
  beBytes 1 line ++ beBytes 1 policy ++ beBytes 1 fixed ++ [4#8, 8#8, 0#8, 1#8, 1#8, 32#8, 5#8, 2#8, 1#8, 3#8]
    ++ beBytes 2 gap ++ [0#8, 0#8, 0#8] ++ beBytes 2 idle ++ [0#8] ++ beBytes 1 kib ++ zeros 10 ++ [1#8]

/-- A LINE SET of a line whose record reads as `P` says. -/
def setsLine (s : State) (l : LineNo) (policy fixed gap idle kib : Nat) (P : State → Clamped LineRecord → Bool) : Bool :=
  passes s .lineSet (frameFor 0x11 255 5 (lineSetBody l.val policy fixed gap idle kib)) fun s rq =>
    decide (numAt rq.body 0 1 = l.val) && (readLineRecord s.rates (rq.body.drop 1)).any (P s)

/-- The LINE SET restarts a line that stands in a state. -/
def restarts (s : State) (l : LineNo) (st : LineState) (policy : RatePolicy) (fixed : Nat) (P : State → Bool)
    (kib : Nat := 16) : Bool :=
  setsLine s l policy.code fixed 0 300 kib fun s c =>
    decide ((s.line l).state = st ∧ c.val.policy = policy ∧ c.val.ringKiB = kib
      ∧ (c.val.policy ≠ (s.line l).record.policy ∨ c.val.policy = .fixed ∧ c.val.fixedIndex ≠ (s.line l).record.fixedIndex))
      && P s

theorem witness_LineSetApplies :
    passes State.reset .lineSet (frameFor 0x11 255 5 (lineSetBody 0 0 10 0 300 16)) (fun s rq =>
        decide (numAt rq.body 0 1 = 0) && (readLineRecord s.rates (rq.body.drop 1)).isNone) = true
    ∧ setsLine State.reset 0 0 4 0 300 17 (fun s c => decide (393216 < ((List.finRange 24).map fun j =>
        (if j = 0 then c.val.ringKiB else (s.line j).record.ringKiB) * 1024).sum)) = true
    ∧ setsLine State.reset 23 0 4 0 300 16 (fun s c => decide (c.val = (s.line 23).record)) = true
    ∧ setsLine State.reset 0 0 4 251 300 16 (fun _ c => decide (c.val.charGap = 250) && c.clamped) = true
    ∧ setsLine sample 2 0 4 0 300 15 (fun s c => decide (c.val.ringKiB ≠ (s.line 2).record.ringKiB
        ∧ (s.line 2).ring.newest = 1 ∧ (s.session 4).line = 2 ∧ (s.session 4).isOpen = true
        ∧ (s.session 4).cursor < 1)) = true
    ∧ setsLine sample 2 0 4 0 301 16 (fun s c => decide (c.val.floorIdle ≠ (s.line 2).record.floorIdle
        ∧ (s.line 2).floor.state = .held 4)) = true
    ∧ restarts sample 22 .loop .fixed 8 (fun _ => true) = true
    ∧ restarts sample 23 .off .auto 4 (fun _ => true) = true
    ∧ restarts sample 20 .queued .auto 4 (fun _ => true) = true
    ∧ (sample.linesLaw ∧ sample.engine ≠ none ∧ sample.probeQueue.head? = some 20)
    ∧ restarts sample 20 .queued .fixed 8 (fun _ => true) = true
    ∧ restarts sample 21 .measuring .fixed 8 (fun _ => true) = true
    ∧ restarts sample 0 .live .fixed 8 (fun s => decide (noneFilling s 0)) = true
    ∧ restarts sample 19 .dark .fixed 8 (fun _ => true) = true
    ∧ restarts sample 21 .measuring .auto 4 (fun _ => true) = true
    ∧ restarts sample 0 .live .auto 4 (fun s => decide (s.engine ≠ none)) = true
    ∧ restarts sample 19 .dark .auto 4 (fun s => decide (s.engine ≠ none)) = true
    ∧ darkLine.linesLaw
    ∧ restarts darkLine 0 .live .auto 4 (fun s => decide (s.engine = none)) = true
    ∧ restarts darkLine 19 .dark .auto 4 (fun s => decide (s.engine = none)) = true
    ∧ restarts (measuring 21 31 none) 21 .measuring .auto 4 (fun s => decide (s.probeQueue = [])) = true
    ∧ restarts sample 2 .live .fixed 8 (fun s => decide (firstFilling s 0 2 ∧ (s.line 2).record.ringKiB = 16 ∧ (s.session 4).isOpen = true
        ∧ (s.session 4).line = 2 ∧ (s.session 4).cursor < (s.line 2).ring.newest)) 15 = true
    ∧ restarts sample 20 .queued .fixed 8 (fun s => decide ((s.line 20).record.ringKiB = 16)) 15 = true
    ∧ ([(lineSetBody 0 0 4 250 3600 64), (lineSetBody 0 0 4 251 3600 64), (lineSetBody 0 0 4 250 3601 1)].map fun b =>
        (readLineRecord ratesReset (b.drop 1)).map fun c => (c.val.charGap, c.val.floorIdle, c.clamped))
        = [some (250, 3600, false), some (250, 3600, true), some (250, 3600, true)]
    ∧ ([(lineSetBody 0 0 4 0 300 0), (lineSetBody 0 0 4 0 300 65), (lineSetBody 0 2 4 0 300 16), (lineSetBody 0 0 10 0 300 16),
        (lineSetBody 0 0 16 0 300 16)].all fun b => decide (readLineRecord ratesReset (b.drop 1) = none)) = true :=
  ⟨by decide +kernel, by decide +kernel, by decide +kernel, by decide +kernel, by decide +kernel, by decide +kernel,
    by decide +kernel, by decide +kernel, by decide +kernel, ⟨sample_linesLaw, by decide +kernel, by decide +kernel⟩,
    by decide +kernel, by decide +kernel, by decide +kernel, by decide +kernel, by decide +kernel, by decide +kernel,
    by decide +kernel, darkLine_linesLaw, by decide +kernel, by decide +kernel, by decide +kernel, by decide +kernel,
    by decide +kernel, by decide +kernel, by decide +kernel⟩

/-- A RATE TABLE SET body: the table at power-on with entry 15 as given. -/
def ratesBody (last : Nat) : List Byte := (ratesReset.toList.take 15).flatMap (beBytes 4) ++ beBytes 4 last

/-- A block of monitor parameters: the fast shift, the counts for a burst's begin and end and the halt group as given. -/
def monitorBlock (bf ce cx group : Nat) : List Byte := beBytes 1 bf ++ zeros 5 ++ [ce, cx, 0, group].flatMap (beBytes 1)

/-- A watch entry's block of equal elements: kind and count of the elements, lines, hits, holdoff, actions, hold seconds. -/
def watchBlock (kind count lines hits holdoff actions hold : Nat) : List Byte :=
  [1#8] ++ beBytes 1 count ++ beBytes 4 lines ++ beBytes 1 hits ++ beBytes 2 holdoff ++ beBytes 1 actions
    ++ beBytes 2 8192 ++ beBytes 2 8193 ++ beBytes 1 hold
    ++ (List.replicate count (beBytes 1 kind ++ [0x42#8])).flatten

theorem witness_TableSetsReplace :
    (∃ (s : State) (rq : Request) (rest : List Frame), s.admits .rateTableSet rq rest
        ∧ ∃ i : RateIndex, ¬ (numAt rq.body (4 * i.val) 4 = 0
            ∨ (300 ≤ numAt rq.body (4 * i.val) 4 ∧ numAt rq.body (4 * i.val) 4 ≤ 230400)))
    ∧ (∃ (s : State) (rq : Request) (rest : List Frame), s.admits .rateTableSet rq rest
        ∧ (∀ i : RateIndex, numAt rq.body (4 * i.val) 4 = 0
            ∨ (300 ≤ numAt rq.body (4 * i.val) 4 ∧ numAt rq.body (4 * i.val) 4 ≤ 230400))
        ∧ ∃ i : RateIndex, numAt rq.body (4 * i.val) 4 = 0 ∧ ∃ l, (s.line l).record.fixedIndex = i)
    ∧ (∃ (s : State) (rq : Request) (rest : List Frame), s.admits .rateTableSet rq rest
        ∧ (∀ i : RateIndex, numAt rq.body (4 * i.val) 4 = 0
            ∨ (300 ≤ numAt rq.body (4 * i.val) 4 ∧ numAt rq.body (4 * i.val) 4 ≤ 230400))
        ∧ ∀ i : RateIndex, (∃ l, (s.line l).record.fixedIndex = i ∨ (s.line l).record.fallbackIndex = i) →
            numAt rq.body (4 * i.val) 4 ≠ 0)
    ∧ (∃ (s : State) (rq : Request) (rest : List Frame), s.admits .monitorSet rq rest
        ∧ 2 ^ 24 ≤ numAt rq.body 0 4)
    ∧ (∃ (s : State) (rq : Request) (rest : List Frame), s.admits .monitorSet rq rest
        ∧ numAt rq.body 0 4 = 2 ^ 24 - 1)
    ∧ passes State.reset .monitorSet (frameFor 0x19 255 5 (zeros 14)) (fun _ rq =>
        decide (numAt rq.body 0 4 = 0) && (readMonitorParams (rq.body.drop 4)).clamped) = true
    ∧ (∃ (s : State) (rq : Request) (rest : List Frame), s.admits .watchSet rq rest ∧ 64 ≤ numAt rq.body 0 1)
    ∧ (∃ (s : State) (rq : Request) (rest : List Frame), s.admits .watchSet rq rest
        ∧ readWatchEntry (rq.body.drop 1) = none)
    ∧ (∃ (s : State) (rq : Request) (rest : List Frame), s.admits .watchSet rq rest
        ∧ numAt rq.body 0 1 = (63 : EntryNo).val ∧ (readWatchEntry (rq.body.drop 1)).isSome = true)
    ∧ ([monitorBlock 7 1 15 3, monitorBlock 8 1 15 3, monitorBlock 7 0 15 3, monitorBlock 7 1 16 3, monitorBlock 7 1 15 4].map
        fun b => let c := readMonitorParams b
          (c.val.bf, c.val.ce, c.val.cx, c.val.group, c.clamped))
        = (false :: List.replicate 4 true).map ((7, 1, 15, 3, ·))
    ∧ ([watchBlock 2 24 (2 ^ 24 - 1) 15 255 27 60, watchBlock 1 1 0 1 256 0 61, watchBlock 0 1 0 1 0 31 60,
        watchBlock 0 1 0 1 0 16 0].map fun b =>
        (readWatchEntry b).map fun c => (c.val.holdoff, c.val.snapshot, c.val.holdType, c.clamped))
        = [some (255, none, some 60, false), some (255, none, none, true),
          some (0, some { pre := 8192, post := 8192 }, some 60, true), some (0, none, some 1, true)]
    ∧ ([watchBlock 3 1 0 1 0 0 0, watchBlock 0 0 0 1 0 0 0, watchBlock 0 25 0 1 0 0 0, watchBlock 0 1 (2 ^ 24) 1 0 0 0,
        watchBlock 0 1 0 0 0 0 0, watchBlock 0 1 0 16 0 0 0, watchBlock 0 1 0 1 0 32 0].all fun b =>
        decide (readWatchEntry b = none)) = true :=
  ⟨meets State.reset (frameFor 0x17 255 5 (ratesBody 230401)) (by decide +kernel) (by decide +kernel),
    meets State.reset (frameFor 0x17 255 5 (zeros 64)) (by decide +kernel) (by decide +kernel),
    meets State.reset (frameFor 0x17 255 5 (ratesBody 230400)) (by decide +kernel) (by decide +kernel),
    meets State.reset (frameFor 0x19 255 5 ([1#8] ++ zeros 13)) (by decide +kernel) (by decide +kernel),
    meets State.reset (frameFor 0x19 255 5 ([0#8, 255#8, 255#8, 255#8] ++ zeros 10)) (by decide +kernel)
      (by decide +kernel),
    by decide +kernel,
    meets State.reset (frameFor 0x21 255 5 ([64#8] ++ zeros 15)) (by decide +kernel) (by decide +kernel),
    meets State.reset (frameFor 0x21 255 5 ([63#8] ++ zeros 15)) (by decide +kernel) (by decide +kernel),
    meets State.reset (frameFor 0x21 255 5 ([63#8, 1#8, 1#8, 0#8, 0#8, 0#8, 0#8, 15#8] ++ zeros 10))
      (by decide +kernel) (by decide +kernel),
    by decide +kernel, by decide +kernel, by decide +kernel⟩

/-- The reset state with one slot given. -/
def withSlot (k : SlotNo) (r : Slot) : State := State.reset.setSlot k r

theorem witness_SnapshotFreeBySlotState :
    (∃ (s : State) (rq : Request) (rest : List Frame), s.offers .snapshotFree rq rest ∧ 1 ≤ rq.body.length
        ∧ s.unit.supervisors ≠ [] ∧ rq.origin ∉ s.unit.supervisors)
    ∧ (∃ (s : State) (rq : Request) (rest : List Frame), s.admits .snapshotFree rq rest ∧ 8 ≤ numAt rq.body 0 1)
    ∧ (∃ (s : State) (rq : Request) (rest : List Frame), s.admits .snapshotFree rq rest
        ∧ numAt rq.body 0 1 = (7 : SlotNo).val ∧ (s.slot 7).state = .complete)
    ∧ (∃ (s : State) (rq : Request) (rest : List Frame), s.admits .snapshotFree rq rest
        ∧ numAt rq.body 0 1 = (0 : SlotNo).val ∧ (s.slot 0).state = .filling)
    ∧ ∃ (s : State) (rq : Request) (rest : List Frame), s.admits .snapshotFree rq rest
        ∧ numAt rq.body 0 1 = (7 : SlotNo).val ∧ (s.slot 7).state = .free :=
  ⟨offered (supervised State.reset) (frameFor 0x2A 255 5 [0#8]) (by decide +kernel) (by decide +kernel),
    meets State.reset (frameFor 0x2A 255 5 [8#8]) (by decide +kernel) (by decide +kernel),
    meets (withSlot 7 { Slot.reset with state := .complete, cause := some .request }) (frameFor 0x2A 255 5 [7#8])
      (by decide +kernel) (by decide +kernel),
    meets sample (frameFor 0x2A 255 5 [0#8]) (by decide +kernel) (by decide +kernel),
    meets sample (frameFor 0x2A 255 5 [7#8]) (by decide +kernel) (by decide +kernel)⟩

/-- A SNAPSHOT TAKE request for a line, pre 8192 and post 1. -/
def takeFrame (n : Byte) : Frame := frameFor 0x2B 255 5 [n, 0x20#8, 0#8, 0#8, 1#8]

/-- The reset state under a snapshot policy, every slot as given. -/
def allSlots (p : SnapshotPolicy) (f : SlotNo → Slot) : State :=
  { State.reset with unit := { UnitRecord.reset with policy := p }, slots := Vector.ofFn f }

/-- A COMPLETE slot with a trigger stamp. -/
def completeAt (stamp : Word32) : Slot := { Slot.reset with state := .complete, cause := some .request, stamp := stamp }

/-- A SNAPSHOT TAKE of a line that passes the checks, in a state as `P` says. -/
def takes (s : State) (l : LineNo) (P : State → Bool) : Bool :=
  passes s .snapshotTake (takeFrame (BitVec.ofNat 8 l.val)) fun s rq => decide (numAt rq.body 0 1 = l.val) && P s

theorem witness_SnapshotTakeSettles :
    takes sample 23 (fun s => decide ((s.line 23).state = .off)) = true
    ∧ takes sample 19 (fun s => decide ((s.line 19).state ≠ .off ∧ (s.line 19).state ≠ .live)) = true
    ∧ takes sample 2 (fun s => decide ((s.line 2).state = .live ∧ s.fillingSlot? 2 = some 0)) = true
    ∧ takes (allSlots .keep fun _ => completeAt 0) 0 (fun s => decide ((s.line 0).state = .live
        ∧ s.fillingSlot? 0 = none ∧ (∀ k, (s.slot k).state ≠ .free) ∧ s.unit.policy = .keep)) = true
    ∧ takes (allSlots .recycle fun k =>
        { Slot.reset with state := .filling, line := k.castLE (by decide) + 1, cause := some .request, postTarget := 1 }) 0
        (fun s => decide ((s.line 0).state = .live ∧ s.fillingSlot? 0 = none ∧ s.unit.policy = .recycle
          ∧ ∀ k, (s.slot k).state = .filling)) = true
    ∧ takes sample 0 (fun s => decide ((s.line 0).state = .live ∧ s.fillingSlot? 0 = none
        ∧ (s.slot 1).state = .free ∧ ∀ j, j < (1 : SlotNo) → (s.slot j).state ≠ .free)) = true
    ∧ takes (allSlots .recycle fun k => completeAt (if k = 3 ∨ k = 5 then 7 else 8)) 23
        (fun s => decide ((s.line 23).state = .live ∧ s.fillingSlot? 23 = none ∧ s.unit.policy = .recycle
          ∧ (∀ j, (s.slot j).state ≠ .free) ∧ (s.slot 3).state = .complete
          ∧ ∀ j, (s.slot j).state = .complete →
              (s.slot 3).stamp.toNat < (s.slot j).stamp.toNat ∨ (s.slot 3).stamp = (s.slot j).stamp ∧ 3 ≤ j)) = true := by
  decide +kernel

/-- An OPEN of line 2: role, class, position code, offset and gather as given, credit 100. -/
def openFrame (role cls position offset gather : Nat) : Frame :=
  frameFor 0x30 255 5 ([2#8] ++ beBytes 1 role ++ beBytes 1 cls ++ beBytes 1 position ++ beBytes 6 offset
    ++ beBytes 2 gather ++ beBytes 2 100)

/-- Every record of the session table in use. -/
def allOpen : State := { State.reset with sessions := Vector.replicate 32 (typist 5 2 .operator) }

theorem witness_OpenSetsRecord :
    (∃ (s : State) (rq : Request) (rest : List Frame), s.admits .openSession rq rest ∧ readOpen rq.body = none)
    ∧ (∃ (s : State) (rq : Request) (rest : List Frame), s.admits .openSession rq rest
        ∧ (readOpen rq.body).any (fun o => decide (o.cls = .supervisor)) = true ∧ s.unit.supervisors ≠ []
        ∧ rq.origin ∉ s.unit.supervisors)
    ∧ (∃ (s : State) (rq : Request) (rest : List Frame), s.admits .openSession rq rest
        ∧ (readOpen rq.body).any (fun o => decide (o.cls = .operator)) = true ∧ ∀ i, (s.session i).isOpen = true)
    ∧ (∃ (s : State) (rq : Request) (rest : List Frame), s.admits .openSession rq rest
        ∧ (readOpen rq.body).any (fun o => decide (o.cls = .operator ∧ o.line = 2 ∧ o.position = .at 2 ∧ o.gather = 65))
            = true
        ∧ (s.session 0).isOpen = false ∧ (∀ j, j < (0 : SessionNo) → (s.session j).isOpen = true)
        ∧ (s.line 2).ring.oldest ≤ (s.line 2).ring.newest)
    ∧ (∃ (s : State) (rq : Request) (rest : List Frame), s.admits .openSession rq rest
        ∧ (readOpen rq.body).any (fun o => decide (o.line = 2 ∧ o.position = .oldest ∧ o.gather = 1)) = true
        ∧ s.unit.supervisors = [] ∧ (s.session 31).isOpen = false
        ∧ (∀ j, j < (31 : SessionNo) → (s.session j).isOpen = true)
        ∧ (s.line 2).ring.oldest ≤ (s.line 2).ring.newest)
    ∧ readOpen ([23#8, 1#8, 1#8, 2#8] ++ beBytes 6 9 ++ [0#8, 0#8, 255#8, 255#8]) = some
        { line := 23, role := .typist, cls := .supervisor, position := .at 9, gather := 0, credit := 65535 }
    ∧ ([[24#8, 0#8, 0#8, 0#8], [0#8, 2#8, 0#8, 0#8], [0#8, 0#8, 2#8, 0#8], [0#8, 0#8, 0#8, 3#8]].all fun b =>
        decide (readOpen (b ++ zeros 10) = none)) = true :=
  ⟨meets State.reset (openFrame 2 0 0 0 1) (by decide +kernel) (by decide +kernel),
    meets (supervised State.reset) (openFrame 1 1 0 0 1) (by decide +kernel) (by decide +kernel),
    meets allOpen (openFrame 1 0 0 0 1) (by decide +kernel) (by decide +kernel),
    meets sample (openFrame 1 0 2 2 65) (by decide +kernel) (by decide +kernel),
    meets (allOpen.setSession 31 .reset) (openFrame 1 1 1 0 1) (by decide +kernel) (by decide +kernel),
    by decide +kernel, by decide +kernel⟩

theorem witness_SeekAndCredit :
    (∃ (s : State) (rq : Request) (rest : List Frame), s.admits .seek rq rest ∧ rq.sessionNo = some 4
        ∧ numAt rq.body 0 1 = 3 ∧ (s.line (s.session 4).line).ring.oldest ≤ (s.line (s.session 4).line).ring.newest)
    ∧ (∃ (s : State) (rq : Request) (rest : List Frame), s.admits .seek rq rest ∧ rq.sessionNo = some 4
        ∧ numAt rq.body 0 1 = 2 ∧ numAt rq.body 1 6 = 2
        ∧ (s.line (s.session 4).line).ring.oldest ≤ (s.line (s.session 4).line).ring.newest)
    ∧ (∃ (s : State) (rq : Request) (rest : List Frame), s.admits .credit rq rest ∧ rq.sessionNo = some 4)
    ∧ ∃ (s : State) (rq : Request) (rest : List Frame), s.offers .credit rq rest
        ∧ s.engineCheck .credit rq ≠ none :=
  ⟨meets sample (frameFor 0x32 4 5 ([3#8] ++ zeros 6)) (by decide +kernel) (by decide +kernel),
    meets sample (frameFor 0x32 4 5 ([2#8] ++ beBytes 6 2)) (by decide +kernel) (by decide +kernel),
    meets sample (frameFor 0x40 4 5 [255#8, 255#8]) (by decide +kernel) (by decide +kernel),
    offered sample (frameFor 0x40 32 5 [0#8, 1#8]) (by decide +kernel) (by decide +kernel)⟩

theorem witness_CloseFreesRecord :
    (∃ (s : State) (rq : Request) (rest : List Frame), s.admits .closeSession rq rest ∧ rq.sessionNo = some 7
        ∧ (s.session 7).line = 2 ∧ (s.line 2).floor.state ≠ .held 7 ∧ (s.line 2).floor.state ≠ .parked 7)
    ∧ (∃ (s : State) (rq : Request) (rest : List Frame), s.admits .closeSession rq rest ∧ rq.sessionNo = some 4
        ∧ (s.session 4).line = 2 ∧ (s.line 2).floor.state = .held 4 ∧ (s.line 2).floor.waiting = [])
    ∧ (∃ (s : State) (rq : Request) (rest : List Frame), s.admits .closeSession rq rest ∧ rq.sessionNo = some 4
        ∧ (s.session 4).line = 2 ∧ (s.line 2).floor.state = .parked 4)
    ∧ ∃ (s : State) (rq : Request) (rest : List Frame), s.admits .closeSession rq rest ∧ rq.sessionNo = some 4
        ∧ (s.session 4).line = 2 ∧ (s.line 2).floor.state = .held 4 ∧ s.nextWaiter? (s.line 2).floor.waiting = some 7 :=
  ⟨meets sample (frameFor 0x31 7 6 []) (by decide +kernel) (by decide +kernel),
    meets (withFloor (.held 4) []) (frameFor 0x31 4 5 []) (by decide +kernel) (by decide +kernel),
    meets (withFloor (.parked 4) []) (frameFor 0x31 4 5 []) (by decide +kernel) (by decide +kernel),
    meets sample (frameFor 0x31 4 5 []) (by decide +kernel) (by decide +kernel)⟩

theorem witness_CloseFreesRecord_next :
    let s := State.reset.setSession 7 (typist 5 2 .supervisor)
    [4, 7, 9] = [4] ++ (7 : SessionNo) :: [9] ∧ (s.session 7).cls = .supervisor ∧ (∀ j ∈ [(4 : SessionNo)],
      (s.session j).cls = .operator) ∧ s.nextWaiter? [4, 7, 9] = some 7 ∧ s.nextWaiter? [9, 4] = some 9 := by
  decide +kernel

/-- A FLOOR REQUEST of session 4 or 7 with the takeover flag given. -/
def floorFrame (session origin : Nat) (takeover : Byte) : Frame := frameFor 0x33 session origin [takeover]

/-- Line 2 in LOOP from a prior state, its floor FREE. -/
def floorInLoop (prior : LoopPrior) : State :=
  (withFloor .free []).modLine 2 fun u =>
    { lineIn .loop u with test := ((looping 1 0 0 .idle).line 3).test.map fun x => { x with prior := prior } }

/-- A FLOOR REQUEST that meets the premises, with what else is so of the state. -/
def floorAsked (i : SessionNo) (takeover : Nat) (P : State → Prop) : Prop :=
  ∃ (s : State) (rq : Request) (rest : List Frame), s.admits .floorRequest rq rest ∧ rq.sessionNo = some i
    ∧ numAt rq.body 0 1 = takeover ∧ (s.session i).line = 2 ∧ P s

theorem witness_FloorRequestSettled :
    floorAsked 4 2 (fun _ => True)
    ∧ floorAsked 4 1 (fun s => (s.session 4).role = .typist ∧ (s.line 2).state = .loop
        ∧ ((s.line 2).test.any fun x => decide (x.prior = .off)) = true)
    ∧ floorAsked 4 1 (fun s => (s.session 4).role = .typist ∧ (s.line 2).state = .loop
        ∧ ((s.line 2).test.any fun x => decide (x.prior = .live)) = true ∧ (s.line 2).floor.state = .free)
    ∧ floorAsked 4 0 (fun s => (s.session 4).role = .watcher)
    ∧ floorAsked 4 0 (fun s => (s.session 4).role = .typist ∧ (s.line 2).state = .off)
    ∧ floorAsked 4 1 (fun s => (s.session 4).role = .typist ∧ (s.line 2).state = .dark)
    ∧ floorAsked 4 1 (fun s => (s.session 4).role = .typist ∧ (s.line 2).state = .live
        ∧ (s.line 2).floor.state = .held 4)
    ∧ floorAsked 4 0 (fun s => (s.session 4).role = .typist ∧ (s.line 2).state = .queued
        ∧ (s.line 2).floor.state = .free)
    ∧ floorAsked 7 0 (fun s => (s.session 7).role = .typist ∧ (s.line 2).state = .live
        ∧ (s.line 2).floor.state = .parked 4)
    ∧ floorAsked 7 1 (fun s => (s.session 7).role = .typist ∧ (s.line 2).state = .live
        ∧ (s.line 2).floor.state = .held 4 ∧ (s.session 4).cls = .operator ∧ (s.session 7).cls = .supervisor)
    ∧ floorAsked 7 0 (fun s => (s.session 7).role = .typist ∧ (s.line 2).state = .live
        ∧ (s.line 2).floor.state = .held 4 ∧ (7 : SessionNo) ∈ (s.line 2).floor.waiting)
    ∧ floorAsked 4 1 (fun s => (s.session 4).role = .typist ∧ (s.line 2).state = .live
        ∧ (s.line 2).floor.state = .held 7 ∧ (4 : SessionNo) ∉ (s.line 2).floor.waiting
        ∧ (s.session 4).cls = .operator) :=
  ⟨meets (withFloor .free []) (floorFrame 4 5 2#8) (by decide +kernel) (by decide +kernel),
    meets (floorInLoop .off) (floorFrame 4 5 1#8) (by decide +kernel) (by decide +kernel),
    meets (floorInLoop .live) (floorFrame 4 5 1#8) (by decide +kernel) (by decide +kernel),
    meets ((withFloor .free []).modSession 4 fun r => { r with role := .watcher }) (floorFrame 4 5 0#8)
      (by decide +kernel) (by decide +kernel),
    meets ((withFloor .free []).modLine 2 (lineIn .off)) (floorFrame 4 5 0#8) (by decide +kernel) (by decide +kernel),
    meets ((withFloor .free []).modLine 2 (lineIn .dark)) (floorFrame 4 5 1#8) (by decide +kernel) (by decide +kernel),
    meets (withFloor (.held 4) []) (floorFrame 4 5 1#8) (by decide +kernel) (by decide +kernel),
    meets ((withFloor .free []).modLine 2 (lineIn .queued)) (floorFrame 4 5 0#8) (by decide +kernel)
      (by decide +kernel),
    meets (withFloor (.parked 4) []) (floorFrame 7 6 0#8) (by decide +kernel) (by decide +kernel),
    meets (withFloor (.held 4) []) (floorFrame 7 6 1#8) (by decide +kernel) (by decide +kernel),
    meets (withFloor (.held 4) [7]) (floorFrame 7 6 0#8) (by decide +kernel) (by decide +kernel),
    meets (withFloor (.held 7) []) (floorFrame 4 5 1#8) (by decide +kernel) (by decide +kernel)⟩

theorem witness_FloorReleaseServesWaiters :
    (∃ (s : State) (rq : Request) (rest : List Frame), s.admits .floorRelease rq rest ∧ rq.sessionNo = some 4
        ∧ (s.session 4).line = 2 ∧ (s.line 2).floor.state = .held 4 ∧ (s.line 2).floor.waiting = [])
    ∧ (∃ (s : State) (rq : Request) (rest : List Frame), s.admits .floorRelease rq rest ∧ rq.sessionNo = some 4
        ∧ (s.session 4).line = 2 ∧ (s.line 2).floor.state = .parked 4)
    ∧ (∃ (s : State) (rq : Request) (rest : List Frame), s.admits .floorRelease rq rest ∧ rq.sessionNo = some 9
        ∧ (s.session 9).line = 2 ∧ (s.line 2).floor.state = .held 9 ∧ (s.line 2).floor.waiting = [4, 7]
        ∧ (s.session 7).cls = .supervisor ∧ (s.session 4).cls = .operator)
    ∧ (∃ (s : State) (rq : Request) (rest : List Frame), s.admits .floorRelease rq rest ∧ rq.sessionNo = some 7
        ∧ (s.session 7).line = 2 ∧ (s.line 2).floor.state = .held 7 ∧ (s.line 2).floor.waiting = [4]
        ∧ (s.session 4).cls = .operator)
    ∧ ∃ (s : State) (rq : Request) (rest : List Frame), s.admits .floorRelease rq rest ∧ rq.sessionNo = some 7
        ∧ (s.session 7).line = 2 ∧ (s.line 2).floor.state ≠ .held 7 ∧ (s.line 2).floor.state ≠ .parked 7 :=
  ⟨meets (withFloor (.held 4) []) (frameFor 0x34 4 5 []) (by decide +kernel) (by decide +kernel),
    meets (withFloor (.parked 4) []) (frameFor 0x34 4 5 []) (by decide +kernel) (by decide +kernel),
    meets ((withFloor (.held 9) [4, 7]).setSession 9 (typist 8 2 .operator)) (frameFor 0x34 9 8 []) (by decide +kernel)
      (by decide +kernel),
    meets (withFloor (.held 7) [4]) (frameFor 0x34 7 6 []) (by decide +kernel) (by decide +kernel),
    meets sample (frameFor 0x34 7 6 []) (by decide +kernel) (by decide +kernel)⟩

/-- A TYPE of session 4 with a count and its bytes. -/
def typeFrame (count : Nat) : Frame := frameFor 0x35 4 5 (beBytes 2 count ++ zeros (min count 512))

theorem witness_TypeQueuesBytes :
    (∃ (s : State) (rq : Request) (rest : List Frame), s.admits .typeBytes rq rest ∧ rq.sessionNo = some 4
        ∧ numAt rq.body 0 2 = 0)
    ∧ (∃ (s : State) (rq : Request) (rest : List Frame), s.admits .typeBytes rq rest ∧ rq.sessionNo = some 4
        ∧ numAt rq.body 0 2 = 513)
    ∧ (∃ (s : State) (rq : Request) (rest : List Frame), s.admits .typeBytes rq rest ∧ rq.sessionNo = some 4
        ∧ numAt rq.body 0 2 = 1 ∧ (s.session 4).line = 2 ∧ (s.line 2).floor.state = .held 7)
    ∧ (∃ (s : State) (rq : Request) (rest : List Frame), s.admits .typeBytes rq rest ∧ rq.sessionNo = some 4
        ∧ numAt rq.body 0 2 = 1 ∧ (s.session 4).line = 2 ∧ (s.line 2).floor.state = .held 4 ∧ (s.line 2).state ≠ .live)
    ∧ (∃ (s : State) (rq : Request) (rest : List Frame), s.admits .typeBytes rq rest ∧ rq.sessionNo = some 4
        ∧ numAt rq.body 0 2 = 512 ∧ (s.session 4).line = 2 ∧ (s.line 2).floor.state = .held 4
        ∧ (s.line 2).state = .live)
    ∧ ∃ (s : State) (rq : Request) (rest : List Frame), s.admits .typeBytes rq rest ∧ rq.sessionNo = some 4
        ∧ numAt rq.body 0 2 = 1 ∧ (s.session 4).line = 2 ∧ (s.line 2).floor.state = .parked 4
        ∧ (s.line 2).state = .live :=
  ⟨meets sample (typeFrame 0) (by decide +kernel) (by decide +kernel),
    meets sample (typeFrame 513) (by decide +kernel) (by decide +kernel),
    meets (withFloor (.held 7) []) (typeFrame 1) (by decide +kernel) (by decide +kernel),
    meets ((withFloor (.held 4) []).modLine 2 (lineIn .queued)) (typeFrame 1) (by decide +kernel) (by decide +kernel),
    meets sample (typeFrame 512) (by decide +kernel) (by decide +kernel),
    meets (withFloor (.parked 4) []) (typeFrame 1) (by decide +kernel) (by decide +kernel)⟩

/-- Session 4 holding line 2 under a break policy, with a queue. -/
def breaking (p : BreakPolicy) (queued : List Element) (st : LineState) : State :=
  (withFloor (.held 4) []).modLine 2 fun u =>
    { u with record := { u.record with breakPolicy := p }, injection := queued, state := st }

/-- A SEND BREAK of session 4. -/
def breakFrame (ms : Nat) : Frame := frameFor 0x36 4 5 (beBytes 2 ms)

theorem witness_SendBreakQueues :
    (∃ (s : State) (rq : Request) (rest : List Frame), s.admits .sendBreak rq rest ∧ rq.sessionNo = some 4
        ∧ (s.line (s.session 4).line).floor.state ≠ .held 4)
    ∧ (∃ (s : State) (rq : Request) (rest : List Frame), s.admits .sendBreak rq rest ∧ rq.sessionNo = some 4
        ∧ (s.line (s.session 4).line).floor.state = .held 4
        ∧ (s.line (s.session 4).line).record.breakPolicy = .forbid)
    ∧ (∃ (s : State) (rq : Request) (rest : List Frame), s.admits .sendBreak rq rest ∧ rq.sessionNo = some 4
        ∧ (s.line (s.session 4).line).floor.state = .held 4
        ∧ (s.line (s.session 4).line).record.breakPolicy = .supervisor ∧ (s.session 4).cls = .operator)
    ∧ (∃ (s : State) (rq : Request) (rest : List Frame), s.admits .sendBreak rq rest ∧ rq.sessionNo = some 4
        ∧ (s.line (s.session 4).line).floor.state = .held 4
        ∧ (s.line (s.session 4).line).record.breakPolicy = .holder ∧ (s.line (s.session 4).line).state ≠ .live)
    ∧ (∃ (s : State) (rq : Request) (rest : List Frame), s.admits .sendBreak rq rest ∧ rq.sessionNo = some 4
        ∧ (s.line (s.session 4).line).floor.state = .held 4
        ∧ (s.line (s.session 4).line).record.breakPolicy = .holder ∧ (s.line (s.session 4).line).state = .live
        ∧ 256 ≤ (s.line (s.session 4).line).injection.length)
    ∧ ∃ (s : State) (rq : Request) (rest : List Frame), s.admits .sendBreak rq rest ∧ rq.sessionNo = some 4
        ∧ (s.line (s.session 4).line).floor.state = .held 4
        ∧ (s.line (s.session 4).line).record.breakPolicy = .holder ∧ (s.line (s.session 4).line).state = .live
        ∧ (s.line (s.session 4).line).injection.length < 256 ∧ numAt rq.body 0 2 = 2001 :=
  ⟨meets (withFloor (.held 7) []) (breakFrame 50) (by decide +kernel) (by decide +kernel),
    meets (breaking .forbid [] .live) (breakFrame 50) (by decide +kernel) (by decide +kernel),
    meets (breaking .supervisor [] .live) (breakFrame 50) (by decide +kernel) (by decide +kernel),
    meets (breaking .holder [] .queued) (breakFrame 50) (by decide +kernel) (by decide +kernel),
    meets (breaking .holder (List.replicate 256 (.byte 0#8)) .live) (breakFrame 50) (by decide +kernel)
      (by decide +kernel),
    meets (breaking .holder (List.replicate 255 (.byte 0#8)) .live) (breakFrame 2001) (by decide +kernel)
      (by decide +kernel)⟩

/-- A watch entry on every line that one byte 'B' fires, with every action. -/
def bellEntry : WatchEntry :=
  { enabled := true, pattern := [.literal 0x42#8 false], lines := BitVec.allOnes 24, hitsNeeded := 1, holdoff := 255,
    mark := true, note := true, snapshot := some { pre := 1, post := 1 }, dropFloor := true, holdType := some 60 }

/-- The part at work with that entry, session 4 holding line 2 alone. -/
def watching : State :=
  (work.setEntry 63 bellEntry).modLine 2 fun u => { u with floor := { u.floor with waiting := [] } }

/-- A ring of line 3 that holds all of its 16 KiB, with session 5 at its oldest byte. -/
def fullRing : State :=
  ((withLine 3 fun u => { u with ring := { oldest := 10, newest := 10 + 16384, bytes := zeros 16384 } }).setSession 5
    { typist 5 3 .operator with cursor := 10 })

/-- The same with a floor and a waiting list. -/
def watchingFloor (f : FloorState) (waiting : List SessionNo) : State :=
  watching.modLine 2 fun u => { u with floor := { u.floor with state := f, waiting := waiting } }

/-- The reset state with that entry twice, on line 3, under a snapshot policy and with every slot as given. -/
def bells (p : SnapshotPolicy) (f : SlotNo → Slot) : State :=
  ((allSlots p f).setEntry 62 bellEntry).setEntry 63 bellEntry

/-- A slot FILLING for a line. -/
def fillingFor (l : LineNo) : Slot :=
  { Slot.reset with state := .filling, line := l, cause := some .request, postTarget := 9, fillLeft := some 30000 }

/-- The entries of a state that fire on line 3 at one byte 'B'. -/
def bellsFire (s : State) : Bool :=
  decide ((s.line 3).state = .live ∧ (s.line 3).rx = .waiting ∧ (s.line 3).marks.length ≤ 32
    ∧ ∀ i, ((s.entry i).enabled = true ↔ 62 ≤ i.val) ∧ ((s.line 3).pair i).holdoff = none)
    && [62, 63].all fun i : EntryNo =>
      patternMatches (s.entry i).pattern [0x42#8] && decide (((s.line 3).pair i).hits + 1 = (s.entry i).hitsNeeded)
        && (s.entry i).mark && decide ((s.entry i).snapshot = some { pre := 1, post := 1 })

/-- A hold of line 2 that runs, its expiry before or after that of 60 seconds from now, or has ended. -/
def holdOf (e : Word32) : State := watching.modLine 2 fun u => { u with hold := some e }

theorem witness_CharacterCaptured :
    ((watching.line 2).state = .live ∧ (watching.line 2).rx = .waiting ∧ (watching.line 2).current.isSome = true
        ∧ (watching.entry 63).enabled = true ∧ (watching.entry 63).lines.getLsbD 2 = true
        ∧ ((watching.line 2).pair 63).holdoff = none
        ∧ patternMatches (watching.entry 63).pattern ((watching.line 2).matchWindow ++ [0x42#8]) = true
        ∧ ((watching.line 2).pair 63).hits + 1 = (watching.entry 63).hitsNeeded ∧ (watching.entry 63).note = true
        ∧ (watching.entry 63).holdType = some 60 ∧ (watching.line 2).hold = none
        ∧ (∀ i, i ≠ 63 → (watching.entry i).enabled = false) ∧ (watching.entry 63).dropFloor = true
        ∧ (watching.line 2).floor.state = .held 4 ∧ (watching.line 2).floor.waiting = [])
      ∧ ((sample.line 2).state = .live ∧ (sample.line 2).rx = .waiting ∧ (∀ i, (sample.entry i).enabled = false)
        ∧ sample.fillingSlot? 2 = some 0)
      ∧ (let s := withLine 3 fun u => { u with rx := .assembling .reset }
        (s.line 3).state = .live ∧ (s.line 3).rx = .assembling .reset ∧ s.fillingSlot? 3 = none)
      ∧ ((fullRing.line 3).state = .live
        ∧ (fullRing.line 3).record.ringKiB * 1024 ≤ (fullRing.line 3).ring.newest - (fullRing.line 3).ring.oldest
        ∧ (fullRing.session 5).isOpen = true ∧ (fullRing.session 5).line = 3 ∧ (fullRing.session 5).cursor < 11)
      ∧ (sample.storeLaw ∧ sample.upFree = false ∧ delivering.upFree = true)
      ∧ (bellsFire (bells .keep fun k => if k = 0 then fillingFor 3 else .reset)
        && bellsFire (bells .keep fun k => if k = 0 then fillingFor 2 else .reset)
        && bellsFire (bells .recycle fun k => completeAt (if k = 3 ∨ k = 5 then 7 else 8))
        && bellsFire (bells .keep fun _ => completeAt 0)
        && bellsFire (bells .recycle fun k => fillingFor (k.castLE (by decide) + 4))) = true
      ∧ (holdRuns watching.unitTime 59999 = true ∧ holdRuns watching.unitTime 60001 = true
        ∧ holdRuns watching.unitTime 0 = false ∧ ((holdOf 59999).line 2).hold = some 59999)
      ∧ (watching.unit.collector = 0 ∧ ((watchingFloor .free []).line 2).floor.state = .free
        ∧ ((watchingFloor (.parked 4) []).line 2).floor.state = .parked 4
        ∧ ((watchingFloor (.held 4) [7]).line 2).floor.state = .held 4
        ∧ (watchingFloor (.held 4) [7]).nextWaiter? ((watchingFloor (.held 4) [7]).line 2).floor.waiting = some 7)
      ∧ (let k := { fillingFor 3 with postTarget := 1 }
        (bells .keep fun _ => k).fillingSlot? 3 = some 0 ∧ k.postTarget ≤ k.postHeld + 1) :=
  ⟨by decide +kernel, by decide +kernel, by decide +kernel, by decide +kernel,
    ⟨sample_storeLaw, by decide +kernel, by decide +kernel⟩, by decide +kernel, by decide +kernel, by decide +kernel,
    by decide +kernel⟩

theorem witness_ReceiverEvents :
    ((sample.line 2).state = .live ∧ (sample.line 2).rx = .waiting ∧ (sample.line 2).rx ≠ .awaitMark
        ∧ (sample.line 2).record.breakSnapshot = none)
      ∧ (let s := withLine 3 fun u => { u with rx := .awaitMark, rxd := .space }
        (s.line 3).state = .live ∧ (s.line 3).rx = .awaitMark)
      ∧ (let s := withLine 3 fun u => { u with record := { u.record with breakSnapshot := some { pre := 9, post := 9 } } }
        (s.line 3).state = .live ∧ (s.line 3).rx ≠ .awaitMark
          ∧ (s.line 3).record.breakSnapshot = some { pre := 9, post := 9 })
      ∧ (let s := withLine 3 fun u => { u with rx := .assembling .reset }
        (s.line 3).state = .live ∧ (s.line 3).rx = .assembling .reset)
      ∧ ((sample.line 23).state = .off ∧ (sample.line 20).state = .queued ∧ (sample.line 19).state = .dark
        ∧ (sample.line 22).state = .loop ∧ (sample.line 21).state = .measuring) := by decide +kernel

theorem witness_ReceiverEvents_trigger :
    let g : Trigger := { line := 3, cause := .breakIn, pre := 8192, post := 9, others := 0 }
    let full := allSlots .keep fun _ => completeAt 0
    ((State.reset.line 3).marks.length ≤ 32 ∧ State.reset.settleTrigger g = .taken 0 ∧ min g.post (8192 - g.pre) = 0
      ∧ ((fireTrigger g State.reset).slot 0).state = .complete)
      ∧ (sample.settleTrigger { g with line := 2 } = .filling 0)
      ∧ (full.settleTrigger g = .missed ∧ (fireTrigger g full).unitSummary.has .snapshotMissed = true) := by decide +kernel

/-- What a clause about the test of a line assumes of it. -/
def testOf (s : State) (p : LoopTest → Bool) : Bool := (s.line 3).test.any p

/-- A test of line 3 that began from LIVE, its two bytes sent and one received. -/
def loopingFromLive : State :=
  (looping 2 1 1 .idle).modLine 3 fun u =>
    { u with test := u.test.map fun x => { x with prior := .live, wait := some 9 } }

/-- The same with a restart pending, under a policy. -/
def loopingToRestart (p : RatePolicy) : State :=
  loopingFromLive.modLine 3 fun u =>
    { u with
      record := { u.record with policy := p }
      test := u.test.map fun x => { x with restartPending := true } }

theorem witness_LoopbackTest :
    testOf (looping 2 1 1 .idle) (fun x => decide (x.received < x.pattern.length ∧ x.received ≤ x.sent
        ∧ x.sent = x.pattern.length ∧ x.received + 1 = x.sent ∧ x.prior = .off)) = true
      ∧ testOf loopingFromLive (fun x => decide (x.received < x.pattern.length ∧ x.received ≤ x.sent
        ∧ x.sent = x.pattern.length ∧ x.received + 1 = x.sent ∧ x.prior = .live) && !x.restartPending) = true
      ∧ testOf (looping 1 0 0 (.pattern 0xAA#8 .reset)) (fun x => decide (x.received < x.pattern.length
        ∧ x.received ≤ x.sent ∧ ¬ (x.sent = x.pattern.length ∧ x.received + 1 = x.sent))) = true
      ∧ testOf (looping 0 0 0 (.pattern 0x55#8 .reset)) (fun x => x.pattern[x.sent + 1]?.isSome) = true
      ∧ ((looping 0 0 0 (.pattern 0x55#8 .reset)).line 3).tx = .pattern 0x55#8 .reset
      ∧ testOf (looping 1 0 0 (.pattern 0xAA#8 .reset)) (fun x => decide (x.pattern.length ≤ x.sent + 1
        ∧ x.received ≠ x.sent + 1)) = true
      ∧ testOf (looping 1 2 2 (.pattern 0xAA#8 .reset)) (fun x => decide (x.pattern.length ≤ x.sent + 1
        ∧ x.received = x.sent + 1)) = true
      ∧ testOf loopingFromLive (fun x => decide (x.wait = some 9)) = true
      ∧ ([RatePolicy.fixed, .auto].all fun p =>
        let s := loopingToRestart p
        testOf s (fun x => decide (x.prior = .live ∧ x.restartPending = true ∧ x.wait = some 9))
          && decide ((s.line 3).record.policy = p ∧ s.engine = none ∧ s.probeQueue = [])) = true
      ∧ (let s := engineBusy (loopingToRestart .auto)
        testOf s (fun x => decide (x.prior = .live ∧ x.restartPending = true)) = true ∧ s.engine ≠ none)
      ∧ testOf (looping 2 1 1 .idle) (fun x => decide (x.wait = none)) = true := by decide +kernel

theorem witness_LoopbackTest_placing :
    let full := { State.reset with heldPlaces := 16 }
    (State.reset.waitingTests = [] ∧ State.reset.responses.length + State.reset.heldPlaces < 16
      ∧ (placeTest someResponse State.reset).responses = [{ frame := someResponse, resets := false }])
      ∧ (¬ full.responses.length + full.heldPlaces < 16 ∧ (placeTest someResponse full).waitingTests = [someResponse])
      ∧ Framing.parityError { dataBits := .seven, parity := .even, stopBits := .one } 0x83#8 true = true := by
  decide +kernel

/-- Line 3 with a queue, a hold, a gap and a transmission. -/
def sending (q : List Element) (hold : Option Word32) (gap : Option Nat) (tx : Transmitter) : State :=
  withLine 3 fun u => { u with injection := q, hold := hold, gap := gap, tx := tx }

theorem witness_TransmitterTakesHead :
    (let s := sending [] none none .idle
     (s.line 3).injection = [])
    ∧ (let s := sending [.byte 0#8] (some 1) none .idle
      holdRuns s.unitTime 1 = true ∧ (s.line 3).hold = some 1)
    ∧ (let s := sending [.byte 0#8, .brk 50] (some 0) (some 0) .idle
      (s.line 3).state = .live ∧ (s.line 3).tx = .idle ∧ holdRuns s.unitTime 0 = false ∧ (s.line 3).gap = some 0
        ∧ (s.line 3).injection = [.byte 0#8, .brk 50])
    ∧ (let s := sending [.brk 2000] none none .idle
      (s.line 3).state = .live ∧ (s.line 3).tx = .idle ∧ (s.line 3).hold = none ∧ (s.line 3).gap = none
        ∧ (s.line 3).injection = [.brk 2000]) := by decide +kernel

/-- Line 3 with a character gap and a line gap. -/
def paced (charGap lineGap : Nat) (tx : Transmitter) : State :=
  withLine 3 fun u => { u with record := { u.record with charGap := charGap, lineGap := lineGap }, tx := tx }

theorem witness_TransmitterEvents :
    (let s := paced 0 1 (.byte 0x0D#8 .reset)
     (s.line 3).tx = .byte 0x0D#8 .reset ∧ (s.line 3).record.charGap + (s.line 3).record.lineGap ≠ 0)
    ∧ (let s := paced 0 1 (.byte 0x0A#8 .reset)
      (s.line 3).tx = .byte 0x0A#8 .reset ∧ (s.line 3).record.charGap = 0)
    ∧ (let s := paced 0 0 (.breakSpace 0)
      (s.line 3).tx = .breakSpace 0 ∧ (s.line 3).current = some { index := 4, rate := 9600 })
    ∧ (let s := paced 0 0 (.breakSpace 1)
      (s.line 3).tx = .breakSpace 1)
    ∧ (let s := paced 0 0 (.breakMark 4608)
      (s.line 3).tx = .breakMark 4608 ∧ 4608 ≤ 4608)
    ∧ (let s := paced 250 0 (.breakMark 4607)
      (s.line 3).tx = .breakMark 4607 ∧ (s.line 3).record.charGap ≠ 0)
    ∧ (let s := paced 0 2000 (.breakMark 0)
      (s.line 3).tx = .breakMark 0 ∧ (s.line 3).record.charGap = 0)
    ∧ (let s := sending [.byte 0#8] none (some 0) .idle
      (s.line 3).state = .live ∧ (s.line 3).gap = some 0)
    ∧ (let s := sending [.byte 0#8] (some 0) (some 1) .idle
      (s.line 3).hold = some 0 ∧ holdRuns s.unitTime 0 = false ∧ (s.line 3).gap ≠ some 0)
    ∧ (let s := sending [.byte 0#8] (some 1) none .idle
      (s.line 3).hold = some 1 ∧ holdRuns s.unitTime 1 = true) := by decide +kernel

/-- What a clause about the measurement assumes of it. -/
def engineOf (s : State) (p : Measurement → Bool) : Bool := s.engine.any p

theorem witness_MeasurementEdges :
    engineOf (measuring 3 0 none) (fun m => decide (m.edgeCount = 0)) = true
      ∧ engineOf (measuring 3 30 (some 5)) (fun m => decide (m.edgeCount ≠ 0 ∧ m.edgeCount + 1 < m.edges.num
        ∧ ((measuring 3 30 (some 5)).line 3).rxd = .mark)) = true
      ∧ (let s := (measuring 3 30 (some 5)).modLine 3 fun u => { u with rxd := .space }
        engineOf s (fun m => decide (m.edgeCount ≠ 0 ∧ (s.line m.line).rxd = .space ∧ min 65535 (m.pulse + 65534) ≠ 65535
          ∧ min 65535 (m.pulse + 65535) = 65535)) = true)
      ∧ (let s := (measuring 3 1 none).modLine 3 fun u => { u with tx := .probe .reset 9600 }
        engineOf s (fun m => decide ((s.line m.line).tx = .probe .reset 9600)) = true)
      ∧ (let s := pulseOf 50790 ((measuring 3 30 (some 5)).modLine 3 fun u => { u with rxd := .space })
        engineOf s (fun m => decide (65535 ≤ m.pulse + (periodsInMs m.elapsed - m.phase) ∧ (s.line m.line).rxd = .space)) = true)
      ∧ (∀ m, (measuring 3 1 none).engine = some m → m.number ≠ 1 ∨ m.line ≠ 3)
      ∧ (∀ m, (measuring 3 1 none).engine = some m → m.number ≠ 0 ∨ m.line ≠ 4)
      ∧ (∀ m, (measuring 3 1 none).engine = some m → m.windowLeft ≠ 0)
      ∧ (∀ m, (measuring 3 0 none).engine = some m → m.edgeCount = 0)
      ∧ State.reset.engine = none
      ∧ ((sample.line 0).state = .live ∧ (sample.line 0).rxd = .mark)
      ∧ (let s := withLine 3 fun u => { u with rxd := .space, rx := .awaitMark }
        (s.line 3).state = .live ∧ (s.line 3).rxd = .space)
      ∧ (sample.line 23).state ≠ .live := by decide +kernel

/-- A line measured on its last attempt, under a failure option. -/
def lastAttempt (f : FailureOption) : State :=
  (measuring 3 31 (some 2302)).modLine 3 fun u =>
    { u with attempts := 1, rxd := .space, record := { u.record with failure := f } }

/-- The nominal width of an entry and its distance from a width, as the statement has them. -/
def fitsAt (s : State) (w : Nat) (i : RateIndex) : Bool :=
  let nominal := (2 * 14745600 + s.rateAt i) / (2 * s.rateAt i)
  decide (s.rateAt i ≠ 0 ∧ w < 65535 ∧ (max w nominal - min w nominal) * 1000 ≤ s.unit.tolerance * nominal)

theorem witness_MeasurementEnds :
    (sample.engine.map (fun m => (m.line, m.edgeCount, m.edges.num)) = some (21, 31, 32)
        ∧ (sample.line 21).attempts + 1 < (sample.line 21).record.attempts.num ∧ sample.probeQueue = [20]
        ∧ (∀ i, fitsAt sample (min 2302 5000) i = false) ∧ (20 : LineNo) ≠ 21 ∧ (21 : LineNo) ∉ sample.probeQueue
        ∧ (sample.line 21).rxd = .mark)
      ∧ ([FailureOption.dark, .fallback, .hold].all fun f =>
        let s := lastAttempt f
        decide (s.engine.map (fun m => (m.line, m.edgeCount)) = some (3, 31) ∧ s.probeQueue = []
          ∧ (s.line 3).record.attempts.num ≤ (s.line 3).attempts + 1 ∧ (s.line 3).rxd = .space
          ∧ (s.line 3).record.failure = f)) = true
      ∧ (let s := (lastAttempt .dark).modLine 3 fun u => { u with floor := { u.floor with state := .held 4 } }
        (s.line 3).floor.state = .held 4 ∧ (s.line 3).record.failure = .dark
          ∧ (s.line 3).record.attempts.num ≤ (s.line 3).attempts + 1)
      ∧ engineOf (windowOver (lastAttempt .dark)) (fun m => decide (m.windowLeft = 0)) = true
      ∧ engineOf (pulseOf 50790 (lastAttempt .dark)) (fun m => decide (65535 ≤ m.pulse + (periodsInMs m.elapsed - m.phase))) = true
      ∧ engineOf (pulseOf 50789 (lastAttempt .dark)) (fun m => decide (m.pulse + (periodsInMs m.elapsed - m.phase) < 65535)) = true
      ∧ engineOf (lastAttempt .dark) (fun m => decide (m.pulse + 65534 < 65535)) = true
      ∧ engineOf (measuring 3 0 none) (fun m => decide (m.edgeCount = 0)) = true
      ∧ (let s := measuring 3 31 (some 1531)
        s.engine.map (fun m => (m.line, m.edgeCount, m.edges.num)) = some (3, 31, 32) ∧ fitsAt s 1531 4 = true
          ∧ (∀ j, fitsAt s 1531 j = true → j = 4) ∧ (3 : LineNo) ∉ s.probeQueue) := by decide +kernel

/-- Line 3 at a sample expiry. -/
def sampling (m : MonitorState) (count chars errors fast long : Nat) (seed : Bool) (streak : Nat) (p : RatePolicy) :
    State :=
  withLine 3 fun u =>
    { u with
      record := { u.record with policy := p }
      streak := streak
      monitor := { u.monitor with
        state := m, count := count, chars := chars, errors := errors, fast := fast, long := long
        seedPending := seed, sampleLeft := some 0 } }

/-- An error streak at its limit after this interval. -/
def streakLost (s : State) : Bool :=
  let v := s.line 3
  decide (v.record.policy = .auto ∧ v.record.streakLimit ≠ 0 ∧ max 4 (v.monitor.chars / 8) ≤ v.monitor.errors
    ∧ v.record.streakLimit ≤ v.streak + 1)

/-- Line 3 at the expiry at which its streak reaches the limit and, from RISING at one below its count, a burst begins,
under a burst snapshot option. -/
def lostInBurst (o : Option SnapshotLengths) : State :=
  (sampling .rising 1 380 60 1840 343 false 2 .auto).modLine 3 fun u =>
    { u with record := { u.record with burstSnapshot := o } }

/-- The burst begins before the streak is judged: its snapshot is taken, or counts a retrigger, and the exit from LIVE
truncates it (R61, R67, R98, R99, R101); the marks are in that order (R39, R54). -/
theorem test_sampleExpiry_burst_then_lost :
    let t := after (lostInBurst (some { pre := 8192, post := 0 })) (.sampleExpiry 3)
    let u := after (lostInBurst (some { pre := 8, post := 8 })) (.sampleExpiry 3)
    let w := after ((lostInBurst (some { pre := 8, post := 8 })).setSlot 7 (fillingFor 3)) (.sampleExpiry 3)
    (t.slot 0).state = .complete ∧ (t.slot 0).truncated = false
      ∧ (u.slot 0).state = .complete ∧ (u.slot 0).truncated = true ∧ (u.slot 0).cause = some .burst
      ∧ (w.slot 7).state = .complete ∧ (w.slot 7).truncated = true ∧ (w.slot 7).retriggers = 1 ∧ w.slot 0 = .reset
      ∧ ((u.line 3).marks.map (·.kind)).drop 1 = [.burstBegin, .snapshot, .rateLost, .measureBegin] := by decide +kernel

theorem witness_SampleExpirySteps :
    (let s := sampling .quiet 0 20 0 0 0 true 0 .fixed
     (s.line 3).state = .live ∧ (s.line 3).monitor.seedPending = true ∧ streakLost s = false)
    ∧ (let s := sampling .rising 1 380 0 1840 343 false 0 .fixed
      (s.line 3).state = .live ∧ (s.line 3).monitor.seedPending = false ∧ streakLost s = false
        ∧ (after s (.sampleExpiry 3)).line 3 ≠ s.line 3
        ∧ ((after s (.sampleExpiry 3)).line 3).monitor.state = .burst)
    ∧ (let s := sampling .falling 2 20 0 910 343 false 0 .fixed
      (s.line 3).state = .live ∧ (s.line 3).monitor.seedPending = false
        ∧ ((after s (.sampleExpiry 3)).line 3).monitor.state = .quiet)
    ∧ (let s := sampling .quiet 0 60 9 0 0 false 2 .auto
      (s.line 3).state = .live ∧ streakLost s = true ∧ s.engine = none ∧ s.probeQueue = [] ∧ noneFilling s 3)
    ∧ (let s := (sampling .quiet 0 60 9 0 0 false 2 .auto).setSlot 7 (fillingFor 3)
      (s.line 3).state = .live ∧ streakLost s = true ∧ s.engine = none ∧ s.probeQueue = [] ∧ firstFilling s 7 3)
    ∧ (let s := { sampling .quiet 0 60 9 0 0 false 2 .auto with engine := (measuring 21 31 none).engine }
      streakLost s = true ∧ s.engine ≠ none ∧ s.upFree = false ∧ s.unit.collector = 0)
    ∧ (let s := { sampling .quiet 0 60 9 0 0 false 2 .auto with upLink := true }
      streakLost s = true ∧ s.upFree = true ∧ s.unit.collector = 0)
    ∧ (let s := (sampling .rising 1 380 0 1840 343 false 0 .fixed).modLine 3 fun u =>
        { u with record := { u.record with burstSnapshot := some { pre := 8192, post := 1 } } }
      ((after s (.sampleExpiry 3)).line 3).monitor.state = .burst ∧ (s.line 3).marks.length ≤ 32
        ∧ (s.slot 0).state = .free ∧ (s.line 3).record.burstSnapshot = some { pre := 8192, post := 1 })
    ∧ ([none, some { pre := 8192, post := 0 }, some { pre := 8, post := 8 }].all fun o =>
        let s := lostInBurst o
        streakLost s && decide ((s.line 3).state = .live ∧ (s.line 3).monitor.seedPending = false
          ∧ (s.line 3).record.burstSnapshot = o ∧ s.engine = none ∧ s.probeQueue = [] ∧ (s.line 3).marks.length ≤ 32
          ∧ (s.slot 0).state = .free ∧ noneFilling s 3
          ∧ ((monitorExpiry 3 s).line 3).monitor.state = .burst)) = true
    ∧ (let s := (lostInBurst (some { pre := 8, post := 8 })).setSlot 7 (fillingFor 3)
      streakLost s = true ∧ firstFilling s 7 3)
    ∧ (let s := sampling .falling 2 20 60 910 343 false 2 .auto
      streakLost s = true ∧ s.engine = none ∧ s.probeQueue = [] ∧ ((monitorExpiry 3 s).line 3).monitor.state = .quiet)
    ∧ (let s := sampling .quiet 0 20 60 0 0 true 2 .auto
      streakLost s = true ∧ s.engine = none ∧ s.probeQueue = [] ∧ (s.line 3).monitor.seedPending = true)
    ∧ ((State.reset.line 3).monitor.sampleLeft ≠ some 0 ∧ (sample.line 23).state ≠ .live) := by decide +kernel

theorem witness_TimersEnd :
    (let s := withLine 3 fun u =>
        { u with monitor := { u.monitor with state := .falling, burstLeft := some 0 }, floor := { u.floor with busy := true } }
     (s.line 3).monitor.burstLeft = some 0 ∧ (s.line 3).monitor.state = .falling)
    ∧ (let s := withLine 3 fun u => u.setPair 9 { hits := 1, holdoff := some 0, fires := 1 }
      ((s.line 3).pair 9).holdoff = some 0 ∧ ((s.line 3).pair 8).holdoff ≠ some 0)
    ∧ ((withSlot 0 { fillingFor 3 with fillLeft := some 0 }).slot 0).fillLeft = some 0
    ∧ (sample.slot 0).state = .filling ∧ (sample.slot 0).fillLeft ≠ some 0 ∧ (sample.slot 7).state ≠ .filling
    ∧ ((withLine 3 fun u => { u with gather := some 4607 }).line 3).gather = some 4607
    ∧ (sample.line 2).gather = some 19200 ∧ (sample.line 3).gather = none
    ∧ (sample.line 2).monitor.burstLeft ≠ some 0 := by decide +kernel

/-- Session 4 at the end of its keep timer. -/
def keepEnds (f : FloorState) (waiting : List SessionNo) : State :=
  (withFloor f waiting).modSession 4 fun r => { r with keepLeft := some 0 }

theorem witness_KeepAndIdleExpire :
    ([keepEnds .free [], keepEnds (.held 7) [4], keepEnds (.held 4) [], keepEnds (.parked 4) [],
        keepEnds (.held 4) [7]].all fun s =>
      decide ((s.session 4).isOpen = true ∧ (s.session 4).keepLeft = some 0 ∧ (s.session 4).line = 2)) = true
      ∧ ((keepEnds (.held 7) [4]).line 2).floor.state ≠ .held 4
      ∧ (((keepEnds (.held 4) []).line 2).floor.state = .held 4 ∧ ((keepEnds (.held 4) []).line 2).floor.waiting = [])
      ∧ ((keepEnds (.parked 4) []).line 2).floor.state = .parked 4
      ∧ (((keepEnds (.held 4) [7]).line 2).floor.state = .held 4
        ∧ (keepEnds (.held 4) [7]).nextWaiter? ((keepEnds (.held 4) [7]).line 2).floor.waiting = some 7)
      ∧ ((sample.session 5).isOpen = false ∧ (sample.session 4).keepLeft ≠ some 0)
      ∧ (((idleOut (withFloor (.held 4) [])).line 2).floor.state = .held 4
        ∧ ((idleOut (withFloor (.held 4) [])).line 2).floor.idle = .running 0
        ∧ ((idleOut (withFloor (.held 4) [])).line 2).floor.waiting = [])
      ∧ (((idleOut sample).line 2).floor.state = .held 4 ∧ ((idleOut sample).line 2).floor.idle = .running 0
        ∧ (idleOut sample).nextWaiter? ((idleOut sample).line 2).floor.waiting = some 7)
      ∧ ((sample.line 2).floor.idle ≠ .running 0 ∧ ∀ h, (sample.line 3).floor.state ≠ .held h) := by decide +kernel

/-- A part whose collector is set, with responses waiting. -/
def collecting (waiting : Nat) : State :=
  { (withLine 3 fun u => { u with summary := .reset }) with
    unit := { UnitRecord.reset with collector := 9 }
    responses := List.replicate waiting { frame := someResponse, resets := false } }

/-- The LOST notices of a lapse: lines in ascending order, reason ATTENDANCE (R128, R144, section 11.4). -/
theorem test_attendanceExpiry_notices :
    let s := { ((sample.modLine 9 fun u => { u with floor := { u.floor with state := .parked 7 } }) : State) with
      attendance := { state := .attended, left := some 0, lapses := 0 } }
    ((after s .attendanceExpiry).responses.map fun q => (q.frame.kind, q.frame.session, q.frame.body))
      = [(0xC2#8, 4#8, [2#8, 1#8, 7#8, 0#8, 255#8, 0#8]), (0xC2#8, 7#8, [9#8, 1#8, 7#8, 0#8, 255#8, 0#8])] := by
  decide +kernel

theorem witness_AttendanceLapseFreesFloors :
    (let s := { sample with attendance := { state := .attended, left := some 0, lapses := 0 } }
     s.attendance.state = .attended ∧ s.attendance.left = some 0 ∧ (s.line 2).floor.state = .held 4 ∧ s.upFree = false)
    ∧ (let s := { collecting 0 with
          upLink := true, attendance := { state := .attended, left := some 0, lapses := 0 }
          unitSummary := { kinds := 0, outcome := .none } }
      s.attendance.state = .attended ∧ s.upFree = true ∧ s.responses = [] ∧ s.heldPlaces < 16 ∧ s.unit.collector ≠ 0
        ∧ s.unitSummary.kinds = 0)
    ∧ ((withFloor (.parked 4) []).line 2).floor.state = .parked 4
    ∧ State.reset.attendance.state ≠ .attended
    ∧ ({ State.reset with attendance := { state := .attended, left := some 1, lapses := 0 } } : State).attendance.left ≠ some 0 := by decide +kernel

theorem witness_MarksAndEventsRecorded :
    (State.reset.line 3).marks.length < 32
      ∧ (let s := withLine 3 fun u =>
          { u with marks := List.replicate 32 { offset := 0, stamp := 0, kind := .rateSet, arg := 4 } }
        32 ≤ (s.line 3).marks.length)
      ∧ (State.reset.line 3).summary.kinds ≠ 0
      ∧ (((withLine 3 fun u => { u with summary := .reset }).line 3).summary.kinds = 0 ∧ State.reset.unit.collector = 0)
      ∧ (let s := collecting 15
        (s.line 3).summary.kinds = 0 ∧ s.unit.collector ≠ 0 ∧ (s.line 3).record.alerts = true
          ∧ ¬ 16 ≤ s.responses.length + s.heldPlaces ∧ s.upFree = false)
      ∧ (let s := { collecting 0 with upLink := true }
        (s.line 3).summary.kinds = 0 ∧ s.unit.collector ≠ 0 ∧ (s.line 3).record.alerts = true
          ∧ s.upFree = true ∧ s.responses = [] ∧ ¬ 16 ≤ s.responses.length + s.heldPlaces)
      ∧ (let s := collecting 16
        (s.line 3).summary.kinds = 0 ∧ s.unit.collector ≠ 0 ∧ (s.line 3).record.alerts = true
          ∧ 16 ≤ s.responses.length + s.heldPlaces ∧ s.unitSummary.kinds ≠ 0)
      ∧ (let s := { collecting 16 with unitSummary := { kinds := 0, outcome := .none } }
        16 ≤ s.responses.length + s.heldPlaces ∧ s.unitSummary.kinds = 0 ∧ s.unit.collector ≠ 0)
      ∧ State.reset.unitSummary.kinds ≠ 0
      ∧ (let s := { State.reset with unitSummary := { kinds := 0, outcome := .none } }
        s.unitSummary.kinds = 0 ∧ s.unit.collector = 0)
      ∧ (let s := { collecting 0 with upLink := true, unitSummary := { kinds := 0, outcome := .none } }
        s.unitSummary.kinds = 0 ∧ s.unit.collector ≠ 0 ∧ ¬ 16 ≤ s.responses.length + s.heldPlaces ∧ s.upFree = true
          ∧ s.responses = [])
      ∧ (let s := { collecting 15 with unitSummary := { kinds := 0, outcome := .none } }
        s.unitSummary.kinds = 0 ∧ s.unit.collector ≠ 0 ∧ ¬ 16 ≤ s.responses.length + s.heldPlaces ∧ s.upFree = false) := by
  decide +kernel

end Sys2Proof.Tests
end

section
/-! SUPPORT. Changes of the part that keep its lines within their laws: what the operations of the blocks leave of the
configuration, the counts and the line states. -/

namespace Sys2Proof.Machine

/-! ### What the laws of lines read -/

/-- Two states agree in all that the laws of lines, probe queue and configuration read. -/
structure State.SameBoard (s t : State) : Prop where
  lines : t.lines = s.lines
  rates : t.rates = s.rates
  entries : t.entries = s.entries
  unit : t.unit = s.unit
  unitNumber : t.unitNumber = s.unitNumber
  probeQueue : t.probeQueue = s.probeQueue
  engine : t.engine = s.engine
  begun : t.begun = s.begun

theorem State.SameBoard.line {s t : State} (h : s.SameBoard t) (l : LineNo) : t.line l = s.line l := by
  simp [State.line, h.lines]

theorem State.SameBoard.entry {s t : State} (h : s.SameBoard t) (i : EntryNo) : t.entry i = s.entry i := by
  simp [State.entry, h.entries]

/-! ### Lines that stay within their ranges -/

/-- The lists and counts of a line within their ranges, whatever its state (R13, R39, R60, R80). -/
def Line.listsLaw (u : Line) : Prop :=
  u.injection.length ≤ Config.injectionCapacity ∧ u.matchWindow.length ≤ Config.windowBytes ∧ u.streak ≤ 15
    ∧ u.monitor.inRange

/-- The error streak of a LIVE line stays below the limit at which it loses its rate (R39). -/
def Line.streakLaw (u : Line) : Prop := u.state = .live → u.streak ≤ 14

theorem countsLaw_iff {u : Line} : u.countsLaw ↔ u.listsLaw ∧ u.streakLaw := by
  simp only [Line.countsLaw, Line.listsLaw, Line.streakLaw]
  tauto

/-- A line's configuration is kept, its lists and counts stay in range, and its hit counts below the `needs` of their
entries. -/
structure Line.InRangeStill (needs : EntryNo → Nat) (u v : Line) : Prop where
  record : v.record = u.record
  params : v.params = u.params
  lists : u.params.inRange → u.record.streakLimit ≤ 15 → u.listsLaw → v.listsLaw
  streak : u.record.streakLimit ≤ 15 → u.streakLaw → v.streakLaw
  hits : (∀ i, 1 ≤ needs i) → (∀ i, (u.pair i).hits < needs i) → ∀ i, (v.pair i).hits < needs i

/-- Besides, the line keeps its state and attempt count and stays within the law of its state. -/
structure Line.Steady (needs : EntryNo → Nat) (u v : Line) : Prop extends Line.InRangeStill needs u v where
  state : v.state = u.state
  attempts : v.attempts = u.attempts
  law : u.stateLaw → v.stateLaw

variable {needs : EntryNo → Nat} {u v w : Line}

theorem Line.InRangeStill.refl (u : Line) : u.InRangeStill needs u := ⟨rfl, rfl, fun _ _ h => h, fun _ h => h, fun _ h => h⟩

theorem Line.InRangeStill.trans (h : u.InRangeStill needs v) (k : v.InRangeStill needs w) : u.InRangeStill needs w where
  record := k.record.trans h.record
  params := k.params.trans h.params
  lists := fun hp hr hc => k.lists (h.params ▸ hp) (h.record ▸ hr) (h.lists hp hr hc)
  streak := fun hr hc => k.streak (h.record ▸ hr) (h.streak hr hc)
  hits := fun hn hh => k.hits hn (h.hits hn hh)

theorem Line.Steady.refl (u : Line) : u.Steady needs u := ⟨.refl u, rfl, rfl, id⟩

theorem Line.Steady.trans (h : u.Steady needs v) (k : v.Steady needs w) : u.Steady needs w where
  toInRangeStill := h.toInRangeStill.trans k.toInRangeStill
  state := k.state.trans h.state
  attempts := k.attempts.trans h.attempts
  law := fun hu => k.law (h.law hu)

/-! ### Steady changes of one line -/

/-- An idle transmitter obeys the law in every line state. -/
theorem txLaw_of_idle (h : u.tx = .idle) : u.txLaw := by
  unfold Line.txLaw
  rw [h]
  cases u.state <;> trivial

/-- What a transmitter that is not idle says of the line's state. -/
theorem state_of_tx (h : u.txLaw) :
    (∀ b f, u.tx = .byte b f → u.state = .live) ∧ (∀ n, u.tx = .breakSpace n → u.state = .live)
      ∧ (∀ n, u.tx = .breakMark n → u.state = .live) ∧ (∀ f r, u.tx = .probe f r → u.state = .measuring)
      ∧ ∀ b f, u.tx = .pattern b f → u.state = .loop := by
  unfold Line.txLaw at h
  refine ⟨?_, ?_, ?_, ?_, ?_⟩ <;> intros <;> simp_all <;> split at h <;> simp_all

/-- The history, the reports, the pins and the floor of a line may change freely. -/
theorem Line.Steady.report (u : Line) (ms : List Mark) (loss : Word32) (m : LineSummary) (f : Floor) (r : Ring)
    (c : LineCounters) (rx : Receiver) (rxd : Level) (gap : Option Nat) :
    u.Steady needs
      { u with
        marks := ms, markLoss := loss, summary := m, floor := f, ring := r, counters := c, rx := rx, rxd := rxd
        gap := gap } :=
  ⟨⟨rfl, rfl, fun _ _ h => h, fun _ h => h, fun _ h => h⟩, rfl, rfl, fun h => h⟩

/-- A transmitter that has done may fall idle. -/
theorem Line.Steady.txIdle (u : Line) (gap : Option Nat) (c : LineCounters) :
    u.Steady needs { u with tx := .idle, gap := gap, counters := c } where
  toInRangeStill := ⟨rfl, rfl, fun _ _ h => h, fun _ h => h, fun _ h => h⟩
  state := rfl
  attempts := rfl
  law := fun ⟨ht, hc, hs, hstill, _, hg⟩ => ⟨ht, hc, hs, hstill, txLaw_of_idle rfl, hg⟩

/-- The trailing mark of a BREAK follows its space. -/
theorem Line.Steady.txBreakMark (u : Line) {n : Nat} (h : u.tx = .breakSpace n) (k : Nat) :
    u.Steady needs { u with tx := .breakMark k } where
  toInRangeStill := ⟨rfl, rfl, fun _ _ h => h, fun _ h => h, fun _ h => h⟩
  state := rfl
  attempts := rfl
  law := fun ⟨ht, hc, hs, hstill, htx, hg⟩ => by
    have hl : u.state = .live := (state_of_tx htx).2.1 n h
    exact ⟨ht, hc, hs, hstill, by simp [Line.txLaw, hl], hg⟩

/-- A LIVE line's transmitter takes an element from its queue. -/
theorem Line.Steady.takesElement (u : Line) (hl : u.state = .live) {e : Element} {rest : List Element}
    (hq : u.injection = e :: rest) {tx : Transmitter} (htx : (∃ b f, tx = .byte b f) ∨ ∃ n, tx = .breakSpace n)
    (c : LineCounters) (ms : List Mark) (loss : Word32) (gap : Option Nat) :
    u.Steady needs
      { u with injection := rest, gap := gap, tx := tx, counters := c, marks := ms, markLoss := loss } where
  record := rfl
  params := rfl
  lists := fun _ _ ⟨hi, hrest⟩ => ⟨by rw [hq] at hi; exact Nat.le_of_succ_le hi, hrest⟩
  streak := fun _ h => h
  hits := fun _ h => h
  state := rfl
  attempts := rfl
  law := fun ⟨ht, hc, hs, _, _, hg⟩ =>
    ⟨ht, hc, hs, fun hn => absurd hl hn, by rcases htx with ⟨b, f, rfl⟩ | ⟨n, rfl⟩ <;> simp [Line.txLaw, hl], hg⟩

/-- Elements join the queue of a LIVE line as far as it has room. -/
theorem Line.Steady.queues (u : Line) (hl : u.state = .live) {q : List Element}
    (hq : q.length ≤ max u.injection.length Config.injectionCapacity) (c : LineCounters) (f : Floor) :
    u.Steady needs { u with injection := q, counters := c, floor := f } where
  record := rfl
  params := rfl
  lists := fun _ _ ⟨hi, hrest⟩ => ⟨hq.trans (max_le hi le_rfl), hrest⟩
  streak := fun _ h => h
  hits := fun _ h => h
  state := rfl
  attempts := rfl
  law := fun ⟨ht, hc, hs, _, htx, hg⟩ => ⟨ht, hc, hs, fun hn => absurd hl hn, htx, hg⟩

/-- A hold may end on any line. -/
theorem Line.Steady.unheld (u : Line) : u.Steady needs { u with hold := none } where
  toInRangeStill := ⟨rfl, rfl, fun _ _ h => h, fun _ h => h, fun _ h => h⟩
  state := rfl
  attempts := rfl
  law := fun ⟨ht, hc, hs, hstill, htx, hg⟩ =>
    ⟨ht, hc, hs, fun hn => by obtain ⟨hi, _, hr⟩ := hstill hn; exact ⟨hi, rfl, hr⟩, htx, hg⟩

/-- A LIVE line may be held. -/
theorem Line.Steady.holds (u : Line) (hl : u.state = .live) (h : Option Word32) :
    u.Steady needs { u with hold := h } where
  toInRangeStill := ⟨rfl, rfl, fun _ _ h => h, fun _ h => h, fun _ h => h⟩
  state := rfl
  attempts := rfl
  law := fun ⟨ht, hc, hs, _, htx, hg⟩ => ⟨ht, hc, hs, fun hn => absurd hl hn, htx, hg⟩

/-- An attendance lapse flushes a LIVE line. -/
theorem Line.Steady.flushes (u : Line) : u.Steady needs u.flushed := by
  unfold Line.flushed
  split
  · next hl =>
    exact (Line.Steady.queues u hl (q := []) (by simp) u.counters u.floor).trans (.unheld _)
  · exact .refl u

/-- The monitor of a LIVE line goes on within its ranges, its sample timer running. -/
theorem Line.Steady.monitors (u : Line) (hl : u.state = .live) {m : Monitor}
    (hr : u.params.inRange → u.monitor.inRange → m.inRange)
    (hs : u.monitor.sampleLeft.isSome = true → m.sampleLeft.isSome = true) :
    u.Steady needs { u with monitor := m } where
  record := rfl
  params := rfl
  lists := fun hp _ ⟨hi, hw, hst, hm⟩ => ⟨hi, hw, hst, hr hp hm⟩
  streak := fun _ h => h
  hits := fun _ h => h
  state := rfl
  attempts := rfl
  law := fun ⟨ht, hc, hsm, _, htx, hg⟩ => ⟨ht, hc, fun hn => hs (hsm hn), fun hn => absurd hl hn, htx, hg⟩

/-- The gather timer of a LIVE line starts, and the line is not settled. -/
theorem Line.Steady.gathers (u : Line) (hl : u.state = .live) (n : Nat) :
    u.Steady needs { u with settled := false, gather := some n } where
  toInRangeStill := ⟨rfl, rfl, fun _ _ h => h, fun _ h => h, fun _ h => h⟩
  state := rfl
  attempts := rfl
  law := fun ⟨ht, hc, hs, _, htx, _⟩ => ⟨ht, hc, hs, fun hn => absurd hl hn, htx, rfl⟩

/-- A line settles. -/
theorem Line.Steady.settles (u : Line) : u.Steady needs { u with settled := true, gather := none } where
  toInRangeStill := ⟨rfl, rfl, fun _ _ h => h, fun _ h => h, fun _ h => h⟩
  state := rfl
  attempts := rfl
  law := fun ⟨ht, hc, hs, hstill, htx, _⟩ =>
    ⟨ht, hc, hs, fun hn => by obtain ⟨hi, hh, h1, h2, h3, h4, h5, h6, _⟩ := hstill hn; exact ⟨hi, hh, h1, h2, h3, h4, h5, h6, rfl⟩,
      htx, rfl⟩

/-- The Watch Unit's part of a line moves on, window and hit counts in range. -/
theorem Line.Steady.watches (u : Line) {w : List Byte} {ps : Vector WatchPair 64}
    (hw : u.matchWindow.length ≤ Config.windowBytes → w.length ≤ Config.windowBytes)
    (hh : (∀ i, 1 ≤ needs i) → (∀ i, (u.pair i).hits < needs i) → ∀ i : EntryNo, ps[i.val].hits < needs i) :
    u.Steady needs { u with matchWindow := w, watch := ps } where
  record := rfl
  params := rfl
  lists := fun _ _ ⟨hi, hwin, hrest⟩ => ⟨hi, hw hwin, hrest⟩
  streak := fun _ h => h
  hits := hh
  state := rfl
  attempts := rfl
  law := fun h => h

/-- The streak of a LIVE line stays below the limit at which the rate is lost. -/
theorem Line.Steady.streaks (u : Line) {n : Nat} (hn : u.record.streakLimit ≤ 15 → n ≤ 14) :
    u.Steady needs { u with streak := n } where
  record := rfl
  params := rfl
  lists := fun _ hr ⟨hi, hw, _, hm⟩ => ⟨hi, hw, (hn hr).trans (by decide), hm⟩
  streak := fun hr _ _ => hn hr
  hits := fun _ h => h
  state := rfl
  attempts := rfl
  law := fun h => h

/-- A loopback test goes on. -/
theorem Line.Steady.tests (u : Line) {x : LoopTest} (hx : u.test = some x) (y : LoopTest) {tx : Transmitter}
    (htx : tx = u.tx ∨ tx = .idle ∨ ∃ b f, tx = .pattern b f) :
    u.Steady needs { u with test := some y, tx := tx } where
  toInRangeStill := ⟨rfl, rfl, fun _ _ h => h, fun _ h => h, fun _ h => h⟩
  state := rfl
  attempts := rfl
  law := fun ⟨ht, hc, hs, hstill, htx', hg⟩ => by
    have hl : u.state = .loop := ht.mp (by rw [hx]; rfl)
    refine ⟨⟨fun _ => hl, fun _ => rfl⟩, hc, hs, hstill, ?_, hg⟩
    rcases htx with rfl | rfl | ⟨b, f, rfl⟩
    · exact htx'
    · exact txLaw_of_idle rfl
    · simp [Line.txLaw, hl]

/-- A restart waits for the end of a test, if one runs. -/
theorem Line.Steady.restartPends (u : Line) :
    u.Steady needs { u with test := u.test.map fun x => { x with restartPending := true } } where
  toInRangeStill := ⟨rfl, rfl, fun _ _ h => h, fun _ h => h, fun _ h => h⟩
  state := rfl
  attempts := rfl
  law := fun ⟨ht, hrest⟩ => ⟨by simpa using ht, hrest⟩

/-- A millisecond passes for a transmitter of which the law holds. -/
theorem txLaw_tick (h : u.txLaw) (ht : v.tx = u.tx.tick) (hs : v.state = u.state) : v.txLaw := by
  unfold Line.txLaw at h ⊢
  rw [ht, hs]
  cases htx : u.tx <;> cases hst : u.state <;> simp_all [Transmitter.tick]

/-- What a millisecond leaves of a line: its timers fall, nothing else moves. -/
theorem Line.tick_eq (u : Line) :
    u.tick =
      { u with
        watch := (u.mapPairs WatchPair.tick).watch
        gap := lessTime 1 u.gap
        tx := u.tx.tick
        test := u.test.map fun t => { t with wait := lessTime Config.ticksPerMs t.wait }
        monitor := { u.monitor with
          burstLeft := lessTime 1 u.monitor.burstLeft, sampleLeft := lessTime 1 u.monitor.sampleLeft }
        gather := lessTime Config.ticksPerMs u.gather
        floor := { u.floor with idle := u.floor.idle.tick } } := by
  simp only [Line.tick, Line.mapPairs]

theorem Line.tick_hits (u : Line) (i : EntryNo) : (u.tick.pair i).hits = (u.pair i).hits := by
  have hp : u.tick.pair i = (u.mapPairs WatchPair.tick).pair i := by rw [Line.tick_eq]; rfl
  rw [hp, mapPairs_pair]
  rfl

/-- A millisecond passes for a line. -/
theorem Line.Steady.ticks (u : Line) : u.Steady needs u.tick where
  record := by rw [Line.tick_eq]
  params := by rw [Line.tick_eq]
  lists := fun _ _ h => by rw [Line.tick_eq]; exact h
  streak := fun _ h => by rw [Line.tick_eq]; exact h
  hits := fun _ h i => by rw [Line.tick_hits]; exact h i
  state := by rw [Line.tick_eq]
  attempts := by rw [Line.tick_eq]
  law := fun ⟨ht, hc, hs, hstill, htx, hg⟩ => by
    rw [Line.tick_eq]
    refine ⟨by simpa using ht, hc, by simpa [lessTime] using hs, fun hn => ?_, txLaw_tick htx rfl rfl,
      by simpa [lessTime] using hg⟩
    obtain ⟨hi, hh, h1, h2, h3, h4, h5, h6, h7⟩ := hstill hn
    exact ⟨hi, hh, h1, h2, by simp [h3, lessTime], by simp [h4, lessTime], h5, h6, by simp [h7, lessTime]⟩

end Sys2Proof.Machine
end

section
/-! SUPPORT. The same changes told of the whole part, and that the operations which leave every line in its state are
among them. -/

namespace Sys2Proof.Machine

/-- The hits that each watch entry needs. -/
def State.needs (s : State) (i : EntryNo) : Nat := (s.entry i).hitsNeeded

/-- Settings are kept, and every line's lists and counts stay in range. -/
structure State.InRangeStill (s t : State) : Prop where
  line : ∀ l, (s.line l).InRangeStill s.needs (t.line l)
  rates : t.rates = s.rates
  entries : t.entries = s.entries
  unit : t.unit = s.unit
  unitNumber : t.unitNumber = s.unitNumber

/-- Besides, every line keeps its state and stays within its law, and the Rate Probe measures the same line. -/
structure State.Steady (s t : State) : Prop where
  line : ∀ l, (s.line l).Steady s.needs (t.line l)
  rates : t.rates = s.rates
  entries : t.entries = s.entries
  unit : t.unit = s.unit
  unitNumber : t.unitNumber = s.unitNumber
  probeQueue : t.probeQueue = s.probeQueue
  begun : t.begun = s.begun
  engine : t.engine.map (fun m => (m.line, m.number)) = s.engine.map fun m => (m.line, m.number)

theorem needs_of_entries {s t : State} (h : t.entries = s.entries) : t.needs = s.needs := by
  funext i; simp [State.needs, State.entry, h]

theorem State.Steady.inRangeStill {s t : State} (h : s.Steady t) : s.InRangeStill t :=
  ⟨fun l => (h.line l).toInRangeStill, h.rates, h.entries, h.unit, h.unitNumber⟩

namespace State.InRangeStill

theorem refl (s : State) : s.InRangeStill s := ⟨fun _ => .refl _, rfl, rfl, rfl, rfl⟩

theorem trans {s t w : State} (h : s.InRangeStill t) (k : t.InRangeStill w) : s.InRangeStill w where
  line := fun l => (h.line l).trans (by have := k.line l; rwa [needs_of_entries h.entries] at this)
  rates := k.rates.trans h.rates
  entries := k.entries.trans h.entries
  unit := k.unit.trans h.unit
  unitNumber := k.unitNumber.trans h.unitNumber

theorem setLine {s : State} {l : LineNo} {v : Line} (h : (s.line l).InRangeStill s.needs v) :
    s.InRangeStill (s.setLine l v) where
  line := fun j => by
    by_cases hj : j = l
    · subst hj; simpa using h
    · rw [setLine_line_ne s v hj]; exact .refl _
  rates := rfl
  entries := rfl
  unit := rfl
  unitNumber := rfl

/-- Settings that were in range are so still. -/
theorem configLaw {s t : State} (h : s.InRangeStill t) (hs : s.configLaw) : t.configLaw := by
  obtain ⟨hl, he, hr, hu, hn⟩ := hs
  refine ⟨fun l => ?_, fun i => ?_, fun i => ?_, h.unit ▸ hu, h.unitNumber ▸ hn⟩
  · rw [(h.line l).record, (h.line l).params, h.rates]; exact hl l
  · simpa [State.entry, h.entries] using he i
  · simpa [State.rateAt, h.rates] using hr i

/-- Hit counts below what their entries need are so still. -/
theorem hitsLaw {s t : State} (h : s.InRangeStill t) (hs : s.configLaw) (hh : s.hitsLaw) : t.hitsLaw := fun l i => by
  obtain ⟨-, he, -⟩ := hs
  have hentry : t.entry i = s.entry i := by simp only [State.entry, h.entries]
  rw [hentry]
  refine (h.line l).hits (fun i => ?_) (hh l) i
  obtain ⟨-, -, hneeds, -⟩ := he i
  exact hneeds

/-- Lists and counts that were in range are so still. -/
theorem listsLaw {s t : State} (h : s.InRangeStill t) (hs : s.configLaw) (l : LineNo) (hc : (s.line l).listsLaw) :
    (t.line l).listsLaw := by
  obtain ⟨hl, -⟩ := hs
  obtain ⟨⟨_, _, hstreak, _⟩, hp⟩ := hl l
  exact (h.line l).lists hp hstreak hc

/-- An error streak below the limit is so still. -/
theorem streakLaw {s t : State} (h : s.InRangeStill t) (hs : s.configLaw) (l : LineNo) (hc : (s.line l).streakLaw) :
    (t.line l).streakLaw := by
  obtain ⟨hl, -⟩ := hs
  obtain ⟨⟨_, _, hstreak, _⟩, -⟩ := hl l
  exact (h.line l).streak hstreak hc

theorem countsLaw {s t : State} (h : s.InRangeStill t) (hs : s.configLaw) (l : LineNo) (hc : (s.line l).countsLaw) :
    (t.line l).countsLaw := by
  obtain ⟨hlists, hstreak⟩ := countsLaw_iff.mp hc
  exact countsLaw_iff.mpr ⟨h.listsLaw hs l hlists, h.streakLaw hs l hstreak⟩

end State.InRangeStill

namespace State.Steady

theorem refl (s : State) : s.Steady s := ⟨fun _ => .refl _, rfl, rfl, rfl, rfl, rfl, rfl, rfl⟩

theorem trans {s t w : State} (h : s.Steady t) (k : t.Steady w) : s.Steady w where
  line := fun l => (h.line l).trans (by have := k.line l; rwa [needs_of_entries h.entries] at this)
  rates := k.rates.trans h.rates
  entries := k.entries.trans h.entries
  unit := k.unit.trans h.unit
  unitNumber := k.unitNumber.trans h.unitNumber
  probeQueue := k.probeQueue.trans h.probeQueue
  begun := k.begun.trans h.begun
  engine := k.engine.trans h.engine

theorem ofBoard {s t : State} (h : s.SameBoard t) : s.Steady t where
  line := fun l => by rw [h.line l]; exact .refl _
  rates := h.rates
  entries := h.entries
  unit := h.unit
  unitNumber := h.unitNumber
  probeQueue := h.probeQueue
  begun := h.begun
  engine := by rw [h.engine]

/-- A steady change that follows one off the board. -/
theorem afterBoard {s t w : State} (k : t.Steady w) (h : s.SameBoard t) : s.Steady w := (ofBoard h).trans k

/-- A steady change of each line is one of the part. -/
theorem mapLines {s : State} {f : LineNo → Line → Line} (h : ∀ l, (s.line l).Steady s.needs (f l (s.line l))) :
    s.Steady (s.mapLines f) := by
  constructor <;> simp
  exact h

theorem setLine {s : State} {l : LineNo} {v : Line} (h : (s.line l).Steady s.needs v) : s.Steady (s.setLine l v) where
  line := fun j => by
    by_cases hj : j = l
    · subst hj; simpa using h
    · rw [setLine_line_ne s v hj]; exact .refl _
  rates := rfl
  entries := rfl
  unit := rfl
  unitNumber := rfl
  probeQueue := rfl
  begun := rfl
  engine := rfl

/-- What was told concerns no line. -/
theorem told {s t : State} (h : s.Steady t) (d : Told) : s.Steady (t.told d) :=
  h.trans (ofBoard ⟨rfl, rfl, rfl, rfl, rfl, rfl, rfl, rfl⟩)

/-- A slot written concerns no line. -/
theorem setSlot {s t : State} (h : s.Steady t) (k : SlotNo) (q : Slot) : s.Steady (t.setSlot k q) :=
  h.trans (ofBoard ⟨rfl, rfl, rfl, rfl, rfl, rfl, rfl, rfl⟩)

theorem state {s t : State} (h : s.Steady t) (l : LineNo) : (t.line l).state = (s.line l).state := (h.line l).state

/-- The measurement counts edges or time. -/
theorem counts {s : State} {m m' : Measurement} (hm : s.engine = some m) (hl : m'.line = m.line)
    (hn : m'.number = m.number) : s.Steady { s with engine := some m' } where
  line := fun _ => .refl _
  rates := rfl
  entries := rfl
  unit := rfl
  unitNumber := rfl
  probeQueue := rfl
  begun := rfl
  engine := by simp [hm, hl, hn]

/-- Something done for lines in turn. -/
theorem foldl {α : Type} {f : State → α → State} (h : ∀ a (t : State), t.Steady (f t a)) (as : List α) (s : State) :
    s.Steady (as.foldl f s) := by
  induction as generalizing s with
  | nil => exact refl s
  | cons a as ih => exact (h a s).trans (ih _)

theorem forLines {s : State} {f : LineNo → State → State} (h : ∀ l (t : State), t.Steady (f l t)) :
    s.Steady (s.forLines f) := foldl h _ s

theorem forSlots {s : State} {f : SlotNo → State → State} (h : ∀ k (t : State), t.Steady (f k t)) :
    s.Steady (s.forSlots f) := foldl h _ s

end State.Steady

/-! ### Alerts, frames, sessions and slots -/

theorem steady_raiseUnit (e : UnitEvent) (s : State) : s.Steady (raiseUnit e s) := by
  obtain ⟨d, h, -⟩ := raiseUnit_effect e s
  rw [h]; exact (State.Steady.refl s).told d

theorem steady_raiseLine (l : LineNo) (e : LineEvent) (w : BitVec 64) (rs : BitVec 3) (arg : Nat) (s : State) :
    s.Steady (raiseLine l e w rs arg s) := by
  obtain ⟨o, d, h, -⟩ := raiseLine_effect l e w rs arg s
  rw [h]; exact (State.Steady.setLine (.report _ _ _ _ _ _ _ _ _ _)).told d

theorem steady_grantData (s : State) : s.Steady (grantData s) := .ofBoard (by constructor <;> simp)

theorem steady_upGrant (s : State) : s.Steady (upGrant s) := .ofBoard (by constructor <;> simp)

theorem steady_pushResponse (s : State) (f : OutFrame) : s.Steady (s.pushResponse f) :=
  .ofBoard (by constructor <;> simp)

theorem steady_setSession (s : State) (i : SessionNo) (r : Session) : s.Steady (s.setSession i r) :=
  .ofBoard ⟨rfl, rfl, rfl, rfl, rfl, rfl, rfl, rfl⟩

theorem steady_mapSessions (s : State) (f : SessionNo → Session → Session) : s.Steady (s.mapSessions f) :=
  .ofBoard (by constructor <;> simp)

theorem steady_greet (rq : Request) (s : State) : s.Steady (greet rq s) := by
  obtain ⟨a, ss, h, -⟩ := greet_effect rq s
  rw [h]; exact .ofBoard ⟨rfl, rfl, rfl, rfl, rfl, rfl, rfl, rfl⟩

theorem steady_respond (rq : Request) (rep : Reply) (s : State) : s.Steady (respond rq rep s) :=
  .ofBoard ⟨rfl, rfl, rfl, rfl, rfl, rfl, rfl, rfl⟩

theorem steady_deliver (rq : Request) (a : Answer) : a.state.Steady (deliver rq a) := by
  unfold deliver
  split
  · exact (steady_grantData a.state).trans (steady_respond _ _ _)
  · exact .ofBoard ⟨rfl, rfl, rfl, rfl, rfl, rfl, rfl, rfl⟩

theorem steady_placeTest (f : OutFrame) (s : State) : s.Steady (placeTest f s) := by
  unfold placeTest
  split
  · exact steady_pushResponse s f
  · exact .ofBoard ⟨rfl, rfl, rfl, rfl, rfl, rfl, rfl, rfl⟩

theorem steady_abortTest (l : LineNo) (s : State) : s.Steady (abortTest l s) := by
  unfold abortTest
  split
  · exact .refl s
  · exact steady_placeTest _ s

theorem steady_appendMark (l : LineNo) (k : MarkKind) (a : Nat) (s : State) : s.Steady (appendMark l k a s) := by
  obtain ⟨_, _, h, -⟩ := appendMark_effect l k a s
  rw [h]; exact .setLine (.report _ _ _ _ _ _ _ _ _ _)

theorem steady_completeSlot (k : SlotNo) (b : Bool) (s : State) : s.Steady (completeSlot k b s) := by
  obtain ⟨m, d, h⟩ := completeSlot_effect k b s
  rw [h]
  exact (((State.Steady.refl s).setSlot k _).trans (.setLine (.report _ _ _ _ _ _ _ _ _ _))).told d

theorem steady_slotByte (l : LineNo) (b : Byte) (s : State) : s.Steady (slotByte l b s) := by
  unfold slotByte
  split
  · exact .refl s
  · next k _ =>
    simp only
    split
    · exact ((State.Steady.refl s).setSlot k _).trans (steady_completeSlot k false _)
    · exact (State.Steady.refl s).setSlot k _

theorem steady_reported {s t : State} {l : LineNo} {ms : List Mark} {loss : Word32} {m : LineSummary} {d : Told}
    (ht : t = s ∨ ∃ k q, t = s.setSlot k q) :
    s.Steady ((t.setLine l { s.line l with marks := ms, markLoss := loss, summary := m }).told d) := by
  rcases ht with rfl | ⟨k, q, rfl⟩
  · exact (State.Steady.setLine (.report _ _ _ _ _ _ _ _ _ _)).told d
  · exact (((State.Steady.refl s).setSlot k q).trans (.setLine (.report _ _ _ _ _ _ _ _ _ _))).told d

theorem steady_fireTrigger (g : Trigger) (s : State) : s.Steady (fireTrigger g s) := by
  obtain ⟨t, ms, loss, m, d, h, ht⟩ := fireTrigger_effect g s
  rw [h]; exact steady_reported ht

theorem steady_optionTrigger (l : LineNo) (c : Cause) (o : Option SnapshotLengths) (s : State) :
    s.Steady (optionTrigger l c o s) := by
  cases o with
  | none => exact .refl s
  | some p => exact steady_fireTrigger _ s

/-! ### Floors -/

theorem steady_floor (s : State) (l : LineNo) (f : Floor) (d : Told) :
    s.Steady ((s.setLine l { s.line l with floor := f }).told d) :=
  (State.Steady.setLine (.report _ _ _ _ _ _ _ _ _ _)).told d

theorem steady_modFloor (s : State) (l : LineNo) (f : Line → Floor) :
    s.Steady (s.modLine l fun u => { u with floor := f u }) :=
  State.Steady.setLine (.report _ _ _ _ _ _ _ _ _ _)

theorem steady_noticeLost (l : LineNo) (i : SessionNo) (r : Option LostReason) (s : State) :
    s.Steady (noticeLost l i r s) := by
  obtain ⟨d, h, -⟩ := noticeLost_effect l i r s
  rw [h]; exact (State.Steady.refl s).told d

theorem steady_releaseHeld (l : LineNo) (h : SessionNo) (r : Option LostReason) (e : FloorState) (s : State) :
    s.Steady (releaseHeld l h r e s) := by
  obtain ⟨f, d, h, -⟩ := releaseHeld_effect l h r e s
  rw [h]; exact steady_floor s l f d

theorem steady_clearFloor (l : LineNo) (r : LostReason) (s : State) : s.Steady (clearFloor l r s) := by
  obtain ⟨d, h, -⟩ := clearFloor_effect l r s
  rw [h]; exact steady_floor s l _ d

theorem steady_leaveFloor (i : SessionNo) (r : Option LostReason) (s : State) : s.Steady (leaveFloor i r s) := by
  obtain ⟨f, d, h⟩ := leaveFloor_effect i r s
  rw [h]; exact steady_floor s _ f d

theorem steady_closeRecord (i : SessionNo) (r : Option LostReason) (s : State) : s.Steady (closeRecord i r s) :=
  (steady_leaveFloor i r s).trans (steady_setSession _ i _)

theorem steady_becomeHolder (l : LineNo) (i : SessionNo) (s : State) : s.Steady (becomeHolder l i s) :=
  steady_modFloor s l _

theorem steady_restartIdle (l : LineNo) (s : State) : s.Steady (restartIdle l s) := by
  rw [restartIdle_effect]; exact .setLine (.report _ _ _ _ _ _ _ _ _ _)

theorem steady_floorQuiet (l : LineNo) (s : State) : s.Steady (floorQuiet l s) := by
  rw [floorQuiet_effect]; exact .setLine (.report _ _ _ _ _ _ _ _ _ _)

theorem steady_settleRequest (l : LineNo) (i : SessionNo) (b : Bool) (s : State) :
    s.Steady (settleRequest l i b s).state := by
  have takenOver : ∀ p, s.Steady (noticeLost l p (some .takeover) (becomeHolder l i s)) := fun p =>
    (steady_becomeHolder l i s).trans (steady_noticeLost l p _ _)
  unfold settleRequest
  split
  · exact steady_becomeHolder l i s
  · split
    · exact steady_becomeHolder l i s
    · exact takenOver _
  · split
    · exact .refl s
    · split
      · exact takenOver _
      · split
        · exact .refl s
        · exact steady_modFloor s l fun u => { u.floor with waiting := u.floor.waiting ++ [i] }

/-! ### Transmitters and holds -/

theorem mayStart_iff {u : Line} {now : Word32} :
    u.mayStart now = true ↔ u.state = .live ∧ u.tx = .idle ∧ u.held now = false ∧ u.gapOut = true := by
  simp [Line.mayStart, and_assoc]

theorem steady_startElement (l : LineNo) (s : State) : s.Steady (startElement l s) := by
  rcases startElement_effect l s with h | ⟨rest, tx, c, ms, loss, h, hm, hq⟩
  · rw [h]; exact .refl s
  · have hl := (mayStart_iff.mp hm).1
    rw [h]
    rcases hq with ⟨b, hq, rfl, -⟩ | ⟨n, hq, rfl, -⟩
    · exact .setLine (.takesElement _ hl hq (.inl ⟨_, _, rfl⟩) _ _ _ _)
    · exact .setLine (.takesElement _ hl hq (.inr ⟨_, rfl⟩) _ _ _ _)

theorem steady_beginGap (l : LineNo) (ms : Nat) (s : State) : s.Steady (beginGap l ms s) :=
  (State.Steady.setLine (.txIdle _ _ _)).trans (steady_startElement l _)

theorem steady_byteDone (l : LineNo) (b : Byte) (s : State) : s.Steady (byteDone l b s) :=
  State.Steady.trans (State.Steady.setLine (.report _ _ _ _ _ _ _ _ _ _)) (steady_beginGap l _ _)

theorem injectBytes_length (u : Line) (bytes : List Byte) :
    (u.injection ++ (bytes.take u.room).map Element.byte).length ≤ max u.injection.length Config.injectionCapacity := by
  simp [Line.room]; omega

theorem steady_injectBytes (l : LineNo) (bytes : List Byte) (s : State) (hl : (s.line l).state = .live) :
    s.Steady (injectBytes l bytes s) :=
  .setLine (.queues _ hl (injectBytes_length _ bytes) _ _)

theorem steady_typeInto (l : LineNo) (i : SessionNo) (bytes : List Byte) (s : State) (hl : (s.line l).state = .live) :
    s.Steady (typeInto l i bytes s) := by
  unfold typeInto
  have hh : s.Steady (if (s.line l).floor.state = .parked i then becomeHolder l i s else s) := by
    split
    · exact steady_becomeHolder l i s
    · exact .refl s
  have hr := hh.trans (steady_restartIdle l _)
  exact (hr.trans (steady_injectBytes l bytes _ ((hr.state l).trans hl))).trans (steady_startElement l _)

theorem steady_settleHold (l : LineNo) (s : State) : s.Steady (settleHold l s) := by
  unfold settleHold
  simp only
  split
  · exact (State.Steady.setLine (.unheld _)).trans (steady_startElement l _)
  · exact .refl s

end Sys2Proof.Machine
end

section
/-! SUPPORT. That the Activity Monitor, the Watch Unit, the requests and the events which leave every line in its state
keep the lines within their laws. -/

namespace Sys2Proof.Machine

/-! ### The arithmetic of the Activity Monitor -/

/-- A quotient truncated toward zero is no larger than its dividend, on either side of 0. -/
theorem tdiv_pow_bounds (d : Int) (k : Nat) :
    (0 ≤ d → 0 ≤ Int.tdiv d (2 ^ k) ∧ Int.tdiv d (2 ^ k) ≤ d)
      ∧ (d ≤ 0 → d ≤ Int.tdiv d (2 ^ k) ∧ Int.tdiv d (2 ^ k) ≤ 0) := by
  have hpos : ∀ n : Nat, Int.tdiv (n : Int) (2 ^ k) = ((n / 2 ^ k : Nat) : Int) := fun n => by
    rw [Int.tdiv_eq_ediv_of_nonneg (Int.natCast_nonneg n)]; norm_cast
  refine ⟨fun h => ?_, fun h => ?_⟩
  · obtain ⟨n, rfl⟩ := Int.eq_ofNat_of_zero_le h
    rw [hpos]
    generalize hq : n / 2 ^ k = q
    have : q ≤ n := hq ▸ Nat.div_le_self n (2 ^ k)
    omega
  · obtain ⟨n, hn⟩ := Int.eq_ofNat_of_zero_le (Int.neg_nonneg_of_nonpos h)
    obtain rfl : d = -(n : Int) := by omega
    rw [Int.neg_tdiv, hpos]
    generalize hq : n / 2 ^ k = q
    have : q ≤ n := hq ▸ Nat.div_le_self n (2 ^ k)
    omega

/-- The value moved lies between where it was and its target (R63). -/
theorem moveToward_le (a b shift : Nat) : moveToward a b shift ≤ max a b := by
  have hq := tdiv_pow_bounds ((b : Int) - a) shift
  unfold moveToward stepToward
  simp only
  split
  · next h0 =>
    rcases lt_trichotomy (b : Int) a with h | h | h
    · rw [Int.sign_eq_neg_one_of_neg (by omega)]; omega
    · rw [h]; simp
    · rw [Int.sign_eq_one_of_pos (by omega)]; omega
  · rcases le_total (0 : Int) ((b : Int) - a) with h | h
    · have := hq.1 h; omega
    · have := hq.2 h; omega

/-- The debounce count stays below the thresholds (R66). -/
theorem next_count_le (p : MonitorParams) (hp : p.inRange) (st : MonitorState) {k : Nat} (hk : k ≤ 15) (a b : Bool) :
    (p.next st k a b).2 ≤ 15 := by
  obtain ⟨-, -, -, -, -, -, hce, -, hcx, -⟩ := hp
  cases st <;> simp only [MonitorParams.next] <;> repeat' split
  all_goals simp only; omega

theorem counted_inRange {m : Monitor} (h : m.inRange) (p f : Bool) : (m.counted p f).inRange := by
  obtain ⟨h1, h2, h3, -, -⟩ := h
  exact ⟨h1, h2, h3, min_le_left _ _, min_le_left _ _⟩

theorem seeded_inRange : Monitor.seeded.inRange := by simp [Monitor.seeded, Monitor.inRange]

theorem left_inRange {m : Monitor} (h : m.inRange) : m.left.inRange := by
  obtain ⟨h1, h2, -, -, -⟩ := h
  exact ⟨h1, h2, Nat.zero_le _, Nat.zero_le _, Nat.zero_le _⟩

/-! ### The Activity Monitor -/

theorem steady_monitor (s : State) (l : LineNo) (hl : (s.line l).state = .live) (f : Line → Monitor)
    (hr : ∀ u : Line, u.params.inRange → u.monitor.inRange → (f u).inRange)
    (hs : ∀ u : Line, u.monitor.sampleLeft.isSome = true → (f u).sampleLeft.isSome = true) :
    s.Steady (s.modLine l fun u => { u with monitor := f u }) :=
  .setLine (.monitors _ hl (hr _) (hs _))

theorem steady_burstEnds (l : LineNo) (a : Nat) (s : State) : s.Steady (burstEnds l a s) :=
  (steady_appendMark l _ a s).trans (steady_raiseLine l _ 0 0 0 _)

theorem steady_burstBegins (l : LineNo) (s : State) (hl : (s.line l).state = .live) : s.Steady (burstBegins l s) := by
  obtain ⟨t, ms, loss, mon, m, f, d, h, ht, hm, -⟩ := burstBegins_effect l s
  have hline : (s.line l).Steady s.needs ((s.line l).reported ms loss mon m f) :=
    Line.Steady.trans (Line.Steady.monitors _ hl (m := mon) (fun _ h => hm ▸ h) (fun h => hm ▸ h))
      (.report _ ms loss m f _ _ _ _ _)
  rw [h]
  rcases ht with rfl | ⟨k, q, rfl⟩
  · exact (State.Steady.setLine hline).told d
  · exact (((State.Steady.refl s).setSlot k q).trans (.setLine hline)).told d

theorem steady_burstDecays (l : LineNo) (s : State) (hl : (s.line l).state = .live) : s.Steady (burstDecays l s) := by
  have h := steady_burstEnds l 0 s
  exact (h.trans (steady_monitor _ l ((h.state l).trans hl) (fun u => { u.monitor with burstLeft := none })
    (fun _ _ h => h) (fun _ h => h))).trans (steady_floorQuiet l _)

theorem steady_burstTimesOut (l : LineNo) (s : State) (hl : (s.line l).state = .live) :
    s.Steady (burstTimesOut l s) :=
  ((steady_monitor s l hl
      (fun u => { u.monitor with long := u.monitor.fast, state := .quiet, count := 0, burstLeft := none })
      (fun _ _ ⟨hf, _, _, hrest⟩ => ⟨hf, hf, Nat.zero_le _, hrest⟩) (fun _ h => h)).trans
    (steady_burstEnds l 1 _)).trans (steady_floorQuiet l _)

theorem steady_learnLong (l : LineNo) (s : State) (hl : (s.line l).state = .live) : s.Steady (learnLong l s) := by
  unfold learnLong
  split
  · exact .refl s
  · exact steady_monitor s l hl
      (fun u => { u.monitor with long := moveToward u.monitor.long u.monitor.fast u.params.bl })
      (fun u _ ⟨hf, hlg, hrest⟩ => ⟨hf, (moveToward_le _ _ _).trans (max_le hlg hf), hrest⟩) (fun _ h => h)

theorem steady_monitorExpiry (l : LineNo) (s : State) (hl : (s.line l).state = .live) :
    s.Steady (monitorExpiry l s) := by
  unfold monitorExpiry
  simp only
  split
  · exact .setLine (.monitors _ hl
      (fun _ ⟨_, _, h3, h4, h5⟩ => ⟨by simp only; omega, by simp only; omega, h3, h4, h5⟩) (fun h => h))
  · have first : s.Steady (s.setLine l
        { s.line l with monitor := { (s.line l).monitor with
            fast := moveToward (s.line l).monitor.fast (16 * (s.line l).monitor.chars) (s.line l).params.bf
            state := ((s.line l).params.next (s.line l).monitor.state (s.line l).monitor.count
              ((s.line l).params.enters
                (moveToward (s.line l).monitor.fast (16 * (s.line l).monitor.chars) (s.line l).params.bf)
                (s.line l).monitor.long)
              ((s.line l).params.exits
                (moveToward (s.line l).monitor.fast (16 * (s.line l).monitor.chars) (s.line l).params.bf)
                (s.line l).monitor.long)).1
            count := ((s.line l).params.next (s.line l).monitor.state (s.line l).monitor.count
              ((s.line l).params.enters
                (moveToward (s.line l).monitor.fast (16 * (s.line l).monitor.chars) (s.line l).params.bf)
                (s.line l).monitor.long)
              ((s.line l).params.exits
                (moveToward (s.line l).monitor.fast (16 * (s.line l).monitor.chars) (s.line l).params.bf)
                (s.line l).monitor.long)).2 } }) :=
      .setLine (.monitors _ hl
        (fun hp ⟨h1, h2, h3, h4, h5⟩ =>
          ⟨(moveToward_le _ _ _).trans (max_le h1 (by omega)), h2, next_count_le _ hp _ h3 _ _, h4, h5⟩)
        (fun h => h))
    have learns : ∀ t : State, s.Steady t → s.Steady (learnLong l t) := fun t h =>
      h.trans (steady_learnLong l t ((h.state l).trans hl))
    apply learns
    split
    · exact first.trans (steady_burstBegins l _ ((first.state l).trans hl))
    · split
      · exact first.trans (steady_burstDecays l _ ((first.state l).trans hl))
      · exact first

theorem steady_nextInterval (l : LineNo) (s : State) (hl : (s.line l).state = .live) : s.Steady (nextInterval l s) :=
  steady_monitor s l hl (fun u => { u.monitor with chars := 0, errors := 0, sampleLeft := some 100 })
    (fun _ _ ⟨h1, h2, h3, _, _⟩ => ⟨h1, h2, h3, Nat.zero_le _, Nat.zero_le _⟩) (fun _ _ => rfl)

/-! ### The Watch Unit and captures -/

theorem windowAfter_length {w : List Byte} (b : Byte) : (windowAfter w b).length ≤ Config.windowBytes := by
  simp [windowAfter]; omega

/-- A hit count that fires starts over, and one that does not stays below the hits needed (R84). -/
theorem after_hits (e : WatchEntry) (l : LineNo) (p : WatchPair) (w : List Byte) (h1 : 1 ≤ e.hitsNeeded)
    (h : p.hits < e.hitsNeeded) : (e.after l p w).hits < e.hitsNeeded := by
  unfold WatchEntry.after
  split
  · exact h1
  · next hf =>
    split
    · next hh =>
      have : p.hits + 1 ≠ e.hitsNeeded := fun he => hf (by simp [WatchEntry.fires, hh, he])
      simp only
      omega
    · exact h

theorem steady_watchActions (l : LineNo) (is : List EntryNo) (s : State) (hl : (s.line l).state = .live) :
    s.Steady (watchActions l is s) := by
  obtain ⟨t, ms, loss, m, h, f, d, e, ht⟩ := watchActions_effect l is s
  have hline : (s.line l).Steady s.needs
      { s.line l with marks := ms, markLoss := loss, summary := m, hold := h, floor := f } :=
    Line.Steady.trans (.holds _ hl h) (.report _ ms loss m f _ _ _ _ _)
  rw [e]
  rcases ht with rfl | ⟨k, q, rfl⟩
  · exact (State.Steady.setLine hline).told d
  · exact (((State.Steady.refl s).setSlot k q).trans (.setLine hline)).told d

theorem steady_watchByte (l : LineNo) (b : Byte) (s : State) (hl : (s.line l).state = .live) :
    s.Steady (watchByte l b s) := by
  have h : s.Steady (s.setLine l
      { s.line l with
        matchWindow := windowAfter (s.line l).matchWindow b
        watch := Vector.ofFn fun i : EntryNo =>
          (s.entry i).after l ((s.line l).pair i) (windowAfter (s.line l).matchWindow b) }) :=
    .setLine (.watches _ (fun _ => windowAfter_length b) fun hn hh i => by
      rw [Vector.getElem_ofFn]; exact after_hits (s.entry i) l _ _ (hn i) (hh i))
  exact h.trans (steady_watchActions l _ _ ((h.state l).trans hl))

theorem steady_ringAppend (l : LineNo) (b : Byte) (s : State) : s.Steady (ringAppend l b s) := by
  rcases ringAppend_effect l b s with ⟨-, h⟩ | ⟨-, h⟩
  · rw [h]; exact .setLine (.report _ _ _ _ _ _ _ _ _ _)
  · rw [h]; exact (State.Steady.setLine (.report _ _ _ _ _ _ _ _ _ _)).trans (steady_mapSessions _ _)

theorem steady_restartGather (l : LineNo) (s : State) (hl : (s.line l).state = .live) : s.Steady (restartGather l s) :=
  .setLine (.gathers _ hl _)

theorem steady_captureByte (l : LineNo) (b : Byte) (p f : Bool) (s : State) (hl : (s.line l).state = .live) :
    s.Steady (captureByte l b p f s) := by
  have h1 : s.Steady (s.modLine l fun u =>
      { u with
        counters := u.counters.captured p f, monitor := u.monitor.counted p f, rx := .waiting, rxd := .mark }) :=
    .setLine (Line.Steady.trans (.monitors _ hl (fun _ h => counted_inRange h p f) (fun h => h))
      (.report _ _ _ _ _ _ _ _ _ _))
  have h2 := h1.trans (steady_ringAppend l b _)
  have h3 := h2.trans (steady_restartGather l _ ((h2.state l).trans hl))
  have h4 := (h3.trans (steady_grantData _)).trans (steady_slotByte l b _)
  exact h4.trans (steady_watchByte l b _ ((h4.state l).trans hl))

theorem steady_captureCharacter (l : LineNo) (data : Byte) (p f : Bool) (s : State) :
    s.Steady (captureCharacter l data p f s) := by
  unfold captureCharacter
  split
  · next hl =>
    split
    · exact .refl s
    · exact steady_captureByte l _ _ _ s hl
  · exact .refl s

theorem steady_detectBreak (l : LineNo) (s : State) : s.Steady (detectBreak l s) :=
  (((State.Steady.setLine (.report _ _ _ _ _ _ _ _ _ _)).trans (steady_appendMark l _ _ _)).trans
    (steady_raiseLine l _ _ _ _ _)).trans (steady_optionTrigger l _ _ _)

/-! ### Pins -/

theorem steady_atStartEdge (u : Line) (b : Bool) {needs : EntryNo → Nat} : u.Steady needs (u.atStartEdge b) := by
  unfold Line.atStartEdge
  split
  · split
    · exact .report _ _ _ _ _ _ _ _ _ _
    · exact .report _ _ _ _ _ _ _ _ _ _
    · exact .refl u
  · exact .refl u
  all_goals exact .report _ _ _ _ _ _ _ _ _ _

theorem steady_atReturnToMark (u : Line) {needs : EntryNo → Nat} : u.Steady needs u.atReturnToMark := by
  unfold Line.atReturnToMark
  split
  · exact .report _ _ _ _ _ _ _ _ _ _
  · exact .refl u
  all_goals exact .report _ _ _ _ _ _ _ _ _ _

theorem steady_strayEdge (u : Line) {needs : EntryNo → Nat} : u.Steady needs u.strayEdge := by
  unfold Line.strayEdge
  split
  · exact .refl u
  · exact steady_atReturnToMark u
  · exact .report _ _ _ _ _ _ _ _ _ _

/-! ### Ports, attendance and losses -/

theorem steady_validMessage (s : State) : s.Steady (validMessage s) := by
  unfold validMessage
  split
  · exact .refl s
  · exact .ofBoard ⟨rfl, rfl, rfl, rfl, rfl, rfl, rfl, rfl⟩

theorem steady_consume (f : Frame) (s : State) : s.Steady (consume f s) := by
  unfold consume
  split
  · exact .ofBoard ⟨rfl, rfl, rfl, rfl, rfl, rfl, rfl, rfl⟩
  · split
    · exact .afterBoard (steady_validMessage _) ⟨rfl, rfl, rfl, rfl, rfl, rfl, rfl, rfl⟩
    · exact .ofBoard ⟨rfl, rfl, rfl, rfl, rfl, rfl, rfl, rfl⟩

theorem steady_downStart (s : State) : s.Steady (downStart s) := by
  unfold downStart
  split
  · split
    · exact .ofBoard ⟨rfl, rfl, rfl, rfl, rfl, rfl, rfl, rfl⟩
    · exact .refl s
  · exact .refl s

theorem steady_dropDown (s : State) : s.Steady (dropDown s) :=
  .afterBoard (steady_raiseUnit _ _) ⟨rfl, rfl, rfl, rfl, rfl, rfl, rfl, rfl⟩

theorem steady_dropUp (s : State) : s.Steady (dropUp s) :=
  .afterBoard (steady_raiseUnit _ _) ⟨rfl, rfl, rfl, rfl, rfl, rfl, rfl, rfl⟩

theorem steady_cutOffUp (f : UpFrame) (s : State) : s.Steady (cutOffUp f s) := by
  cases f with
  | response => exact .afterBoard (steady_raiseUnit _ _) ⟨rfl, rfl, rfl, rfl, rfl, rfl, rfl, rfl⟩
  | forward => exact steady_dropUp s
  | data => exact .afterBoard (steady_raiseUnit _ _) ⟨rfl, rfl, rfl, rfl, rfl, rfl, rfl, rfl⟩

theorem steady_repeated {f : State → State} (hf : ∀ s : State, s.Steady (f s)) (n : Nat) (s : State) :
    s.Steady (repeated f n s) := by
  induction n generalizing s with
  | zero => exact .refl s
  | succ n ih => exact (hf s).trans (ih _)

theorem steady_joinDown (f : Frame) (s : State) : s.Steady (joinDown f s) := by
  unfold joinDown
  split
  · exact .afterBoard (steady_downStart _) ⟨rfl, rfl, rfl, rfl, rfl, rfl, rfl, rfl⟩
  · exact steady_dropDown s

theorem steady_joinUp (f : Frame) (s : State) : s.Steady (joinUp f s) := by
  unfold joinUp
  split
  · exact .ofBoard ⟨rfl, rfl, rfl, rfl, rfl, rfl, rfl, rfl⟩
  · exact steady_dropUp s

theorem steady_filterUp (f : Frame) (s : State) : s.Steady (filterUp f s) := by
  unfold filterUp
  split
  · split
    · exact steady_consume f s
    · split
      · exact (steady_consume f s).trans (steady_joinDown f _)
      · exact steady_joinDown f s
  · exact steady_joinDown f s

theorem steady_lapse (s : State) : s.Steady (lapse s) := by
  have h1 : s.Steady (raiseUnit .attendLapse
      { s with attendance := { state := .unattended, left := none, lapses := s.attendance.lapses + 1 } }) :=
    .afterBoard (steady_raiseUnit _ _) ⟨rfl, rfl, rfl, rfl, rfl, rfl, rfl, rfl⟩
  have h2 := h1.trans (.forLines fun l t => steady_clearFloor l .attendance t)
  exact h2.trans (.mapLines fun l => .flushes _)

theorem steady_tick (s : State) : s.Steady (tick s) := by
  have h1 : s.Steady (s.mapLines fun _ u => u.tick) := .mapLines fun l => .ticks _
  refine h1.trans ⟨fun l => ?_, by simp [tick], by simp [tick], by simp [tick], by simp [tick], by simp [tick],
    by simp [tick], ?_⟩
  · have : (tick s).line l = (s.mapLines fun _ u => u.tick).line l := by
      simp only [tick, State.mapLines, State.mapSlots, State.mapSessions, State.line]
    rw [this]; exact .refl _
  · simp only [tick, mapLines_engine, Option.map_map]
    rfl

end Sys2Proof.Machine
end

section
/-! SUPPORT. The operations that move a line from one state to another: that they touch no other line, and that they keep
lists and counts in range. -/

namespace Sys2Proof.Machine

/-- From `s` to `t` one line at most has changed, and nothing of the settings, of unit time or of the Rate Probe. -/
structure State.OnlyLine (l : LineNo) (s t : State) : Prop where
  line_ne : ∀ j, j ≠ l → t.line j = s.line j
  rates : t.rates = s.rates
  entries : t.entries = s.entries
  unit : t.unit = s.unit
  unitNumber : t.unitNumber = s.unitNumber
  unitTime : t.unitTime = s.unitTime
  probeQueue : t.probeQueue = s.probeQueue
  engine : t.engine = s.engine
  begun : t.begun = s.begun

namespace State.OnlyLine

variable {l : LineNo} {s t w : State}

theorem refl (l : LineNo) (s : State) : State.OnlyLine l s s := ⟨fun _ _ => rfl, rfl, rfl, rfl, rfl, rfl, rfl, rfl, rfl⟩

theorem trans (h : State.OnlyLine l s t) (k : State.OnlyLine l t w) : State.OnlyLine l s w where
  line_ne := fun j hj => (k.line_ne j hj).trans (h.line_ne j hj)
  rates := k.rates.trans h.rates
  entries := k.entries.trans h.entries
  unit := k.unit.trans h.unit
  unitNumber := k.unitNumber.trans h.unitNumber
  unitTime := k.unitTime.trans h.unitTime
  probeQueue := k.probeQueue.trans h.probeQueue
  engine := k.engine.trans h.engine
  begun := k.begun.trans h.begun

theorem setLine (l : LineNo) (s : State) (v : Line) : State.OnlyLine l s (s.setLine l v) :=
  ⟨fun _ hj => setLine_line_ne s v hj, rfl, rfl, rfl, rfl, rfl, rfl, rfl, rfl⟩

theorem setLine_told (l : LineNo) (s : State) (v : Line) (d : Told) : State.OnlyLine l s ((s.setLine l v).told d) :=
  ⟨fun _ hj => setLine_line_ne s v hj, rfl, rfl, rfl, rfl, rfl, rfl, rfl, rfl⟩

theorem appendMark (l : LineNo) (k : MarkKind) (a : Nat) (s : State) : State.OnlyLine l s (appendMark l k a s) := by
  obtain ⟨_, _, h, -⟩ := appendMark_effect l k a s
  rw [h]; exact setLine l s _

theorem raiseLine (l : LineNo) (e : LineEvent) (b : BitVec 64) (rs : BitVec 3) (a : Nat) (s : State) :
    State.OnlyLine l s (raiseLine l e b rs a s) := by
  obtain ⟨_, d, h, -⟩ := raiseLine_effect l e b rs a s
  rw [h]; exact setLine_told l s _ d

theorem clearFloor (l : LineNo) (r : LostReason) (s : State) : State.OnlyLine l s (clearFloor l r s) := by
  obtain ⟨d, h, -⟩ := clearFloor_effect l r s
  rw [h]; exact setLine_told l s _ d

theorem pushResponse (l : LineNo) (s : State) (f : OutFrame) : State.OnlyLine l s (s.pushResponse f) := by
  constructor <;> simp

theorem placeTest (l : LineNo) (f : OutFrame) (s : State) : State.OnlyLine l s (placeTest f s) := by
  unfold Machine.placeTest
  split
  · exact pushResponse l s f
  · exact ⟨fun _ _ => rfl, rfl, rfl, rfl, rfl, rfl, rfl, rfl, rfl⟩

theorem abortTest (l : LineNo) (s : State) : State.OnlyLine l s (abortTest l s) := by
  unfold Machine.abortTest
  split
  · exact refl l s
  · exact placeTest l _ s

theorem enterLive (l : LineNo) (r : TakenRate) (s : State) : State.OnlyLine l s (enterLive l r s) := by
  obtain ⟨_, _, _, d, h, -⟩ := enterLive_effect l r s
  rw [h]; exact setLine_told l s _ d

theorem exitLive (l : LineNo) (s : State) : State.OnlyLine l s (exitLive l s) := by
  obtain ⟨t, f, m, d, h, ht, -⟩ := exitLive_effect l s
  have hg : State.OnlyLine l s t := by
    rcases ht with ⟨-, rfl⟩ | ⟨k, -, rfl⟩ <;> constructor <;> simp +contextual [setLine_line]
  rw [h]; exact hg.trans (setLine_told l t _ d)

theorem turnOff (l : LineNo) (s : State) : State.OnlyLine l s (turnOff l s) :=
  (((setLine l s _).trans (clearFloor l _ _)).trans (setLine l _ _)).trans (appendMark l _ _ _)

end State.OnlyLine

/-! ### What the line itself becomes -/

/-- The line that an exit from LIVE leaves, its state for the caller to set. -/
theorem exitLive_line (l : LineNo) (s : State) :
    ∃ (f : Floor) (m : LineSummary), (exitLive l s).line l =
        { (s.line l).cutOff with monitor := (s.line l).monitor.left, floor := f, summary := m } := by
  obtain ⟨t, f, m, d, h, -⟩ := exitLive_effect l s
  exact ⟨f, m, by rw [h, told_line, setLine_line_same]; rfl⟩

/-- The line that an entry into LIVE leaves. -/
theorem enterLive_line (l : LineNo) (r : TakenRate) (s : State) :
    ∃ (ms : List Mark) (loss : Word32) (m : LineSummary), (enterLive l r s).line l =
        { s.line l with
          state := .live, current := some r, last := some r, matchWindow := [], monitor := .seeded, streak := 0
          gap := none, tx := .idle, rx := receiverAt (s.line l).rxd, test := none, marks := ms, markLoss := loss
          summary := m } := by
  obtain ⟨_, loss, m, d, h, -⟩ := enterLive_effect l r s
  exact ⟨_, loss, m, by rw [h, told_line, setLine_line_same]⟩

/-- The line that a way to OFF leaves (R6, R81, R136). -/
theorem turnOff_line (l : LineNo) (s : State) :
    ∃ (ms : List Mark) (loss : Word32), (turnOff l s).line l =
        { s.line l with
          state := .off, test := none, tx := .idle
          floor := { state := .free, waiting := [], idle := .stopped, busy := (s.line l).floor.busy }
          watch := ((s.line l).mapPairs fun p => { p with hits := 0, holdoff := none }).watch
          marks := ms ++ [{ offset := (s.line l).ring.newest, stamp := s.unitTime, kind := .lineOff, arg := 0 }]
          markLoss := loss } := by
  unfold turnOff
  obtain ⟨d, h, -⟩ := clearFloor_effect l .lineOff (s.modLine l fun u => { u with state := .off, test := none, tx := .idle })
  simp only [modLine_eq, setLine_line_same] at h ⊢
  rw [h]
  obtain ⟨ms, loss, h', -⟩ := appendMark_effect l .lineOff 0
    (((s.setLine l { s.line l with
        state := .off, test := none, tx := .idle
        floor := { state := .free, waiting := [], idle := .stopped, busy := (s.line l).floor.busy } }).told d).setLine l
      (Line.mapPairs { s.line l with
        state := .off, test := none, tx := .idle
        floor := { state := .free, waiting := [], idle := .stopped, busy := (s.line l).floor.busy } }
        fun p => { p with hits := 0, holdoff := none }))
  simp only [setLine_setLine, told_line, setLine_line_same] at h' ⊢
  refine ⟨ms, loss, ?_⟩
  rw [h', setLine_line_same]
  rfl

theorem turnOff_pair (l : LineNo) (s : State) (i : EntryNo) :
    ((turnOff l s).line l).pair i = { (s.line l).pair i with hits := 0, holdoff := none } := by
  obtain ⟨ms, loss, h⟩ := turnOff_line l s
  generalize hw : ((s.line l).mapPairs fun p => { p with hits := 0, holdoff := none }).watch = ws at h
  have hi : ws[i.val] = { (s.line l).pair i with hits := 0, holdoff := none } := by
    rw [← hw]; exact mapPairs_pair (s.line l) _ i
  rw [h, ← hi]
  rfl

/-! ### Ranges -/

section
variable {l : LineNo} {s t : State}

/-- A change of one line that keeps its ranges keeps those of the part. -/
theorem State.OnlyLine.inRangeStill (h : State.OnlyLine l s t) (hl : (s.line l).InRangeStill s.needs (t.line l)) :
    s.InRangeStill t where
  line := fun j => by
    by_cases hj : j = l
    · subst hj; exact hl
    · rw [h.line_ne j hj]; exact .refl _
  rates := h.rates
  entries := h.entries
  unit := h.unit
  unitNumber := h.unitNumber

theorem inRangeStill_enterLive (l : LineNo) (r : TakenRate) (s : State) : s.InRangeStill (enterLive l r s) := by
  refine (State.OnlyLine.enterLive l r s).inRangeStill ?_
  obtain ⟨ms, loss, m, h⟩ := enterLive_line l r s
  rw [h]
  exact ⟨rfl, rfl, fun _ _ ⟨hi, _⟩ => ⟨hi, Nat.zero_le _, Nat.zero_le _, seeded_inRange⟩,
    fun _ _ _ => Nat.zero_le _, fun _ h => h⟩

theorem inRangeStill_exitLive (l : LineNo) (s : State) : s.InRangeStill (exitLive l s) := by
  refine (State.OnlyLine.exitLive l s).inRangeStill ?_
  obtain ⟨f, m, h⟩ := exitLive_line l s
  rw [h]
  exact ⟨rfl, rfl, fun _ _ ⟨_, hw, hst, hm⟩ => ⟨Nat.zero_le _, hw, hst, left_inRange hm⟩, fun _ h => h, fun _ h => h⟩

theorem inRangeStill_turnOff (l : LineNo) (s : State) : s.InRangeStill (turnOff l s) := by
  refine (State.OnlyLine.turnOff l s).inRangeStill ?_
  have hp := turnOff_pair l s
  obtain ⟨ms, loss, h⟩ := turnOff_line l s
  generalize ((s.line l).mapPairs fun p => { p with hits := 0, holdoff := none }).watch = ws at h
  rw [h] at hp ⊢
  exact ⟨rfl, rfl, fun _ _ h => h, fun _ _ => nofun, fun hn _ i => by rw [hp i]; exact hn i⟩

/-- Lines that do not become LIVE keep their ranges where their lists and counts do. -/
theorem Line.InRangeStill.idles {needs : EntryNo → Nat} (u : Line) (st : LineState) (hst : st ≠ .live) (x : Option LoopTest)
    (tx : Transmitter) (n : Nat) (ms : List Mark) (loss : Word32) :
    u.InRangeStill needs
      { u with state := st, test := x, tx := tx, attempts := n, marks := ms, markLoss := loss } :=
  ⟨rfl, rfl, fun _ _ h => h, fun _ _ h => absurd h hst, fun _ h => h⟩

theorem inRangeStill_idles (s : State) (l : LineNo) (st : LineState) (hst : st ≠ .live) (x : Option LoopTest)
    (tx : Transmitter) (n : Nat) :
    s.InRangeStill (s.setLine l { s.line l with state := st, test := x, tx := tx, attempts := n }) :=
  .setLine (.idles _ st hst x tx n _ _)

/-- The Rate Probe's own registers are no setting. -/
theorem State.InRangeStill.probe (h : s.InRangeStill t) (q : List LineNo) (e : Option Measurement) (n : Nat) :
    s.InRangeStill { t with probeQueue := q, engine := e, begun := n } := ⟨h.line, h.rates, h.entries, h.unit, h.unitNumber⟩

theorem inRangeStill_joinProbe (l : LineNo) (s : State) : s.InRangeStill (joinProbe l s) :=
  (inRangeStill_idles s l .queued (by decide) none _ 0).probe _ _ _

theorem inRangeStill_requeueProbe (l : LineNo) (s : State) : s.InRangeStill (requeueProbe l s) :=
  (inRangeStill_idles s l .queued (by decide) _ _ _).probe _ _ _

theorem inRangeStill_leaveProbe (l : LineNo) (s : State) : s.InRangeStill (leaveProbe l s) :=
  (State.InRangeStill.refl s).probe _ _ _

theorem inRangeStill_endMeasurement (l : LineNo) (s : State) : s.InRangeStill (endMeasurement l s) :=
  (State.Steady.setLine (.txIdle _ _ _)).inRangeStill.probe _ _ _

theorem inRangeStill_probeTake (s : State) : s.InRangeStill (probeTake s) := by
  rcases probeTake_effect s with ⟨h, -⟩ | ⟨l, rest, tx, ms, loss, m, -, -, h, -⟩
  · rw [h]; exact .refl s
  · rw [h]; exact (State.InRangeStill.setLine (.idles _ .measuring (by decide) _ _ _ _ _)).probe _ _ _

theorem inRangeStill_startByRecord (l : LineNo) (s : State) : s.InRangeStill (startByRecord l s) := by
  unfold startByRecord
  split
  · exact inRangeStill_enterLive l _ s
  · exact inRangeStill_joinProbe l s

theorem inRangeStill_enterLoop (l : LineNo) (x : LoopTest) (s : State) : s.InRangeStill (enterLoop l x s) :=
  inRangeStill_idles s l .loop (by decide) _ _ _

theorem inRangeStill_leaveLoop (l : LineNo) (x : LoopTest) (s : State) : s.InRangeStill (leaveLoop l x s) := by
  have h : s.InRangeStill (s.modLine l fun u => { u with tx := .idle, test := none }) :=
    .setLine ⟨rfl, rfl, fun _ _ h => h, fun _ h => h, fun _ h => h⟩
  unfold leaveLoop
  simp only
  split
  · exact h.trans (inRangeStill_idles _ l .off (by decide) _ _ _)
  · split
    · exact (h.trans (inRangeStill_startByRecord l _)).trans (inRangeStill_probeTake _)
    · exact h.trans (inRangeStill_enterLive l _ _)

theorem inRangeStill_completeTest (l : LineNo) (x : LoopTest) (s : State) : s.InRangeStill (completeTest l x s) :=
  (steady_placeTest _ s).inRangeStill.trans (inRangeStill_leaveLoop l x _)

theorem inRangeStill_finalFailure (l : LineNo) (r : FailureReason) (s : State) :
    s.InRangeStill (finalFailure l r s) := by
  have h := (steady_raiseLine l .rateFail 0 r.mask r.code s).inRangeStill
  unfold finalFailure
  simp only
  split
  · exact h.trans (inRangeStill_enterLive l _ _)
  · exact h.trans (inRangeStill_enterLive l _ _)
  · exact ((h.trans (inRangeStill_idles _ l .dark (by decide) _ _ _)).trans (steady_clearFloor l _ _).inRangeStill).trans
      (steady_raiseLine l _ _ _ _ _).inRangeStill

theorem inRangeStill_failAttempt (m : Measurement) (r : FailureReason) (s : State) :
    s.InRangeStill (failAttempt m r s) := by
  have h : s.InRangeStill ((endMeasurement m.line s).modLine m.line fun u => { u with attempts := u.attempts + 1 }) :=
    (inRangeStill_endMeasurement m.line s).trans (.setLine ⟨rfl, rfl, fun _ _ h => h, fun _ h => h, fun _ h => h⟩)
  unfold failAttempt
  simp only
  split
  · exact (h.trans (inRangeStill_requeueProbe _ _)).trans (inRangeStill_probeTake _)
  · exact (h.trans (inRangeStill_finalFailure _ _ _)).trans (inRangeStill_probeTake _)

theorem inRangeStill_finishAttempt (m : Measurement) (w : Nat) (s : State) : s.InRangeStill (finishAttempt m w s) := by
  unfold finishAttempt
  split
  · exact ((inRangeStill_endMeasurement m.line s).trans (inRangeStill_enterLive _ _ _)).trans (inRangeStill_probeTake _)
  · exact inRangeStill_failAttempt m .noMatch s

theorem inRangeStill_countEdge (m : Measurement) (n : Nat) (s : State) : s.InRangeStill (countEdge m n s) := by
  have h : s.InRangeStill (s.modLine m.line fun u => { u with rxd := u.rxd.flip }) :=
    (State.Steady.setLine (.report _ _ _ _ _ _ _ _ _ _)).inRangeStill
  have hm : ∀ e, s.InRangeStill { s.modLine m.line fun u => { u with rxd := u.rxd.flip } with engine := e } :=
    fun e => h.probe _ e _
  unfold countEdge
  simp only
  split
  · exact hm _
  · split
    · exact (hm _).trans (inRangeStill_finishAttempt _ _ _)
    · exact hm _

theorem inRangeStill_measuredEdge (m : Measurement) (n : Nat) (s : State) : s.InRangeStill (measuredEdge m n s) := by
  unfold measuredEdge
  split
  · have h := inRangeStill_failAttempt m .brk s
    have hs : ∀ t : State, t.InRangeStill (t.modLine m.line Line.strayEdge) :=
      fun t => (State.Steady.setLine (steady_strayEdge _)).inRangeStill
    unfold lateEdge
    simp only
    split
    · exact h.trans (hs _)
    · split
      · exact h.trans (inRangeStill_countEdge _ _ _)
      · exact h.trans (hs _)
  · exact inRangeStill_countEdge m n s

theorem inRangeStill_enableLine (l : LineNo) (s : State) : s.InRangeStill (enableLine l s) := by
  unfold enableLine
  split
  case h_1 | h_2 => exact (inRangeStill_startByRecord l s).trans (inRangeStill_probeTake _)
  all_goals exact .refl s

theorem inRangeStill_disableLine (l : LineNo) (s : State) : s.InRangeStill (disableLine l s) := by
  unfold disableLine
  split
  · exact .refl s
  · exact (inRangeStill_leaveProbe l s).trans (inRangeStill_turnOff l _)
  · exact ((inRangeStill_endMeasurement l s).trans (inRangeStill_turnOff l _)).trans (inRangeStill_probeTake _)
  · exact (inRangeStill_exitLive l s).trans (inRangeStill_turnOff l _)
  · exact inRangeStill_turnOff l s
  · exact (steady_abortTest l s).inRangeStill.trans (inRangeStill_turnOff l _)

theorem inRangeStill_loseRate (l : LineNo) (s : State) : s.InRangeStill (loseRate l s) :=
  ((((steady_appendMark l _ _ s).trans (steady_raiseLine l _ _ _ _ _)).inRangeStill.trans
    (inRangeStill_exitLive l _)).trans (inRangeStill_joinProbe l _)).trans (inRangeStill_probeTake _)

end

end Sys2Proof.Machine
end

section
/-! SUPPORT. How the law of line states, probe queue and engine (R1, R25, R27) comes through the operations that move a line:
a line is first set apart at rest, outside the probe, and then put where it goes; and the attempt counts (R28) with it. -/

namespace Sys2Proof.Machine

/-- The attempt count of one line (R28). -/
def Line.triesLaw (u : Line) : Prop :=
  u.attempts ≤ 6 ∧ (u.state = .queued ∨ u.state = .measuring → u.attempts < 6)

/-- The law of lines, and where `tries` asks for it the attempt counts. -/
def State.lawful (tries : Prop) (s : State) : Prop := s.linesLaw ∧ (tries → s.attemptsLaw)

/-- The law of lines but for the engine, which may idle while somebody waits. -/
structure State.unready (tries : Prop) (s : State) : Prop where
  lines : ∀ l, (s.line l).stateLaw
  tries : tries → ∀ l, (s.line l).triesLaw
  nodup : s.probeQueue.Nodup
  queued : ∀ l, l ∈ s.probeQueue ↔ (s.line l).state = .queued
  measuring : ∀ l, (s.line l).state = .measuring ↔ s.engine.any (fun m => decide (m.line = l)) = true
  number : ∀ m, s.engine = some m → m.number < s.begun

/-- A line at rest: what a line outside LIVE keeps, with its transmitter idle and no test (R1, R4). -/
def Line.atRest (u : Line) : Prop :=
  u.injection = [] ∧ u.hold = none ∧ u.monitor.state = .quiet ∧ u.monitor.count = 0 ∧ u.monitor.sampleLeft = none
    ∧ u.monitor.burstLeft = none ∧ u.monitor.chars = 0 ∧ u.monitor.errors = 0 ∧ u.gather = none ∧ u.settled = true
    ∧ u.tx = .idle ∧ u.current = none ∧ u.test = none

/-- Line `l` stands at rest outside the probe, whatever state it is said to be in, and every other line obeys. -/
structure State.apart (tries : Prop) (l : LineNo) (s : State) : Prop where
  lines : ∀ j, j ≠ l → (s.line j).stateLaw
  rest : (s.line l).atRest
  tries : tries → (s.line l).attempts ≤ 6 ∧ ∀ j, j ≠ l → (s.line j).triesLaw
  nodup : s.probeQueue.Nodup
  out : l ∉ s.probeQueue
  queued : ∀ j, j ≠ l → (j ∈ s.probeQueue ↔ (s.line j).state = .queued)
  measuring : ∀ j, j ≠ l → ((s.line j).state = .measuring ↔ s.engine.any (fun m => decide (m.line = j)) = true)
  idle : ∀ m, s.engine = some m → m.line ≠ l
  number : ∀ m, s.engine = some m → m.number < s.begun

variable {tries : Prop} {l : LineNo} {s t : State} {u v : Line}

/-! ### Between the laws -/

theorem State.lawful.toUnready (h : s.lawful tries) : s.unready tries := by
  obtain ⟨⟨hl, hd, hq, hm, hn, -⟩, ht⟩ := h
  exact ⟨hl, ht, hd, hq, hm, hn⟩

theorem State.lawful.ready (h : s.lawful tries) : s.engineReady := by
  obtain ⟨⟨-, -, -, -, -, hr⟩, -⟩ := h
  exact hr

theorem State.unready.lawful (h : s.unready tries) (hr : s.engineReady) : s.lawful tries :=
  ⟨⟨h.lines, h.nodup, h.queued, h.measuring, h.number, hr⟩, h.tries⟩

theorem Line.Steady.triesLaw {needs : EntryNo → Nat} (h : u.Steady needs v) (hu : u.triesLaw) : v.triesLaw := by
  unfold Line.triesLaw at hu ⊢
  rwa [h.attempts, h.state]

/-- Steady changes keep the law. -/
theorem State.unready.steady (h : s.unready tries) (k : s.Steady t) : t.unready tries where
  lines := fun l => (k.line l).law (h.lines l)
  tries := fun ht l => (k.line l).triesLaw (h.tries ht l)
  nodup := k.probeQueue ▸ h.nodup
  queued := fun l => by rw [k.probeQueue, k.state l]; exact h.queued l
  measuring := fun l => by
    have he : t.engine.any (fun m => decide (m.line = l)) = s.engine.any (fun m => decide (m.line = l)) := by
      have := congrArg (Option.any fun p : LineNo × Nat => decide (p.1 = l)) k.engine
      simpa [Option.any_map, Function.comp_def] using this
    rw [k.state l, he]; exact h.measuring l
  number := fun m hm => by
    have := k.engine
    rw [hm] at this
    obtain ⟨m', hm', e⟩ := Option.map_eq_some_iff.mp this.symm
    have hn : m'.number = m.number := congrArg Prod.snd e
    rw [k.begun, ← hn]
    exact h.number m' hm'

theorem State.lawful.steady (h : s.lawful tries) (k : s.Steady t) : t.lawful tries := by
  refine (h.toUnready.steady k).lawful fun he => ?_
  rw [k.probeQueue]
  exact h.ready (by have := k.engine; rw [he] at this; exact Option.map_eq_none_iff.mp this.symm)

/-! ### A line is set apart -/

/-- A line at rest obeys the law of any state but LIVE and LOOP. -/
theorem Line.atRest.stateLaw (h : u.atRest) (h1 : u.state ≠ .live) (h2 : u.state ≠ .loop) : u.stateLaw := by
  obtain ⟨hi, hh, hs, hc, hl, hb, hn, he, hg, hset, htx, hcur, ht⟩ := h
  exact ⟨by simp [ht, h2], by simp [hcur, h1], fun h => absurd h h1, fun _ => ⟨hi, hh, hs, hc, hl, hb, hn, he, hg⟩,
    txLaw_of_idle htx, by simp [hg, hset]⟩

/-- A line outside LIVE and LOOP, its transmitter idle, is at rest. -/
theorem Line.stateLaw.atRest (h : u.stateLaw) (h1 : u.state ≠ .live) (h2 : u.state ≠ .loop) (htx : u.tx = .idle) :
    u.atRest := by
  obtain ⟨ht, hc, -, hstill, -, hset⟩ := h
  obtain ⟨hi, hh, hs, hk, hl, hb, hn, he, hg⟩ := hstill h1
  have hcur : u.current = none := by simpa [h1] using hc
  have htest : u.test = none := by simpa [h2] using ht
  exact ⟨hi, hh, hs, hk, hl, hb, hn, he, hg, by rw [hset, hg]; rfl, htx, hcur, htest⟩

/-- Outside the states that own it a transmitter idles. -/
theorem Line.stateLaw.tx_idle (h : u.stateLaw) (h1 : u.state ≠ .live) (h2 : u.state ≠ .loop)
    (h3 : u.state ≠ .measuring) : u.tx = .idle := by
  obtain ⟨-, -, -, -, htx, -⟩ := h
  obtain ⟨hb, hs, hm, hp, hq⟩ := state_of_tx htx
  cases ht : u.tx with
  | idle => rfl
  | byte b f => exact absurd (hb b f ht) h1
  | breakSpace n => exact absurd (hs n ht) h1
  | breakMark n => exact absurd (hm n ht) h1
  | probe f r => exact absurd (hp f r ht) h3
  | pattern b f => exact absurd (hq b f ht) h2

/-- The line that an exit from LIVE leaves, its test apart, is at rest. -/
theorem atRest_exitLive (l : LineNo) (s : State) (h : (s.line l).test = none) : ((exitLive l s).line l).atRest := by
  obtain ⟨f, m, e⟩ := exitLive_line l s
  rw [e]
  exact ⟨rfl, rfl, rfl, rfl, rfl, rfl, rfl, rfl, rfl, rfl, rfl, rfl, h⟩

/-- A line that is neither queued nor measured is set apart by putting it at rest. -/
theorem State.unready.apart (h : s.unready tries) (h1 : (s.line l).state ≠ .queued) (h2 : (s.line l).state ≠ .measuring)
    (k : State.OnlyLine l s t) (hr : (t.line l).atRest) (ha : (t.line l).attempts ≤ (s.line l).attempts) :
    t.apart tries l where
  lines := fun j hj => k.line_ne j hj ▸ h.lines j
  rest := hr
  tries := fun ht => ⟨ha.trans (h.tries ht l).1, fun j hj => k.line_ne j hj ▸ h.tries ht j⟩
  nodup := k.probeQueue ▸ h.nodup
  out := by rw [k.probeQueue, h.queued]; exact h1
  queued := fun j hj => by rw [k.probeQueue, k.line_ne j hj]; exact h.queued j
  measuring := fun j hj => by rw [k.engine, k.line_ne j hj]; exact h.measuring j
  idle := fun m hm hl => h2 ((h.measuring l).mpr (by rw [k.engine] at hm; simp [hm, hl]))
  number := fun m hm => by rw [k.begun]; exact h.number m (k.engine ▸ hm)

theorem State.unready.apart_self (h : s.unready tries) (hs : (s.line l).state = .off ∨ (s.line l).state = .dark) :
    s.apart tries l := by
  have hl := h.lines l
  rcases hs with hs | hs <;>
    exact h.apart (by simp [hs]) (by simp [hs]) (.refl l s)
      (hl.atRest (by simp [hs]) (by simp [hs]) (hl.tx_idle (by simp [hs]) (by simp [hs]) (by simp [hs]))) le_rfl

/-- A LIVE line that leaves LIVE is set apart (R4). -/
theorem State.unready.apart_exitLive (h : s.unready tries) (hs : (s.line l).state = .live) :
    (exitLive l s).apart tries l := by
  refine h.apart (by simp [hs]) (by simp [hs]) (.exitLive l s) (atRest_exitLive l s ?_) ?_
  · obtain ⟨ht, -⟩ := h.lines l
    simpa [hs] using ht
  · obtain ⟨f, m, e⟩ := exitLive_line l s
    rw [e]; exact le_rfl

/-- A line in LOOP is at rest but for its test and its transmitter. -/
theorem Line.stateLaw.atRest_testEnded (h : u.stateLaw) (hs : u.state = .loop) :
    ({ u with tx := .idle, test := none } : Line).atRest := by
  obtain ⟨-, hc, -, hstill, -, hset⟩ := h
  have hn : u.state ≠ .live := by simp [hs]
  obtain ⟨hi, hh, h1, h2, h3, h4, h5, h6, h7⟩ := hstill hn
  have hcur : u.current = none := by simpa [hn] using hc
  exact ⟨hi, hh, h1, h2, h3, h4, h5, h6, h7, by rw [hset, h7]; rfl, rfl, hcur, rfl⟩

/-- A line whose loopback test is taken from it is set apart. -/
theorem State.unready.apart_testEnded (h : s.unready tries) (hs : (s.line l).state = .loop) :
    (s.modLine l fun u => { u with tx := .idle, test := none }).apart tries l := by
  refine h.apart (by simp [hs]) (by simp [hs]) (.setLine l s _) ?_ (by rw [modLine_eq, setLine_line_same])
  rw [modLine_eq, setLine_line_same]
  exact (h.lines l).atRest_testEnded hs

/-- A QUEUED line that leaves the probe queue is set apart (R26). -/
theorem State.unready.apart_leaveProbe (h : s.unready tries) (hs : (s.line l).state = .queued) :
    (leaveProbe l s).apart tries l where
  lines := fun j _ => h.lines j
  rest := (h.lines l).atRest (by simp [hs]) (by simp [hs]) ((h.lines l).tx_idle (by simp [hs]) (by simp [hs]) (by simp [hs]))
  tries := fun ht => ⟨(h.tries ht l).1, fun j _ => h.tries ht j⟩
  nodup := h.nodup.erase l
  out := h.nodup.not_mem_erase
  queued := fun j hj => by
    show j ∈ s.probeQueue.erase l ↔ _
    rw [List.mem_erase_of_ne hj]; exact h.queued j
  measuring := fun j _ => h.measuring j
  idle := fun m hm hl => by
    have hm' : s.engine = some m := hm
    have := (h.measuring l).mpr (by simp [hm', hl])
    rw [hs] at this; cases this
  number := h.number

/-- The line of a measurement that ends is set apart (R27). -/
theorem State.unready.apart_endMeasurement (h : s.unready tries) (hs : (s.line l).state = .measuring) :
    (endMeasurement l s).apart tries l := by
  have hk : State.OnlyLine l s (s.modLine l fun u => { u with tx := .idle }) := .setLine l s _
  have he : ∃ m, s.engine = some m ∧ m.line = l := by
    have := (h.measuring l).mp hs
    cases hm : s.engine with
    | none => simp [hm] at this
    | some m => exact ⟨m, rfl, by simpa [hm] using this⟩
  obtain ⟨m, hm, hml⟩ := he
  refine ⟨fun j hj => hk.line_ne j hj ▸ h.lines j, ?_, fun ht => ⟨?_, fun j hj => hk.line_ne j hj ▸ h.tries ht j⟩, h.nodup,
    ?_, fun j hj => ?_, fun j hj => ?_, nofun, nofun⟩
  · obtain ⟨ht, hc, hsm, hstill, -, hg⟩ := h.lines l
    have hlaw : ({ s.line l with tx := .idle } : Line).stateLaw := ⟨ht, hc, hsm, hstill, txLaw_of_idle rfl, hg⟩
    show ((s.modLine l fun u => { u with tx := .idle }).line l).atRest
    rw [modLine_eq, setLine_line_same]
    exact hlaw.atRest (by simp [hs]) (by simp [hs]) rfl
  · show ((s.modLine l fun u => { u with tx := .idle }).line l).attempts ≤ 6
    rw [modLine_eq, setLine_line_same]
    exact (h.tries ht l).1
  · show l ∉ s.probeQueue
    rw [h.queued, hs]; decide
  · show j ∈ s.probeQueue ↔ ((s.modLine l fun u => { u with tx := .idle }).line j).state = .queued
    rw [hk.line_ne j hj]; exact h.queued j
  · show ((s.modLine l fun u => { u with tx := .idle }).line j).state = .measuring ↔ false = true
    rw [hk.line_ne j hj, h.measuring, hm]
    simpa [hml] using fun h => hj h.symm

end Sys2Proof.Machine
end

section
/-! SUPPORT. Where a line set apart may be put, and what each operation that moves a line keeps of the law of lines. -/

namespace Sys2Proof.Machine

variable {tries : Prop} {l : LineNo} {s t : State} {u v : Line}

/-! ### A line set apart is put somewhere -/

/-- A line set apart may be put into any state outside the probe whose law it obeys. -/
theorem State.apart.put (h : s.apart tries l) (k : State.OnlyLine l s t) (hv : (t.line l).stateLaw)
    (h1 : (t.line l).state ≠ .queued) (h2 : (t.line l).state ≠ .measuring)
    (ha : (t.line l).attempts ≤ (s.line l).attempts) : t.unready tries where
  lines := fun j => by
    by_cases hj : j = l
    · rw [hj]; exact hv
    · rw [k.line_ne j hj]; exact h.lines j hj
  tries := fun ht j => by
    obtain ⟨hl, hne⟩ := h.tries ht
    by_cases hj : j = l
    · rw [hj]; exact ⟨ha.trans hl, fun hs => hs.elim (absurd · h1) (absurd · h2)⟩
    · rw [k.line_ne j hj]; exact hne j hj
  nodup := k.probeQueue ▸ h.nodup
  queued := fun j => by
    rw [k.probeQueue]
    by_cases hj : j = l
    · rw [hj]; exact iff_of_false h.out h1
    · rw [k.line_ne j hj]; exact h.queued j hj
  measuring := fun j => by
    rw [k.engine]
    by_cases hj : j = l
    · rw [hj]
      refine iff_of_false h2 ?_
      have := h.idle
      cases he : s.engine with
      | none => simp
      | some m => simpa using this m he
    · rw [k.line_ne j hj]; exact h.measuring j hj
  number := fun m hm => by rw [k.begun]; exact h.number m (k.engine ▸ hm)

/-- A line set apart enters LIVE (R3). -/
theorem State.apart.enterLive (h : s.apart tries l) (r : TakenRate) : (enterLive l r s).unready tries := by
  obtain ⟨ms, loss, m, e⟩ := enterLive_line l r s
  obtain ⟨-, -, -, -, -, -, -, -, hg, hset, -⟩ := h.rest
  refine h.put (.enterLive l r s) ?_ ?_ ?_ ?_ <;> rw [e]
  · exact ⟨by simp, by simp, fun _ => rfl, fun hn => absurd rfl hn, txLaw_of_idle rfl, by simp [hg, hset]⟩
  · simp
  · simp

/-- A line set apart joins the probe queue with an attempt count that leaves an attempt (R25, R28). -/
theorem State.apart.queue (h : s.apart tries l) {v : Line} (hv : v = { s.line l with state := .queued, attempts := v.attempts })
    (ha : tries → v.attempts < 6) :
    State.unready tries { s.setLine l v with probeQueue := s.probeQueue ++ [l] } := by
  have hline : ∀ j, State.line { s.setLine l v with probeQueue := s.probeQueue ++ [l] } j = (s.setLine l v).line j :=
    fun _ => rfl
  have hne : ∀ j, j ≠ l → (s.setLine l v).line j = s.line j := fun j hj => setLine_line_ne s v hj
  have hrest : v.atRest := by rw [hv]; exact h.rest
  have hst : v.state = .queued := by rw [hv]
  refine ⟨fun j => ?_, fun ht j => ?_, ?_, fun j => ?_, fun j => ?_, h.number⟩
  · rw [hline]
    by_cases hj : j = l
    · rw [hj, setLine_line_same]; exact hrest.stateLaw (by simp [hst]) (by simp [hst])
    · rw [hne j hj]; exact h.lines j hj
  · obtain ⟨-, htries⟩ := h.tries ht
    rw [hline]
    by_cases hj : j = l
    · rw [hj, setLine_line_same]; exact ⟨(ha ht).le, fun _ => ha ht⟩
    · rw [hne j hj]; exact htries j hj
  · exact List.nodup_append.mpr ⟨h.nodup, List.nodup_singleton l, fun a ha b hb => by
      rw [List.mem_singleton.mp hb]; exact fun e => h.out (e ▸ ha)⟩
  · rw [hline, List.mem_append, List.mem_singleton]
    by_cases hj : j = l
    · rw [hj, setLine_line_same]; simp [hst]
    · rw [hne j hj]; simpa [hj] using h.queued j hj
  · rw [hline]
    by_cases hj : j = l
    · rw [hj, setLine_line_same]
      refine iff_of_false (by simp [hst]) ?_
      have := h.idle
      cases he : s.engine with
      | none => simp [he]
      | some m => simpa [he] using this m he
    · rw [hne j hj]; exact h.measuring j hj

theorem State.apart.joinProbe (h : s.apart tries l) : (joinProbe l s).unready tries := by
  refine h.queue (v := { s.line l with state := .queued, attempts := 0, test := none }) ?_ fun _ => Nat.zero_lt_succ 5
  obtain ⟨-, -, -, -, -, -, -, -, -, -, -, -, ht⟩ := h.rest
  rw [← ht]

theorem State.apart.requeueProbe (h : s.apart tries l) (ha : tries → (s.line l).attempts < 6) :
    (requeueProbe l s).unready tries :=
  h.queue (v := { s.line l with state := .queued }) rfl ha

theorem State.apart.startByRecord (h : s.apart tries l) : (startByRecord l s).unready tries := by
  unfold Machine.startByRecord
  split
  · exact h.enterLive _
  · exact h.joinProbe

/-- A line set apart may turn OFF (R6). -/
theorem State.apart.turnOff (h : s.apart tries l) : (turnOff l s).unready tries := by
  obtain ⟨ms, loss, e⟩ := turnOff_line l s
  generalize ((s.line l).mapPairs fun p => { p with hits := 0, holdoff := none }).watch = ws at e
  obtain ⟨hi, hh, h1, h2, h3, h4, h5, h6, h7, hset, -, hcur, -⟩ := h.rest
  refine h.put (.turnOff l s) ?_ ?_ ?_ ?_ <;> rw [e]
  · refine Line.atRest.stateLaw ?_ (by simp) (by simp)
    exact ⟨hi, hh, h1, h2, h3, h4, h5, h6, h7, hset, rfl, hcur, rfl⟩
  · simp
  · simp

/-- A line set apart may enter LOOP (R18). -/
theorem State.apart.enterLoop (h : s.apart tries l) (x : LoopTest) : (enterLoop l x s).unready tries := by
  have e : (Machine.enterLoop l x s).line l =
      { s.line l with state := .loop, test := some x, tx := x.transmit (s.line l).record.framing } := by
    rw [Machine.enterLoop, modLine_eq, setLine_line_same]
  obtain ⟨hi, hh, h1, h2, h3, h4, h5, h6, h7, hset, -, hcur, -⟩ := h.rest
  refine h.put (.setLine l s _) ?_ ?_ ?_ ?_ <;> rw [e]
  · refine ⟨by simp, by simp [hcur], nofun, fun _ => ⟨hi, hh, h1, h2, h3, h4, h5, h6, h7⟩, ?_, by simp [h7, hset]⟩
    unfold LoopTest.transmit Line.txLaw
    cases x.pattern[x.sent]? <;> simp
  · simp
  · simp

/-- A line set apart may be put OFF or DARK. -/
theorem State.apart.putDown (h : s.apart tries l) {st : LineState} (hst : st = .off ∨ st = .dark) :
    (s.modLine l fun u => { u with state := st }).unready tries := by
  have e : (s.modLine l fun u => { u with state := st }).line l = { s.line l with state := st } := by
    rw [modLine_eq, setLine_line_same]
  have hr : ({ s.line l with state := st } : Line).atRest := h.rest
  refine h.put (.setLine l s _) ?_ ?_ ?_ ?_ <;> rw [e]
  · rcases hst with rfl | rfl <;> exact hr.stateLaw (by simp) (by simp)
  · rcases hst with rfl | rfl <;> simp
  · rcases hst with rfl | rfl <;> simp

/-- Steady changes leave a line apart that was so, and at rest. -/
theorem State.apart.steady (h : s.apart tries l) (k : State.OnlyLine l s t)
    (hr : (s.line l).atRest → (t.line l).atRest) (ha : (t.line l).attempts ≤ (s.line l).attempts) : t.apart tries l where
  lines := fun j hj => k.line_ne j hj ▸ h.lines j hj
  rest := hr h.rest
  tries := fun ht => by
    obtain ⟨hl, hne⟩ := h.tries ht
    exact ⟨ha.trans hl, fun j hj => k.line_ne j hj ▸ hne j hj⟩
  nodup := k.probeQueue ▸ h.nodup
  out := k.probeQueue ▸ h.out
  queued := fun j hj => by rw [k.probeQueue, k.line_ne j hj]; exact h.queued j hj
  measuring := fun j hj => by rw [k.engine, k.line_ne j hj]; exact h.measuring j hj
  idle := fun m hm => h.idle m (k.engine ▸ hm)
  number := fun m hm => by rw [k.begun]; exact h.number m (k.engine ▸ hm)

/-! ### The engine takes the next line -/

/-- With the engine's turn taken the law holds whole (R27). -/
theorem State.unready.probeTake (h : s.unready tries) : (probeTake s).lawful tries := by
  rcases probeTake_effect s with ⟨e, hr⟩ | ⟨l, rest, tx, ms, loss, m, hnone, hq, e, -, hml, hmn, -, -, -, htx⟩
  · rw [e]; exact h.lawful hr
  have hl : (s.line l).state = .queued := (h.queued l).mp (by rw [hq]; exact List.mem_cons_self)
  have hnd := h.nodup
  rw [hq, List.nodup_cons] at hnd
  have hidle : ∀ j, (s.line j).state ≠ .measuring := fun j => by rw [Ne, h.measuring, hnone]; simp
  rw [e]
  generalize hv : ({ s.line l with
      state := .measuring, tx := tx
      marks := ms ++ [{ offset := (s.line l).ring.newest, stamp := s.unitTime, kind := .measureBegin, arg := 0 }]
      markLoss := loss } : Line) = v
  have hline : ∀ j, State.line { s.setLine l v with probeQueue := rest, begun := s.begun + 1, engine := some m } j
      = (s.setLine l v).line j := fun _ => rfl
  have hvs : v.state = .measuring := by rw [← hv]
  refine ⟨⟨fun j => ?_, hnd.2, fun j => ?_, fun j => ?_, fun m' hm' => ?_, nofun⟩, fun ht j => ?_⟩
  · rw [hline]
    by_cases hj : j = l
    · rw [hj, setLine_line_same, ← hv]
      obtain ⟨h1, h2, -, h4, -, h6⟩ := h.lines l
      refine ⟨by simpa [hl] using h1, by simpa [hl] using h2, nofun, fun _ => h4 (by simp [hl]), ?_, h6⟩
      rcases htx with rfl | rfl <;> simp [Line.txLaw]
    · rw [setLine_line_ne s v hj]; exact h.lines j
  · rw [hline]
    by_cases hj : j = l
    · rw [hj, setLine_line_same]; exact iff_of_false hnd.1 (by simp [hvs])
    · rw [setLine_line_ne s v hj, ← h.queued j, hq]; simp [hj]
  · rw [hline]
    by_cases hj : j = l
    · rw [hj, setLine_line_same]; simp [hvs, hml]
    · rw [setLine_line_ne s v hj]
      exact iff_of_false (hidle j) (by simpa [hml] using fun h => hj h.symm)
  · cases hm'
    show m.number < s.begun + 1
    omega
  · rw [hline]
    have htl := h.tries ht
    by_cases hj : j = l
    · obtain ⟨ha, hb⟩ := htl l
      rw [hj, setLine_line_same, ← hv]; exact ⟨ha, fun _ => hb (.inl hl)⟩
    · rw [setLine_line_ne s v hj]; exact htl j

/-! ### The operations that move a line -/

theorem lawful_enableLine (h : s.lawful tries) : (enableLine l s).lawful tries := by
  unfold enableLine
  split
  case h_1 hs => exact (h.toUnready.apart_self (.inl hs)).startByRecord.probeTake
  case h_2 hs => exact (h.toUnready.apart_self (.inr hs)).startByRecord.probeTake
  all_goals exact h

/-- A restart or an end that leaves the engine and the queue alone leaves nobody waiting. -/
theorem State.unready.lawful_of (h : t.unready tries) (hs : s.lawful tries) (he : t.engine = s.engine)
    (hq : t.probeQueue = s.probeQueue) : t.lawful tries :=
  h.lawful fun hn => hq ▸ hs.ready (he ▸ hn)

/-- Turning off looks neither at the transmitter nor at the test. -/
theorem turnOff_testEnded (l : LineNo) (s : State) :
    turnOff l (s.modLine l fun u => { u with tx := .idle, test := none }) = turnOff l s := by
  unfold turnOff
  simp only [modLine_eq, setLine_line_same, setLine_setLine]

theorem lawful_disableLine (h : s.lawful tries) : (disableLine l s).lawful tries := by
  have hu := h.toUnready
  have off : ∀ {t : State}, t.apart tries l → (t.engine = none → t.probeQueue = []) → (turnOff l t).lawful tries :=
    fun {t} ht hr => ht.turnOff.lawful fun he => by
      rw [(State.OnlyLine.turnOff l t).probeQueue]; exact hr ((State.OnlyLine.turnOff l t).engine ▸ he)
  unfold disableLine
  split
  case h_1 => exact h
  case h_2 hs =>
    refine off (hu.apart_leaveProbe hs) fun he => ?_
    show s.probeQueue.erase l = []
    rw [h.ready he]; rfl
  case h_3 hs => exact (hu.apart_endMeasurement hs).turnOff.probeTake
  case h_4 hs =>
    refine off (hu.apart_exitLive hs) fun he => ?_
    rw [(State.OnlyLine.exitLive l s).probeQueue]; exact h.ready ((State.OnlyLine.exitLive l s).engine ▸ he)
  case h_5 hs => exact off (hu.apart_self (.inr hs)) h.ready
  case h_6 hs =>
    have hk := steady_abortTest l s
    have hs' := (hk.state l).trans hs
    have ha := (hu.steady hk).apart_testEnded hs'
    rw [← turnOff_testEnded]
    refine off ha fun he => ?_
    have ho := State.OnlyLine.abortTest l s
    exact ho.probeQueue.trans (h.ready (ho.engine ▸ he))

theorem lawful_restartLine (h : s.lawful tries) : (restartLine l s).lawful tries := by
  have hu := h.toUnready
  unfold restartLine
  simp only
  split
  · exact h
  · next hs =>
    split
    · refine (hu.apart_leaveProbe hs).startByRecord.lawful fun he => ?_
      have hp : (leaveProbe l s).line l = s.line l := rfl
      unfold startByRecord at he ⊢
      rw [hp] at he ⊢
      rw [‹(s.line l).record.policy = .fixed›] at he ⊢
      have ho := State.OnlyLine.enterLive l ((leaveProbe l s).takeRate (s.line l).record.fixedIndex) (leaveProbe l s)
      rw [ho.engine] at he
      rw [ho.probeQueue]
      show s.probeQueue.erase l = []
      rw [h.ready he]; rfl
    · exact h
  · next hs => exact (hu.apart_endMeasurement hs).startByRecord.probeTake
  · next hs => exact (hu.apart_exitLive hs).startByRecord.probeTake
  · next hs => exact (hu.apart_self (.inr hs)).startByRecord.probeTake
  · exact h.steady (State.Steady.setLine (.restartPends _))

theorem lawful_loseRate (h : s.lawful tries) (hs : (s.line l).state = .live) : (loseRate l s).lawful tries := by
  have hk := (steady_appendMark l .rateLost 0 s).trans (steady_raiseLine l .rateLost 0 0 0 _)
  exact ((h.toUnready.steady hk).apart_exitLive ((hk.state l).trans hs)).joinProbe.probeTake

theorem lawful_leaveLoop (h : s.lawful tries) (x : LoopTest) (hs : (s.line l).state = .loop) :
    (leaveLoop l x s).lawful tries := by
  have ha := h.toUnready.apart_testEnded hs
  have ho : State.OnlyLine l s (s.modLine l fun u => { u with tx := .idle, test := none }) := .setLine l s _
  unfold leaveLoop
  simp only
  split
  · exact (ha.putDown (.inl rfl)).lawful_of h rfl rfl
  · split
    · exact ha.startByRecord.probeTake
    · have hk := fun r => ho.trans (State.OnlyLine.enterLive l r _)
      exact (ha.enterLive _).lawful_of h (hk _).engine (hk _).probeQueue

theorem lawful_completeTest (h : s.lawful tries) (x : LoopTest) (hs : (s.line l).state = .loop) :
    (completeTest l x s).lawful tries := by
  have hk := fun f => steady_placeTest f s
  exact lawful_leaveLoop (h.steady (hk _)) x (((hk _).state l).trans hs)

/-! ### Measurements that end -/

/-- The line of the measurement in progress is MEASURING. -/
theorem State.unready.measures (h : s.unready tries) {m : Measurement} (hm : s.engine = some m) :
    (s.line m.line).state = .measuring :=
  (h.measuring m.line).mpr (by simp [hm])

theorem AttemptLimit.num_le (a : AttemptLimit) : a.num ≤ 6 := by cases a <;> decide

theorem unready_finalFailure (h : s.apart tries l) (r : FailureReason) : (finalFailure l r s).unready tries := by
  have hk := State.OnlyLine.raiseLine l .rateFail 0 r.mask r.code s
  have hline : ∃ m, (raiseRateFail l r s).line l = { s.line l with summary := m } := by
    obtain ⟨m, d, e, -⟩ := raiseLine_summary l .rateFail 0 r.mask r.code s
    exact ⟨m, by rw [raiseRateFail, e, told_line, setLine_line_same]⟩
  obtain ⟨m, e⟩ := hline
  have ha : (raiseRateFail l r s).apart tries l :=
    h.steady hk (fun hr => by rw [e]; exact hr) (by rw [e])
  unfold finalFailure
  simp only
  split
  · exact ha.enterLive _
  · exact ha.enterLive _
  · exact ((ha.putDown (.inr rfl)).steady (steady_clearFloor l .dark _)).steady (steady_raiseLine l .dark 0 0 0 _)

theorem lawful_failAttempt (h : s.lawful tries) {m : Measurement} (hm : ∃ m', s.engine = some m' ∧ m'.line = m.line)
    (r : FailureReason) : (failAttempt m r s).lawful tries := by
  obtain ⟨m', hm', hl⟩ := hm
  have hs : (s.line m.line).state = .measuring := hl ▸ h.toUnready.measures hm'
  have ha := h.toUnready.apart_endMeasurement hs
  have hatt : ((endMeasurement m.line s).line m.line).attempts = (s.line m.line).attempts := by
    show ((s.modLine m.line fun u => { u with tx := .idle }).line m.line).attempts = _
    rw [modLine_eq, setLine_line_same]
  unfold failAttempt
  simp only
  generalize ht : (endMeasurement m.line s).modLine m.line (fun u => { u with attempts := u.attempts + 1 }) = t
  have hline : t.line m.line = { (endMeasurement m.line s).line m.line with attempts := (s.line m.line).attempts + 1 } := by
    rw [← ht, modLine_eq, setLine_line_same, hatt]
  have hne : ∀ j, j ≠ m.line → t.line j = (endMeasurement m.line s).line j := fun j hj => by
    rw [← ht]; exact setLine_line_ne _ _ hj
  have hb : t.apart tries m.line := by
    refine ⟨fun j hj => hne j hj ▸ ha.lines j hj, by rw [hline]; exact ha.rest, fun hh => ?_, ?_, ?_, fun j hj => ?_,
      fun j hj => ?_, ?_, ?_⟩
    · obtain ⟨-, hothers⟩ := ha.tries hh
      obtain ⟨-, hfew⟩ := h.toUnready.tries hh m.line
      exact ⟨by rw [hline]; exact hfew (.inr hs), fun j hj => hne j hj ▸ hothers j hj⟩
    · rw [← ht]; exact ha.nodup
    · rw [← ht]; exact ha.out
    · rw [hne j hj, ← ht]; exact ha.queued j hj
    · rw [hne j hj, ← ht]; exact ha.measuring j hj
    · rw [← ht]; exact ha.idle
    · rw [← ht]; exact ha.number
  split
  · next hlt => exact (hb.requeueProbe fun _ => hlt.trans_le (AttemptLimit.num_le _)).probeTake
  · exact (unready_finalFailure hb r).probeTake

theorem lawful_finishAttempt (h : s.lawful tries) {m : Measurement} (hm : ∃ m', s.engine = some m' ∧ m'.line = m.line)
    (w : Nat) : (finishAttempt m w s).lawful tries := by
  unfold finishAttempt
  split
  · obtain ⟨m', hm', hl⟩ := hm
    exact ((h.toUnready.apart_endMeasurement (hl ▸ h.toUnready.measures hm')).enterLive _).probeTake
  · exact lawful_failAttempt h hm .noMatch

theorem lawful_countEdge (h : s.lawful tries) {m : Measurement}
    (hm : ∃ m', s.engine = some m' ∧ m'.line = m.line ∧ m'.number = m.number) (n : Nat) :
    (countEdge m n s).lawful tries := by
  obtain ⟨m', hm', hl, hn⟩ := hm
  have hk : s.Steady (s.modLine m.line fun u => { u with rxd := u.rxd.flip }) :=
    .setLine (.report _ _ _ _ _ _ _ _ _ _)
  have hc : ∀ next : Measurement, next.line = m.line → next.number = m.number →
      State.lawful tries { s.modLine m.line fun u => { u with rxd := u.rxd.flip } with engine := some next } :=
    fun next h1 h2 => h.steady (hk.trans (.counts hm' (h1.trans hl.symm) (h2.trans hn.symm)))
  unfold countEdge
  simp only
  split
  · exact hc _ rfl rfl
  · split
    · exact lawful_finishAttempt (hc _ rfl rfl) ⟨_, rfl, rfl⟩ _
    · exact hc _ rfl rfl

theorem lawful_measuredEdge (h : s.lawful tries) {m : Measurement} (hm : s.engine = some m) (n : Nat) :
    (measuredEdge m n s).lawful tries := by
  unfold measuredEdge
  split
  · have hf := lawful_failAttempt h (m := m) ⟨m, hm, rfl⟩ .brk
    have stray : (State.modLine (failAttempt m .brk s) m.line Line.strayEdge).lawful tries :=
      hf.steady (.setLine (steady_strayEdge _))
    unfold lateEdge
    simp only
    split
    · exact stray
    · next next hnext =>
      split
      · exact lawful_countEdge hf (m := { next with phase := m.phase }) ⟨next, hnext, rfl, rfl⟩ n
      · exact stray
  · exact lawful_countEdge h ⟨m, hm, rfl, rfl⟩ n

end Sys2Proof.Machine
end

section
/-! SUPPORT. One pass over the commands for every law of lines and settings: a property that steady changes keep, and that
the few operations which are not steady keep, is kept by every step. -/

namespace Sys2Proof.Machine

/-- A property of the part that steady changes keep, and so do the operations that move a line, write a setting or start
the part. -/
structure KeptByOps (P : State → Prop) : Prop where
  steady : ∀ {s t : State}, s.Steady t → P s → P t
  powerOn : ∀ (straps : Straps) (s : State), P s → P (startLines (raiseUnit .resetDone (powered straps s)))
  reset : ∀ {s : State}, P s → P (startLines (resetActivity s))
  record : ∀ {s : State} (l : LineNo) {b : List Byte} {c : Clamped LineRecord},
    readLineRecord s.rates b = some c → P s → P (applyRecord l c.val s)
  rates : ∀ {s : State} {b : List Byte}, (readRates b).toList.all rateGood = true → s.emptiesNamed (readRates b) = false →
    P s → P { s with rates := readRates b }
  params : ∀ {s : State} (set : BitVec 24) (b : List Byte), P s →
    P (s.mapLines fun l u => if set.getLsbD l.val then { u with params := (readMonitorParams b).val } else u)
  entry : ∀ {s : State} (i : EntryNo) {b : List Byte} {c : Clamped WatchEntry}, readWatchEntry b = some c → P s →
    P (replaceEntry i c.val s)
  unit : ∀ {s : State} {b : List Byte} {c : Clamped UnitRecord}, readUnitRecord b = some c → P s → P (applyUnit c.val s)
  enable : ∀ {s : State} (l : LineNo), P s → P (enableLine l s)
  disable : ∀ {s : State} (l : LineNo), P s → P (disableLine l s)
  measure : ∀ {s : State} {l : LineNo}, (s.line l).state = .live → P s → P (probeTake (joinProbe l (exitLive l s)))
  measureIdle : ∀ {s : State} {l : LineNo}, (s.line l).state = .off ∨ (s.line l).state = .dark → P s →
    P (probeTake (joinProbe l s))
  test : ∀ {s : State} {l : LineNo} (x : LoopTest), (s.line l).state = .live → P s → P (enterLoop l x (exitLive l s))
  testOff : ∀ {s : State} {l : LineNo} (x : LoopTest), (s.line l).state = .off → P s → P (enterLoop l x s)
  completes : ∀ {s : State} {l : LineNo} (x : LoopTest), (s.line l).test.isSome = true → P s → P (completeTest l x s)
  streak : ∀ {s : State} {l : LineNo} (n e : Nat), (s.line l).state = .live → P s → P (judgeStreak l n e s)
  timesOut : ∀ {s : State} {l : LineNo}, (s.line l).monitor.burstLeft = some 0 → P s → P (burstTimesOut l s)
  fails : ∀ {s : State} {m : Measurement} (r : FailureReason), s.engine = some m → P s → P (failAttempt m r s)
  edge : ∀ {s : State} {m : Measurement} (n : Nat), s.engine = some m → P s → P (measuredEdge m n s)

namespace KeptByOps

variable {P : State → Prop} {s : State}

theorem board (hP : KeptByOps P) {s t : State} (hs : P s) (h : s.SameBoard t) : P t := hP.steady (.ofBoard h) hs

/-- A change of one line that keeps its laws. -/
theorem line (hP : KeptByOps P) {s : State} {l : LineNo} {v : Line} (hs : P s) (h : (s.line l).Steady s.needs v) :
    P (s.setLine l v) := hP.steady (.setLine h) hs

theorem grant (hP : KeptByOps P) (hs : P s) : P (upGrant s) := hP.steady (steady_upGrant s) hs

theorem deliver (hP : KeptByOps P) (rq : Request) (a : Answer) (ha : P a.state) : P (deliver rq a) :=
  hP.steady (steady_deliver rq a) ha

/-! ### Requests -/

/-- What a request may do to the part: it keeps the property. -/
def Own (P : State → Prop) (own : Request → State → Answer) : Prop := ∀ rq s, P s → P (own rq s).state

theorem serve (hP : KeptByOps P) (k : RequestKind) {own : Request → State → Answer} (hown : Own P own) (hs : P s) :
    P (serve k own s) := by
  unfold Machine.serve
  split
  · exact hs
  · next f rest hr =>
    split
    · refine hP.grant (hP.deliver _ _ ?_)
      have hg : ∀ n, P (greet (Request.ofFrame f) { s with requests := rest, heldPlaces := n }) := fun n =>
        hP.steady (steady_greet _ _) (hP.board hs ⟨rfl, rfl, rfl, rfl, rfl, rfl, rfl, rfl⟩)
      unfold carryOut
      split
      · exact hown _ _ (hg _)
      · split
        · exact hP.board (hg 0) ⟨rfl, rfl, rfl, rfl, rfl, rfl, rfl, rfl⟩
        · exact hg 1
    · exact hs

theorem onLine {k : RequestKind} {rq : Request} {own : LineNo → Answer} (hs : P s) (h : ∀ l, P (own l).state) :
    P (onLine k rq s own).state := by
  unfold Machine.onLine
  split
  · exact hs
  · exact h _

theorem onSession {k : RequestKind} {rq : Request} {own : SessionNo → Answer} (hs : P s) (h : ∀ i, P (own i).state) :
    P (onSession k rq s own).state := by
  unfold Machine.onSession
  split
  · exact hs
  · exact h _

theorem own_lineSet (hP : KeptByOps P) : Own P lineSet := fun rq s hs => onLine hs fun l => by
  split
  · exact hs
  · next c hc =>
    split
    · exact hs
    · exact hP.record l hc hs

theorem own_lineMeasure (hP : KeptByOps P) : Own P lineMeasure := fun rq s hs => onLine hs fun l => by
  split
  case h_1 hl => exact hP.measure hl hs
  case h_2 hl => exact hP.measureIdle (.inl hl) hs
  case h_3 hl => exact hP.measureIdle (.inr hl) hs
  all_goals exact hs

theorem own_lineTest (hP : KeptByOps P) : Own P lineTest := fun rq s hs => onLine hs fun l => by
  simp only
  split
  · exact hs
  · split
    case h_1 hl => exact hP.test _ hl hs
    case h_2 hl => exact hP.testOff _ hl hs
    all_goals exact hs

theorem own_rateTableSet (hP : KeptByOps P) : Own P rateTableSet := fun rq s hs => by
  unfold rateTableSet
  simp only
  split
  · exact hs
  · next hgood =>
    split
    · exact hs
    · next hn => exact hP.rates (by simpa using hgood) (by simpa using hn) hs

theorem own_monitorSet (hP : KeptByOps P) : Own P monitorSet := fun rq s hs => by
  unfold monitorSet
  split
  · exact hs
  · exact hP.params _ _ hs

theorem own_watchSet (hP : KeptByOps P) : Own P watchSet := fun rq s hs => by
  unfold watchSet
  split
  · exact hs
  · split
    · exact hs
    · next hc => exact hP.entry _ hc hs

theorem own_unitSet (hP : KeptByOps P) : Own P unitSet := fun rq s hs => by
  unfold unitSet
  split
  · exact hs
  · next hc => exact hP.unit hc hs

theorem own_setTime (hP : KeptByOps P) : Own P setTime := fun rq s hs => by
  have ht : P { s with unitTime := BitVec.ofNat 32 (numAt rq.body 0 4) } :=
    hP.board hs ⟨rfl, rfl, rfl, rfl, rfl, rfl, rfl, rfl⟩
  have hl : P (State.forLines { s with unitTime := BitVec.ofNat 32 (numAt rq.body 0 4) } settleHold) :=
    hP.steady (.forLines steady_settleHold) ht
  simpa only [setTime, Answer.of] using hl

theorem own_eventsRead (hP : KeptByOps P) : Own P eventsRead := fun rq s hs => by
  unfold eventsRead
  simp only
  split
  · exact hP.board hs ⟨rfl, rfl, rfl, rfl, rfl, rfl, rfl, rfl⟩
  · split
    · exact hs
    · exact hP.line hs (.report _ _ _ _ _ _ _ _ _ _)

theorem own_snapshotRead : Own P snapshotRead := fun rq s hs => by
  unfold snapshotRead
  split <;> exact hs

theorem own_watchRead : Own P watchRead := fun rq s hs => by
  unfold watchRead
  split <;> exact hs

theorem own_snapshotFree (hP : KeptByOps P) : Own P snapshotFree := fun rq s hs => by
  unfold snapshotFree
  split
  · exact hs
  · split
    · exact hP.board hs ⟨rfl, rfl, rfl, rfl, rfl, rfl, rfl, rfl⟩
    · exact hs
    · exact hs

theorem own_snapshotTake (hP : KeptByOps P) : Own P snapshotTake := fun rq s hs => onLine hs fun l => by
  split
  case h_6 =>
    unfold takeSnapshot
    simp only
    split <;> exact hP.steady (steady_fireTrigger _ _) hs
  all_goals exact hs

theorem own_openSession (hP : KeptByOps P) : Own P openSession := fun rq s hs => by
  unfold openSession
  split
  · exact hs
  · split
    · exact hs
    · split
      · exact hs
      · exact hP.steady (steady_setSession _ _ _) hs

theorem own_seek (hP : KeptByOps P) : Own P seek := fun rq s hs => onSession hs fun i => by
  split
  · exact hs
  · exact hP.steady (steady_setSession _ _ _) hs

theorem own_credit (hP : KeptByOps P) : Own P credit := fun rq s hs => by
  unfold credit
  split
  · exact hP.board hs ⟨rfl, rfl, rfl, rfl, rfl, rfl, rfl, rfl⟩
  · exact hP.steady (steady_setSession _ _ _) hs

theorem own_floorRequest (hP : KeptByOps P) : Own P floorRequest := fun rq s hs => onSession hs fun i => by
  simp only
  split
  · exact hs
  · split
    · exact hs
    · split
      · exact hs
      · exact hP.steady (steady_settleRequest _ _ _ _) hs

theorem own_typeBytes (hP : KeptByOps P) : Own P typeBytes := fun rq s hs => onSession hs fun i => by
  simp only
  split
  · exact hs
  · split
    · exact hs
    · split
      · exact hs
      · next hl => exact hP.steady (steady_typeInto _ i _ s (by simpa using hl)) hs

theorem own_sendBreak (hP : KeptByOps P) : Own P sendBreak := fun rq s hs => onSession hs fun i => by
  simp only
  split
  · exact hs
  · split
    · exact hs
    · split
      · exact hs
      · next hl =>
        split
        · exact hs
        · next hroom =>
          refine hP.steady (steady_startElement _ _) ?_
          have hr := steady_restartIdle (s.session i).line s
          refine hP.line (hP.steady hr hs) (.queues _ ((hr.state _).trans (by simpa using hl)) ?_ _ _)
          have hq : ((restartIdle (s.session i).line s).line (s.session i).line).injection
              = (s.line (s.session i).line).injection := by
            rw [restartIdle_effect, setLine_line_same]
          simp only [Line.room] at hroom
          simp only [hq, List.length_append, List.length_singleton]
          omega

end KeptByOps

end Sys2Proof.Machine
end

section
/-! SUPPORT. The events and ports, and the step: what a property kept by the operations keeps through every command. -/

namespace Sys2Proof.Machine

namespace KeptByOps

variable {P : State → Prop} {s t : State}

/-! ### Ports and resets -/

theorem powersOn (hP : KeptByOps P) (hs : P s) {straps : Straps} (h : execPowerOn straps s = .next t) : P t := by
  have hp := hP.powerOn straps s hs
  unfold execPowerOn at h
  generalize startLines (raiseUnit .resetDone (powered straps s)) = w at hp h
  cases h
  exact hp

theorem upLinkDown (hP : KeptByOps P) (hs : P s) (h : execUpLinkDown s = .next t) : P t := by
  cases h
  split
  · refine hP.steady (steady_repeated steady_dropUp _ _) ?_
    have hd : P { s with upLink := false, upTx := none, upQueue := [] } :=
      hP.board hs ⟨rfl, rfl, rfl, rfl, rfl, rfl, rfl, rfl⟩
    split
    · exact hd
    · exact hP.steady (steady_cutOffUp _ _) (hP.board hd ⟨rfl, rfl, rfl, rfl, rfl, rfl, rfl, rfl⟩)
  · exact hs

theorem downLinkDown (hP : KeptByOps P) (hs : P s) (h : execDownLinkDown s = .next t) : P t := by
  cases h
  split
  · refine hP.grant (hP.steady (steady_repeated steady_dropDown _ _) ?_)
    exact hP.board hs ⟨rfl, rfl, rfl, rfl, rfl, rfl, rfl, rfl⟩
  · exact hs

theorem linkComesUp (hP : KeptByOps P) (hs : P s) {port : Port} (h : execLinkComesUp port s = .next t) : P t := by
  cases h
  cases port with
  | up =>
    dsimp only
    split
    · exact hs
    · exact hP.grant (hP.board hs ⟨rfl, rfl, rfl, rfl, rfl, rfl, rfl, rfl⟩)
  | down =>
    dsimp only
    split
    · exact hs
    · exact hP.steady (steady_downStart _) (hP.board hs ⟨rfl, rfl, rfl, rfl, rfl, rfl, rfl, rfl⟩)

theorem upFrameArrival (hP : KeptByOps P) (hs : P s) {f : Frame} {good : Bool}
    (h : execUpFrameArrival f good s = .next t) : P t := by
  cases h
  split
  · exact hP.grant (hP.steady (steady_filterUp _ _) hs)
  · exact hs

theorem downFrameArrival (hP : KeptByOps P) (hs : P s) {f : Frame} {good : Bool}
    (h : execDownFrameArrival f good s = .next t) : P t := by
  cases h
  split
  · exact hP.grant (hP.steady (steady_joinUp _ _) hs)
  · exact hs

theorem upTransmitComplete (hP : KeptByOps P) (hs : P s) (h : execUpTransmitComplete s = .next t) : P t := by
  cases h
  split
  · exact hs
  · split
    · exact hP.board hs ⟨rfl, rfl, rfl, rfl, rfl, rfl, rfl, rfl⟩
    · exact hP.grant (hP.board hs ⟨rfl, rfl, rfl, rfl, rfl, rfl, rfl, rfl⟩)

theorem downTransmitComplete (hP : KeptByOps P) (hs : P s) (h : execDownTransmitComplete s = .next t) : P t := by
  cases h
  split
  · exact hs
  · exact hP.steady (steady_downStart _) (hP.board hs ⟨rfl, rfl, rfl, rfl, rfl, rfl, rfl, rfl⟩)

theorem sameBoard_placeWaiting (s : State) : s.SameBoard (placeWaiting s) := by
  obtain ⟨_, h, -⟩ := placeWaiting_effect s
  rw [h]; exact ⟨rfl, rfl, rfl, rfl, rfl, rfl, rfl, rfl⟩

/-- What the reset of the queues, the summaries and the slots leaves of the lines. -/
theorem resetParts (hP : KeptByOps P) (hs : P s) : P (resetSlots (resetAlerts (resetQueues s))) := by
  have hq : P (resetQueues s) :=
    hP.grant (hP.steady (.ofBoard (sameBoard_placeWaiting _)) (hP.board hs ⟨rfl, rfl, rfl, rfl, rfl, rfl, rfl, rfl⟩))
  have ha : P (resetAlerts (resetQueues s)) := by
    generalize resetQueues s = t at hq ⊢
    have hm : P (t.mapLines fun _ u => { u with summary := .reset }) :=
      hP.steady (State.Steady.mapLines fun l => Line.Steady.report (t.line l) _ _ _ _ _ _ _ _ _) hq
    have hr : ∀ w, P w → P (raiseUnit .resetDone { w with unitSummary := { kinds := 0, outcome := .none } }) :=
      fun w hw => hP.steady (steady_raiseUnit _ _) (hP.board hw ⟨rfl, rfl, rfl, rfl, rfl, rfl, rfl, rfl⟩)
    exact hr _ hm
  generalize resetAlerts (resetQueues s) = t at ha ⊢
  refine hP.steady ?_ ha
  exact State.Steady.forSlots fun k w => by
    split
    · exact steady_completeSlot k true w
    · exact .refl w

theorem unitResetApplied (hP : KeptByOps P) (hs : P s) (h : execUnitResetApplied s = .next t) : P t := by
  cases h
  split
  · exact hP.grant (hP.reset (hP.resetParts hs))
  · exact hs

theorem unknownKindRequest (hP : KeptByOps P) (hs : P s) (h : execUnknownKindRequest s = .next t) : P t := by
  cases h
  split
  · exact hs
  · split
    · refine hP.grant (hP.deliver _ _ (hP.steady (steady_greet _ _) ?_))
      exact hP.board hs ⟨rfl, rfl, rfl, rfl, rfl, rfl, rfl, rfl⟩
    · exact hs

/-! ### The receiver and the transmitter -/

theorem captures (hP : KeptByOps P) (hs : P s) (l : LineNo) (data : Byte) (p f : Bool) :
    P (upGrant (captureCharacter l data p f s)) := hP.grant (hP.steady (steady_captureCharacter _ _ _ _ _) hs)

theorem breakIn (hP : KeptByOps P) (hs : P s) {l : LineNo} (h : execBreakIn l s = .next t) : P t := by
  cases h
  split
  · exact hP.grant (hP.steady (steady_detectBreak _ _) hs)
  · exact hs

theorem loopCharacterReceived (hP : KeptByOps P) (hs : P s) {l : LineNo} {data : Byte} {p f : Bool}
    (h : execLoopCharacterReceived l data p f s = .next t) : P t := by
  cases h
  split
  · exact hs
  · next x hx =>
    split
    · unfold loopReceive
      simp only
      split
      · exact hP.grant (hP.completes _ (by rw [hx]; rfl) hs)
      · exact hP.line hs (.tests _ hx _ (.inl rfl))
    · exact hs

theorem loopTestTimeout (hP : KeptByOps P) (hs : P s) {l : LineNo} (h : execLoopTestTimeout l s = .next t) : P t := by
  cases h
  split
  · exact hs
  · next x hx =>
    split
    · exact hP.grant (hP.completes _ (by rw [hx]; rfl) hs)
    · exact hs

theorem patternByteSent (hP : KeptByOps P) (hs : P s) {l : LineNo} (h : execPatternByteSent l s = .next t) : P t := by
  cases h
  split
  · next x _ hx =>
    unfold patternSent
    simp only
    split
    · refine hP.line hs (.tests _ hx _ (.inr ?_))
      unfold LoopTest.transmit
      split
      · exact .inl rfl
      · exact .inr ⟨_, _, rfl⟩
    · split
      · exact hP.grant (hP.completes _ (by rw [hx]; rfl) hs)
      · exact hP.line hs (.tests _ hx _ (.inr (.inl rfl)))
  · exact hs

theorem byteTransmitted (hP : KeptByOps P) (hs : P s) {l : LineNo} (h : execByteTransmitted l s = .next t) : P t := by
  cases h
  split
  · exact hP.steady (steady_byteDone _ _ _) hs
  all_goals exact hs

theorem breakSpaceEnd (hP : KeptByOps P) (hs : P s) {l : LineNo} (h : execBreakSpaceEnd l s = .next t) : P t := by
  cases h
  split
  case h_1 htx =>
    split
    · exact hP.line hs (.txBreakMark _ htx _)
    · exact hs
  all_goals exact hs

theorem breakOutEnd (hP : KeptByOps P) (hs : P s) {l : LineNo} (h : execBreakOutEnd l s = .next t) : P t := by
  cases h
  split
  case h_1 =>
    split
    · exact hP.steady (steady_beginGap _ _ _) hs
    · exact hs
  all_goals exact hs

theorem pacingGapExpiry (hP : KeptByOps P) (hs : P s) {l : LineNo} (h : execPacingGapExpiry l s = .next t) : P t := by
  cases h
  split
  · exact hP.steady (steady_startElement _ _) (hP.line hs (.report _ _ _ _ _ _ _ _ _ _))
  · exact hs

theorem holdExpiry (hP : KeptByOps P) (hs : P s) {l : LineNo} (h : execHoldExpiry l s = .next t) : P t := by
  cases h
  split
  · exact hP.steady (steady_startElement _ _) (hP.line hs (.unheld _))
  · exact hs

/-! ### The Rate Probe -/

theorem measuredBy (edge : MeasuredEdge) {m : Measurement} (h : s.measuredBy? edge = some m) : s.engine = some m := by
  unfold State.measuredBy? at h
  split at h
  · cases h
  · split at h
    · cases h; assumption
    · cases h

theorem strayEdge (hP : KeptByOps P) (hs : P s) (l : LineNo) : P (s.modLine l Line.strayEdge) :=
  hP.line hs (steady_strayEdge _)

theorem measureEdge (hP : KeptByOps P) (hs : P s) {e : MeasuredEdge} (h : execMeasureEdge e s = .next t) : P t := by
  cases h
  split
  · exact hP.strayEdge hs _
  · next hm => exact hP.grant (hP.edge _ (measuredBy e hm) hs)

theorem edgeCountReached (hP : KeptByOps P) (hs : P s) {e : MeasuredEdge} (h : execEdgeCountReached e s = .next t) :
    P t := by
  cases h
  split
  · exact hP.strayEdge hs _
  · next hm =>
    split
    · exact hP.grant (hP.edge _ (measuredBy e hm) hs)
    · exact hs

theorem measureWindowExpiry (hP : KeptByOps P) (hs : P s) (h : execMeasureWindowExpiry s = .next t) : P t := by
  cases h
  split
  · exact hs
  · next hm =>
    split
    · exact hP.grant (hP.fails _ hm hs)
    · exact hs

theorem measureBreak (hP : KeptByOps P) (hs : P s) (h : execMeasureBreak s = .next t) : P t := by
  cases h
  split
  · exact hs
  · next hm =>
    split
    · exact hP.grant (hP.fails _ hm hs)
    · exact hs

/-- Only a probe character ends with its transmitter idle. -/
theorem steady_probeDone (u : Line) {needs : EntryNo → Nat} : u.Steady needs { u with tx := u.tx.probeDone } := by
  have htx : u.tx.probeDone = u.tx ∨ u.tx.probeDone = .idle := by cases u.tx <;> simp [Transmitter.probeDone]
  rcases htx with h | h <;> rw [h]
  · exact .refl u
  · exact .txIdle _ _ _

theorem probeCharacterEnd (hP : KeptByOps P) (hs : P s) (h : execProbeCharacterEnd s = .next t) : P t := by
  cases h
  split
  · exact hs
  · next m hm =>
    exact hP.line hs (steady_probeDone _)

/-! ### Timers -/

theorem sampleExpiry (hP : KeptByOps P) (hs : P s) {l : LineNo} (h : execSampleExpiry l s = .next t) : P t := by
  cases h
  split
  · next hl =>
    obtain ⟨hl, -⟩ := hl
    have hm := steady_monitorExpiry l s hl
    have hn := hm.trans (steady_nextInterval l _ ((hm.state l).trans hl))
    exact hP.grant (hP.streak _ _ ((hn.state l).trans hl) (hP.steady hn hs))
  · exact hs

theorem burstTimeout (hP : KeptByOps P) (hs : P s) {l : LineNo} (h : execBurstTimeout l s = .next t) : P t := by
  cases h
  split
  · next hb => exact hP.grant (hP.timesOut (ranOut_eq_true.mp hb.1) hs)
  · exact hs

theorem holdoffExpiry (hP : KeptByOps P) (hs : P s) {i : EntryNo} {l : LineNo} (h : execHoldoffExpiry i l s = .next t) :
    P t := by
  cases h
  split
  · refine hP.line hs (.watches _ id fun _ hh j => ?_)
    show (((s.line l).setPair i { (s.line l).pair i with holdoff := none }).pair j).hits < _
    by_cases hj : j = i
    · rw [hj, setPair_pair_same]; exact hh i
    · rw [setPair_pair_ne _ _ hj]; exact hh j
  · exact hs

theorem fillLimitExpiry (hP : KeptByOps P) (hs : P s) {k : SlotNo} (h : execFillLimitExpiry k s = .next t) : P t := by
  cases h
  split
  · exact hP.grant (hP.steady (steady_completeSlot _ _ _) hs)
  · exact hs

theorem gatherTimerExpiry (hP : KeptByOps P) (hs : P s) {l : LineNo} (h : execGatherTimerExpiry l s = .next t) :
    P t := by
  cases h
  split
  · exact hP.grant (hP.line hs (.settles _))
  · exact hs

theorem keepTimerExpiry (hP : KeptByOps P) (hs : P s) {i : SessionNo} (h : execKeepTimerExpiry i s = .next t) : P t := by
  cases h
  split
  · exact hP.grant (hP.steady (steady_closeRecord _ _ _) hs)
  · exact hs

theorem idleExpiry (hP : KeptByOps P) (hs : P s) {l : LineNo} (h : execIdleExpiry l s = .next t) : P t := by
  cases h
  split
  · exact hP.grant (hP.steady (steady_releaseHeld _ _ _ _ _) hs)
  · exact hs

theorem attendanceExpiry (hP : KeptByOps P) (hs : P s) (h : execAttendanceExpiry s = .next t) : P t := by
  have hl : P (lapse s) := hP.steady (steady_lapse s) hs
  unfold execAttendanceExpiry at h
  generalize lapse s = w at hl h
  cases h
  split
  · exact hP.grant hl
  · exact hs

/-! ### Every command -/

theorem exec (hP : KeptByOps P) (hs : P s) (c : Instr) (h : exec c s = .next t) : P t := by
  have own := fun k {f : Request → State → Answer} (hf : Own P f) => hP.serve k hf hs
  have reads : ∀ {f : Request → State → Answer}, (∀ rq s, (f rq s).state = s) → Own P f :=
    fun hf rq s hs => (hf rq s).symm ▸ hs
  cases c with
  | powerOn => exact hP.powersOn hs h
  | upLinkDown => exact hP.upLinkDown hs h
  | downLinkDown => exact hP.downLinkDown hs h
  | linkComesUp => exact hP.linkComesUp hs h
  | upFrameArrival => exact hP.upFrameArrival hs h
  | downFrameArrival => exact hP.downFrameArrival hs h
  | upTransmitComplete => exact hP.upTransmitComplete hs h
  | downTransmitComplete => exact hP.downTransmitComplete hs h
  | unitResetApplied => exact hP.unitResetApplied hs h
  | unitStatus => cases h; exact own _ (reads fun _ _ => rfl)
  | unitSet => cases h; exact own _ hP.own_unitSet
  | setTime => cases h; exact own _ hP.own_setTime
  | unitReset => cases h; exact own _ fun _ _ hs => hP.board hs ⟨rfl, rfl, rfl, rfl, rfl, rfl, rfl, rfl⟩
  | lineRead => cases h; exact own _ fun _ _ hs => onLine hs fun _ => hs
  | lineSet => cases h; exact own _ hP.own_lineSet
  | lineEnable => cases h; exact own _ fun _ _ hs => onLine hs fun l => hP.enable l hs
  | lineDisable => cases h; exact own _ fun _ _ hs => onLine hs fun l => hP.disable l hs
  | lineMeasure => cases h; exact own _ hP.own_lineMeasure
  | lineTest => cases h; exact own _ hP.own_lineTest
  | rateTableRead => cases h; exact own _ (reads fun _ _ => rfl)
  | rateTableSet => cases h; exact own _ hP.own_rateTableSet
  | monitorRead => cases h; exact own _ fun _ _ hs => onLine hs fun _ => hs
  | monitorSet => cases h; exact own _ hP.own_monitorSet
  | marksRead => cases h; exact own _ fun _ _ hs => onLine hs fun _ => hs
  | eventsRead => cases h; exact own _ hP.own_eventsRead
  | watchRead => cases h; exact own _ own_watchRead
  | watchSet => cases h; exact own _ hP.own_watchSet
  | snapshotList => cases h; exact own _ (reads fun _ _ => rfl)
  | snapshotRead => cases h; exact own _ own_snapshotRead
  | snapshotFree => cases h; exact own _ hP.own_snapshotFree
  | snapshotTake => cases h; exact own _ hP.own_snapshotTake
  | openSession => cases h; exact own _ hP.own_openSession
  | closeSession => cases h; exact own _ fun _ _ hs => onSession hs fun _ => hP.steady (steady_closeRecord _ _ _) hs
  | seek => cases h; exact own _ hP.own_seek
  | credit => cases h; exact own _ hP.own_credit
  | floorRequest => cases h; exact own _ hP.own_floorRequest
  | floorRelease => cases h; exact own _ fun _ _ hs => onSession hs fun _ => hP.steady (steady_leaveFloor _ _ _) hs
  | typeBytes => cases h; exact own _ hP.own_typeBytes
  | sendBreak => cases h; exact own _ hP.own_sendBreak
  | unknownKindRequest => exact hP.unknownKindRequest hs h
  | characterCapture => cases h; exact hP.captures hs _ _ _ _
  | framingErrorCapture => cases h; exact hP.captures hs _ _ _ _
  | breakIn => exact hP.breakIn hs h
  | loopCharacterReceived => exact hP.loopCharacterReceived hs h
  | loopTestTimeout => exact hP.loopTestTimeout hs h
  | byteTransmitted => exact hP.byteTransmitted hs h
  | breakOutEnd => exact hP.breakOutEnd hs h
  | pacingGapExpiry => exact hP.pacingGapExpiry hs h
  | holdExpiry => exact hP.holdExpiry hs h
  | edgeCountReached => exact hP.edgeCountReached hs h
  | measureWindowExpiry => exact hP.measureWindowExpiry hs h
  | measureBreak => exact hP.measureBreak hs h
  | sampleExpiry => exact hP.sampleExpiry hs h
  | burstTimeout => exact hP.burstTimeout hs h
  | holdoffExpiry => exact hP.holdoffExpiry hs h
  | fillLimitExpiry => exact hP.fillLimitExpiry hs h
  | gatherTimerExpiry => exact hP.gatherTimerExpiry hs h
  | keepTimerExpiry => exact hP.keepTimerExpiry hs h
  | idleExpiry => exact hP.idleExpiry hs h
  | attendanceExpiry => exact hP.attendanceExpiry hs h
  | measureEdge => exact hP.measureEdge hs h
  | startEdge => cases h; exact hP.line hs (steady_atStartEdge _ _)
  | rxdReturnToMark => cases h; exact hP.line hs (steady_atReturnToMark _)
  | probeCharacterEnd => exact hP.probeCharacterEnd hs h
  | patternByteSent => exact hP.patternByteSent hs h
  | breakSpaceEnd => exact hP.breakSpaceEnd hs h

/-- A property that the operations keep is kept by every step. -/
theorem step (hP : KeptByOps P) (hs : P s) (h : step s = .next t) : P t := by
  unfold Machine.step at h
  split at h
  · have ht : P (tick s) := hP.steady (steady_tick s) hs
    injection h with h
    exact h ▸ ht
  · next c rest _ =>
    have hw : P (s.withPending rest) := hP.board hs ⟨rfl, rfl, rfl, rfl, rfl, rfl, rfl, rfl⟩
    exact hP.exec hw c h

end KeptByOps

end Sys2Proof.Machine
end

section
/-! SUPPORT. Settings and counts in range through the operations that write a setting, and through every step: the fields
read from a request are in their ranges (R21, R43, R75, R78, R164). -/

namespace Sys2Proof.Machine

/-! ### What the readers read -/

theorem clamp_mem (lo hi n : Nat) (h : lo ≤ hi) : lo ≤ (clamp lo hi n).val ∧ (clamp lo hi n).val ≤ hi :=
  ⟨le_max_left _ _, max_le h (min_le_left _ _)⟩

theorem clamp_le (hi n : Nat) : (clamp 0 hi n).val ≤ hi := (clamp_mem 0 hi n (Nat.zero_le _)).2

theorem inRange?_eq_some {lo hi n m : Nat} : inRange? lo hi n = some m ↔ (lo ≤ n ∧ n ≤ hi) ∧ n = m := by
  simp [inRange?]

theorem readRateIndex_ne {rates : Vector Nat 16} {n : Nat} {i : RateIndex} (h : readRateIndex rates n = some i) :
    rates[i.val] ≠ 0 := by
  unfold readRateIndex at h
  split at h
  · cases h
  · split at h
    · cases h
    · next hne => cases h; exact hne

theorem readSnapshotOption_inRange {flag pre post : Nat} {c : Clamped (Option SnapshotLengths)}
    (h : readSnapshotOption flag pre post = some c) : snapshotInRange c.val := by
  unfold readSnapshotOption at h
  split at h
  · cases h
  · cases h; exact nofun
  · cases h
    intro p hp
    cases hp
    exact ⟨clamp_le _ _, clamp_le _ _⟩

theorem readLineRecord_inRange {rates : Vector Nat 16} {b : List Byte} {c : Clamped LineRecord}
    (h : readLineRecord rates b = some c) : c.val.inRange rates := by
  unfold readLineRecord at h
  obtain ⟨_, -, h⟩ := Option.bind_eq_some_iff.mp h
  obtain ⟨_, hfix, h⟩ := Option.bind_eq_some_iff.mp h
  obtain ⟨_, hback, h⟩ := Option.bind_eq_some_iff.mp h
  obtain ⟨_, -, h⟩ := Option.bind_eq_some_iff.mp h
  obtain ⟨_, -, h⟩ := Option.bind_eq_some_iff.mp h
  obtain ⟨_, -, h⟩ := Option.bind_eq_some_iff.mp h
  obtain ⟨_, -, h⟩ := Option.bind_eq_some_iff.mp h
  obtain ⟨_, -, h⟩ := Option.bind_eq_some_iff.mp h
  obtain ⟨_, -, h⟩ := Option.bind_eq_some_iff.mp h
  obtain ⟨_, hstreak, h⟩ := Option.bind_eq_some_iff.mp h
  obtain ⟨_, -, h⟩ := Option.bind_eq_some_iff.mp h
  obtain ⟨_, -, h⟩ := Option.bind_eq_some_iff.mp h
  obtain ⟨_, hring, h⟩ := Option.bind_eq_some_iff.mp h
  obtain ⟨_, hburst, h⟩ := Option.bind_eq_some_iff.mp h
  obtain ⟨_, hbreak, h⟩ := Option.bind_eq_some_iff.mp h
  obtain ⟨_, -, h⟩ := Option.bind_eq_some_iff.mp h
  obtain ⟨⟨-, hst⟩, rfl⟩ := inRange?_eq_some.mp hstreak
  obtain ⟨⟨hlo, hhi⟩, rfl⟩ := inRange?_eq_some.mp hring
  cases h
  exact ⟨readRateIndex_ne hfix, readRateIndex_ne hback, hst, clamp_le _ _, clamp_le _ _, clamp_le _ _, hlo, hhi,
    readSnapshotOption_inRange hburst, readSnapshotOption_inRange hbreak⟩

theorem readMonitorParams_inRange (b : List Byte) : (readMonitorParams b).val.inRange := by
  obtain ⟨hce, hce'⟩ := clamp_mem 1 15 (numAt b 6 1) (by decide)
  obtain ⟨hcx, hcx'⟩ := clamp_mem 1 15 (numAt b 7 1) (by decide)
  exact ⟨clamp_le _ _, clamp_le _ _, clamp_le _ _, clamp_le _ _, clamp_le _ _, hce, hce', hcx, hcx', clamp_le _ _,
    clamp_le _ _⟩

theorem readElements_length {n : Nat} {b : List Byte} {es : List PatternElement} (h : readElements n b = some es) :
    es.length = n := by
  induction n generalizing b es with
  | zero => cases h; rfl
  | succ n ih =>
    simp only [readElements, Option.bind_eq_bind, Option.bind_eq_some_iff] at h
    obtain ⟨_, -, _, hr, h⟩ := h
    cases h
    rw [List.length_cons, ih hr]

theorem readWatchEntry_inRange {b : List Byte} {c : Clamped WatchEntry} (h : readWatchEntry b = some c) :
    c.val.inRange := by
  simp only [readWatchEntry, Option.bind_eq_bind, Option.bind_eq_some_iff, inRange?_eq_some] at h
  obtain ⟨_, -, _, ⟨⟨hlo, hhi⟩, rfl⟩, _, -, _, ⟨⟨hlo', hhi'⟩, rfl⟩, _, ⟨-, rfl⟩, _, hp, h⟩ := h
  cases h
  refine ⟨?_, ?_, hlo', hhi', clamp_le _ _, fun p hp => ?_, fun t ht => ?_⟩
  · rwa [readElements_length hp]
  · rwa [readElements_length hp]
  · obtain ⟨-, hp⟩ := Option.ite_none_right_eq_some.mp hp
    cases hp
    exact ⟨clamp_le _ _, clamp_le _ _⟩
  · obtain ⟨-, ht⟩ := Option.ite_none_right_eq_some.mp ht
    cases ht
    exact clamp_mem 1 60 _ (by decide)

theorem readAddrs_length (n : Nat) (b : List Byte) : (readAddrs n b).length = n := by
  induction n generalizing b with
  | zero => rfl
  | succ n ih => rw [readAddrs, List.length_cons, ih]

theorem readSupervisors_good {n : Nat} {b : List Byte} {as : List Addr} (h : readSupervisors n b = some as) :
    as.length = n ∧ as.all isStation = true ∧ as.Nodup := by
  unfold readSupervisors at h
  obtain ⟨hg, h⟩ := Option.ite_none_right_eq_some.mp h
  cases h
  obtain ⟨hst, hnd⟩ := (Bool.and_eq_true _ _).mp hg
  exact ⟨readAddrs_length n b, hst, of_decide_eq_true hnd⟩

theorem readUnitRecord_inRange {b : List Byte} {c : Clamped UnitRecord} (h : readUnitRecord b = some c) :
    c.val.inRange := by
  simp only [readUnitRecord, Option.bind_eq_bind, Option.bind_eq_some_iff, inRange?_eq_some] at h
  obtain ⟨_, ⟨⟨hlo, hhi⟩, rfl⟩, _, -, _, -, _, ⟨⟨-, hcount⟩, rfl⟩, _, hsup, h⟩ := h
  obtain ⟨hg, h⟩ := Option.ite_none_right_eq_some.mp h
  cases h
  simp only [Bool.and_eq_true, Bool.not_eq_true'] at hg
  obtain ⟨⟨hgroup, hstation⟩, hcollector⟩ := hg
  obtain ⟨hlen, hall, hnd⟩ := readSupervisors_good hsup
  obtain ⟨hf, hf'⟩ := clamp_mem 1 255 (numAt b 23 1) (by decide)
  obtain ⟨ht, ht'⟩ := clamp_mem 5 100 (numAt b 24 1) (by decide)
  refine ⟨hgroup, ?_, hstation, hcollector, clamp_le _ _, hf, hf', ht, ht', hlen.trans_le hcount, hall, hnd⟩
  rw [BitVec.toNat_ofNat, Nat.mod_eq_of_lt (by omega)]
  exact hlo

/-! ### Settings, and with them counts, in range -/

/-- Every setting is in range, and where `counts` asks for it every list, count and hit count. -/
def State.ranged (counts : Prop) (s : State) : Prop :=
  s.configLaw ∧ (counts → (∀ l, (s.line l).countsLaw) ∧ s.hitsLaw)

variable {counts : Prop} {s t : State}

theorem State.ranged.still (hs : s.ranged counts) (h : s.InRangeStill t) : t.ranged counts := by
  obtain ⟨hc, hn⟩ := hs
  refine ⟨h.configLaw hc, fun hh => ?_⟩
  obtain ⟨hcounts, hhits⟩ := hn hh
  exact ⟨fun l => h.countsLaw hc l (hcounts l), h.hitsLaw hc hhits⟩

/-- Lines, rates and entries written within their ranges. -/
theorem State.ranged.written (hs : s.ranged counts) (hu : t.unit = s.unit) (hno : t.unitNumber = s.unitNumber)
    (hrates : ∀ i, rateGood (t.rateAt i) = true) (hentries : ∀ i, (t.entry i).inRange)
    (hline : ∀ l, (t.line l).record.inRange t.rates ∧ (t.line l).params.inRange)
    (hcounts : ∀ l, (s.line l).countsLaw → (t.line l).countsLaw)
    (hhits : ∀ l, (∀ i, ((s.line l).pair i).hits < (s.entry i).hitsNeeded) →
      ∀ i, ((t.line l).pair i).hits < (t.entry i).hitsNeeded) : t.ranged counts := by
  obtain ⟨⟨-, -, -, hunit, hnumber⟩, hn⟩ := hs
  exact ⟨⟨hline, hentries, hrates, hu ▸ hunit, hno ▸ hnumber⟩,
    fun hc => ⟨fun l => hcounts l ((hn hc).1 l), fun l => hhits l ((hn hc).2 l)⟩⟩

theorem ranged_restartLine (l : LineNo) (s : State) : s.InRangeStill (restartLine l s) := by
  unfold restartLine
  simp only
  split
  · exact .refl s
  · split
    · exact (inRangeStill_leaveProbe l s).trans (inRangeStill_startByRecord l _)
    · exact .refl s
  · exact ((inRangeStill_endMeasurement l s).trans (inRangeStill_startByRecord l _)).trans (inRangeStill_probeTake _)
  · exact ((inRangeStill_exitLive l s).trans (inRangeStill_startByRecord l _)).trans (inRangeStill_probeTake _)
  · exact (inRangeStill_startByRecord l s).trans (inRangeStill_probeTake _)
  · exact (State.Steady.setLine (.restartPends _)).inRangeStill

/-- What a LINE SET does to the line after its record stands: ring, idle timer and restart. -/
def State.afterRecord (l : LineNo) (resize idle restart : Bool) (s : State) : State :=
  let t := if resize then resizeRing l s else s
  let t := if idle then restartIdle l t else t
  if restart then restartLine l t else t

theorem applyRecord_eq (l : LineNo) (new : LineRecord) (s : State) :
    applyRecord l new s =
      (s.modLine l fun u => { u with record := new }).afterRecord l (decide (new.ringKiB ≠ (s.line l).record.ringKiB))
        (decide (new.floorIdle ≠ (s.line l).record.floorIdle)) (restarts (s.line l).record new) := by
  simp only [applyRecord, State.afterRecord, decide_eq_true_eq]

theorem steady_resizeRing (l : LineNo) (s : State) : s.Steady (resizeRing l s) :=
  (State.Steady.setLine (.report _ _ _ _ _ _ _ _ _ _)).trans (steady_mapSessions _ _)

/-- A property kept by steady changes and by a restart is kept by all that follows the record. -/
theorem afterRecord_keeps {P : State → Prop} (hst : ∀ {s t : State}, s.Steady t → P s → P t)
    (hre : ∀ l s, P s → P (restartLine l s)) (l : LineNo) (a b c : Bool) (hs : P s) : P (s.afterRecord l a b c) := by
  have h1 : P (if a then resizeRing l s else s) := by
    split
    · exact hst (steady_resizeRing l s) hs
    · exact hs
  have h2 : ∀ t, P t → P (if b then restartIdle l t else t) := fun t ht => by
    split
    · exact hst (steady_restartIdle l t) ht
    · exact ht
  unfold State.afterRecord
  simp only
  split
  · exact hre l _ (h2 _ h1)
  · exact h2 _ h1

theorem ranged_applyRecord (hs : s.ranged counts) (l : LineNo) {new : LineRecord} (h : new.inRange s.rates) :
    (applyRecord l new s).ranged counts := by
  rw [applyRecord_eq]
  refine afterRecord_keeps (fun k h => h.still k.inRangeStill) (fun l s h => h.still (ranged_restartLine l s)) l _ _ _ ?_
  obtain ⟨⟨hl, hrest⟩, hn⟩ := hs
  have hline : ∀ j, ∃ r, (s.modLine l fun u => { u with record := new }).line j = { s.line j with record := r }
      ∧ r.inRange s.rates := fun j => by
    by_cases hj : j = l
    · subst hj; exact ⟨new, setLine_line_same _ _ _, h⟩
    · exact ⟨(s.line j).record, setLine_line_ne _ _ hj, (hl j).1⟩
  refine ⟨⟨fun j => ?_, hrest⟩, fun hc => ⟨fun j => ?_, fun j i => ?_⟩⟩
  · obtain ⟨r, e, hr⟩ := hline j
    rw [e]; exact ⟨hr, (hl j).2⟩
  · obtain ⟨r, e, -⟩ := hline j
    rw [e]; exact (hn hc).1 j
  · obtain ⟨r, e, -⟩ := hline j
    rw [e]; exact (hn hc).2 j i

theorem ranged_rates (hs : s.ranged counts) {table : Vector Nat 16} (hg : table.toList.all rateGood = true)
    (hn : s.emptiesNamed table = false) : State.ranged counts { s with rates := table } := by
  obtain ⟨⟨hl, he, -, hrest⟩, hc⟩ := hs
  have hnamed : ∀ l, table[(s.line l).record.fixedIndex.val] ≠ 0 ∧ table[(s.line l).record.fallbackIndex.val] ≠ 0 :=
    fun l => by simpa using List.any_eq_false.mp hn l (List.mem_finRange l)
  refine ⟨⟨fun l => ?_, he, fun i => ?_, hrest⟩, hc⟩
  · obtain ⟨⟨-, -, hr⟩, hp⟩ := hl l
    exact ⟨⟨(hnamed l).1, (hnamed l).2, hr⟩, hp⟩
  · exact List.all_eq_true.mp hg _ (Vector.mem_toList_iff.mpr (Vector.getElem_mem i.isLt))

theorem ranged_params (hs : s.ranged counts) (set : BitVec 24) {p : MonitorParams} (h : p.inRange) :
    State.ranged counts (s.mapLines fun l u => if set.getLsbD l.val then { u with params := p } else u) := by
  generalize ht : s.mapLines (fun l u => if set.getLsbD l.val then { u with params := p } else u) = t
  have hline : ∀ l, ∃ q, t.line l = { s.line l with params := q } ∧ q.inRange := fun l => by
    obtain ⟨⟨hl, -⟩, -⟩ := hs
    rw [← ht, mapLines_line]
    split
    · exact ⟨p, rfl, h⟩
    · exact ⟨(s.line l).params, rfl, (hl l).2⟩
  have hrates : t.rates = s.rates := by rw [← ht, mapLines_rates]
  have hentries : t.entries = s.entries := by rw [← ht, mapLines_entries]
  have hent : ∀ i, t.entry i = s.entry i := fun i => by simp only [State.entry, hentries]
  obtain ⟨hl, he, hr, -⟩ := hs.1
  refine hs.written (by rw [← ht, mapLines_unit]) (by rw [← ht, mapLines_unitNumber])
    (fun i => by simpa only [State.rateAt, hrates] using hr i) (fun i => hent i ▸ he i) (fun l => ?_) (fun l hc => ?_)
    fun l hh i => ?_ <;> obtain ⟨q, e, hq⟩ := hline l <;> rw [e]
  · rw [hrates]; exact ⟨(hl l).1, hq⟩
  · exact hc
  · rw [hent]; exact hh i

theorem ranged_replaceEntry (hs : s.ranged counts) (i : EntryNo) {e : WatchEntry} (h : e.inRange) :
    (replaceEntry i e s).ranged counts := by
  have hline : ∀ j, (replaceEntry i e s).line j = (s.line j).setPair i .reset := fun j => mapLines_line _ _ j
  have hrates : (replaceEntry i e s).rates = s.rates := mapLines_rates _ _
  have hunit : (replaceEntry i e s).unit = s.unit := mapLines_unit _ _
  have hnumber : (replaceEntry i e s).unitNumber = s.unitNumber := mapLines_unitNumber _ _
  have hentry : ∀ j, (replaceEntry i e s).entry j = if j = i then e else s.entry j := fun j => by
    rw [replaceEntry, mapLines_entry]
    split
    · next hj => rw [hj, setEntry_entry_same]
    · next hj => rw [setEntry_entry_ne _ _ hj]
  generalize replaceEntry i e s = t at hline hrates hunit hnumber hentry
  obtain ⟨hl, he, hr, -⟩ := hs.1
  refine hs.written hunit hnumber (fun j => by simpa only [State.rateAt, hrates] using hr j) (fun j => ?_) (fun j => ?_)
    (fun j hc => ?_) fun j hh k => ?_
  · rw [hentry]
    split
    · exact h
    · exact he j
  · rw [hrates, hline]; exact hl j
  · rw [hline]; exact hc
  · obtain ⟨-, -, hneeds, -⟩ := h
    rw [hline, hentry]
    split
    · next hk => rw [hk, setPair_pair_same]; exact hneeds
    · next hk => rw [setPair_pair_ne _ _ hk]; exact hh k

/-- A property kept by steady changes is kept by all that follows the unit record. -/
theorem applyUnit_keeps {P : State → Prop} (hst : ∀ {s t : State}, s.Steady t → P s → P t) {r : UnitRecord}
    (hu : P { s with unit := r }) : P (applyUnit r s) := by
  have ha : ∀ a, P { s with unit := r, attendance := a } := fun a =>
    hst (s := { s with unit := r }) (.ofBoard ⟨rfl, rfl, rfl, rfl, rfl, rfl, rfl, rfl⟩) hu
  have hb : P (if r.period ≠ s.unit.period then { s with unit := r, attendance := s.attendance.started r.period }
      else { s with unit := r }) := by
    split
    · exact ha _
    · exact hu
  unfold applyUnit
  simp only
  split
  · exact hst (steady_mapSessions _ _) hb
  · exact hb

theorem ranged_applyUnit (hs : s.ranged counts) {r : UnitRecord} (h : r.inRange) : (applyUnit r s).ranged counts := by
  refine applyUnit_keeps (fun k h => h.still k.inRangeStill) ?_
  obtain ⟨⟨hl, he, hr, -, hno⟩, hn⟩ := hs
  exact ⟨⟨hl, he, hr, h, hno⟩, hn⟩

end Sys2Proof.Machine
end

section
/-! SUPPORT. Starting the part (R2, R40, R169), and the laws of lines, settings and counts as properties that every step
keeps. -/

namespace Sys2Proof.Machine

variable {tries counts : Prop} {l : LineNo} {s t : State}

/-! ### Lines started one after the other -/

theorem startByRecord_line_ne {j : LineNo} (hj : j ≠ l) : (startByRecord l s).line j = s.line j := by
  unfold startByRecord
  split
  · exact (State.OnlyLine.enterLive l _ s).line_ne j hj
  · exact setLine_line_ne s _ hj

/-- OFF lines, each started once, leave the law of lines but for the engine's turn. -/
theorem unready_startEach {ls : List LineNo} (hd : ls.Nodup) (h : s.unready tries)
    (hoff : ∀ l ∈ ls, (s.line l).state = .off) : (ls.foldl (fun t l => startByRecord l t) s).unready tries := by
  induction ls generalizing s with
  | nil => exact h
  | cons l ls ih =>
    obtain ⟨hnot, hd⟩ := List.nodup_cons.mp hd
    refine ih hd (h.apart_self (.inl (hoff l List.mem_cons_self))).startByRecord fun j hj => ?_
    have hjl : j ≠ l := fun e => hnot (e ▸ hj)
    rw [startByRecord_line_ne hjl]
    exact hoff j (List.mem_cons_of_mem l hj)

/-- From lines all OFF and at rest the part starts lawful. -/
theorem lawful_startLines (hl : ∀ l, (s.line l).atRest ∧ (s.line l).state = .off ∧ (s.line l).attempts = 0)
    (hq : s.probeQueue = []) (he : s.engine = none) : (startLines s).lawful tries := by
  have hu : s.unready tries := by
    refine ⟨fun l => ?_, fun _ l => ?_, hq ▸ List.nodup_nil, fun l => ?_, fun l => ?_, fun m hm => ?_⟩
    · obtain ⟨hr, ho, -⟩ := hl l
      exact hr.stateLaw (by simp [ho]) (by simp [ho])
    · obtain ⟨-, -, ha⟩ := hl l
      exact ⟨by omega, fun _ => by omega⟩
    · obtain ⟨-, ho, -⟩ := hl l
      simp [hq, ho]
    · obtain ⟨-, ho, -⟩ := hl l
      simp [he, ho]
    · rw [he] at hm; cases hm
  unfold startLines
  exact (unready_startEach (List.nodup_finRange 24) hu fun l _ => (hl l).2.1).probeTake

theorem inRangeStill_startLines (s : State) : s.InRangeStill (startLines s) := by
  have h : ∀ (ls : List LineNo) (s : State), s.InRangeStill (ls.foldl (fun t l => startByRecord l t) s) := fun ls => by
    induction ls with
    | nil => exact .refl
    | cons l ls ih => exact fun s => (inRangeStill_startByRecord l s).trans (ih _)
  exact (h _ s).trans (inRangeStill_probeTake _)

/-! ### Blank lines -/

theorem blankLine_atRest (r : LineRecord) (p : MonitorParams) (x : Level) (m : LineSummary) :
    (blankLine r p x m).atRest := ⟨rfl, rfl, rfl, rfl, rfl, rfl, rfl, rfl, rfl, rfl, rfl, rfl, rfl⟩

theorem blankLine_countsLaw (r : LineRecord) (p : MonitorParams) (x : Level) (m : LineSummary) :
    (blankLine r p x m).countsLaw := by
  refine ⟨Nat.zero_le _, Nat.zero_le _, Nat.zero_le _, nofun, ?_⟩
  exact ⟨Nat.zero_le _, Nat.zero_le _, Nat.zero_le _, Nat.zero_le _, Nat.zero_le _⟩

theorem blankLine_pair (r : LineRecord) (p : MonitorParams) (x : Level) (m : LineSummary) (i : EntryNo) :
    (blankLine r p x m).pair i = .reset := by
  show (Vector.replicate 64 WatchPair.reset)[i.val] = _
  exact Vector.getElem_replicate _

/-- Every line of the part is blank: OFF, without activity, as some record and parameters start it. -/
def State.allBlank (s : State) : Prop :=
  (∀ l, ∃ r p x m, s.line l = blankLine r p x m) ∧ s.probeQueue = [] ∧ s.engine = none

theorem State.allBlank.lawful (h : s.allBlank) : (startLines s).lawful tries := by
  obtain ⟨hl, hq, he⟩ := h
  refine lawful_startLines (fun l => ?_) hq he
  obtain ⟨r, p, x, m, e⟩ := hl l
  rw [e]
  exact ⟨blankLine_atRest r p x m, rfl, rfl⟩

theorem powered_line (straps : Straps) (s : State) (l : LineNo) :
    (powered straps s).line l = blankLine (strappedRecord straps) .reset (s.line l).rxd .reset := by
  unfold powered State.line
  exact Vector.getElem_ofFn _

theorem probeEmptied_line (s : State) (l : LineNo) : State.line { s with probeQueue := [], engine := none } l = s.line l := rfl

theorem resetActivity_line (s : State) (l : LineNo) :
    (resetActivity s).line l = blankLine (s.line l).record (s.line l).params (s.line l).rxd (s.line l).summary :=
  (probeEmptied_line _ l).trans (mapLines_line s _ l)

theorem allBlank_resetActivity (s : State) : (resetActivity s).allBlank :=
  ⟨fun l => ⟨_, _, _, _, resetActivity_line s l⟩, rfl, rfl⟩

/-- RESET_DONE in the unit summary changes no line. -/
theorem allBlank_powered (straps : Straps) (s : State) : (raiseUnit .resetDone (powered straps s)).allBlank := by
  obtain ⟨d, h, -⟩ := raiseUnit_effect .resetDone (powered straps s)
  have hq : (powered straps s).probeQueue = [] := rfl
  have he : (powered straps s).engine = none := rfl
  have hl := powered_line straps s
  rw [h]
  generalize powered straps s = w at hq he hl ⊢
  exact ⟨fun l => ⟨_, _, _, _, (told_line w d l).trans (hl l)⟩, hq, he⟩

/-! ### Settings at power-on -/

theorem ratesReset_good : ratesReset.toList.all rateGood = true := by decide

theorem strappedRecord_inRange (straps : Straps) : (strappedRecord straps).inRange ratesReset := by
  unfold strappedRecord
  cases straps.ratesel <;> cases straps.autosel <;>
    simp [LineRecord.inRange, LineRecord.reset, ratesReset, snapshotInRange]

theorem strappedNumber_ne (straps : Straps) : strappedNumber straps ≠ 0 := by
  unfold strappedNumber
  split
  · decide
  · assumption

/-- The station address that a strapped unit number gives is one. -/
theorem isStation_strapped (n : BitVec 4) (hn : n ≠ 0) : isStation (0x0E4E4A000000#48 + n.setWidth 48) = true := by
  revert hn
  revert n
  decide

theorem strappedUnit_inRange (straps : Straps) : (strappedUnit straps).inRange := by
  have hgroup : isGroup UnitRecord.reset.group = true := by decide
  have htype : 0x0600 ≤ UnitRecord.reset.etherType.toNat := by decide
  have hcollector : isGroup UnitRecord.reset.collector = false := by decide
  refine ⟨hgroup, htype, isStation_strapped _ (strappedNumber_ne straps), hcollector, ?_⟩
  simp [strappedUnit, UnitRecord.reset]

theorem reset_params_inRange : MonitorParams.reset.inRange := by simp [MonitorParams.inRange, MonitorParams.reset]

theorem reset_entry_inRange : WatchEntry.reset.inRange := by
  simp [WatchEntry.inRange, WatchEntry.reset, snapshotInRange]

theorem ranged_powered (straps : Straps) (s : State) : (powered straps s).ranged counts := by
  have hline := powered_line straps s
  have hrates : (powered straps s).rates = ratesReset := rfl
  have hentries : ∀ i, (powered straps s).entry i = .reset := fun i => Vector.getElem_replicate _
  have hunit : (powered straps s).unit = strappedUnit straps := rfl
  have hnumber : (powered straps s).unitNumber = strappedNumber straps := rfl
  generalize powered straps s = t at hline hrates hentries hunit hnumber
  refine ⟨⟨fun l => ?_, fun i => ?_, fun i => ?_, ?_, ?_⟩, fun _ => ⟨fun l => ?_, fun l i => ?_⟩⟩
  · rw [hline, hrates]
    exact ⟨strappedRecord_inRange straps, reset_params_inRange⟩
  · rw [hentries]; exact reset_entry_inRange
  · rw [State.rateAt, List.all_eq_true.mp ratesReset_good _ ?_]
    simp only [hrates]
    exact Vector.mem_toList_iff.mpr (Vector.getElem_mem i.isLt)
  · rw [hunit]; exact strappedUnit_inRange straps
  · rw [hnumber]; exact strappedNumber_ne straps
  · rw [hline]; exact blankLine_countsLaw _ _ _ _
  · rw [hline, blankLine_pair, hentries]; decide

theorem ranged_resetActivity (hs : s.ranged counts) : (resetActivity s).ranged counts := by
  have hline := resetActivity_line s
  have hrates : (resetActivity s).rates = s.rates := by simp [resetActivity]
  have hunit : (resetActivity s).unit = s.unit := by simp [resetActivity]
  have hnumber : (resetActivity s).unitNumber = s.unitNumber := by simp [resetActivity]
  have hentry : ∀ i, (resetActivity s).entry i = s.entry i := by simp [resetActivity, State.entry]
  generalize resetActivity s = t at hline hrates hunit hnumber hentry
  obtain ⟨hl, he, hr, -⟩ := hs.1
  refine hs.written hunit hnumber (fun i => by simpa only [State.rateAt, hrates] using hr i) (fun i => hentry i ▸ he i)
    (fun l => ?_) (fun l _ => ?_) fun l _ i => ?_
  · rw [hrates, hline]; exact hl l
  · rw [hline]; exact blankLine_countsLaw _ _ _ _
  · rw [hline, blankLine_pair, hentry]
    obtain ⟨-, -, hneeds, -⟩ := he i
    exact hneeds

/-! ### The law of lines is kept -/

/-- What is written beside the states, the transmitters and the counts of attempts leaves the law of lines. -/
theorem State.lawful.written (h : s.lawful tries) (hl : ∀ l, (s.line l).stateLaw → (t.line l).stateLaw)
    (hs : ∀ l, (t.line l).state = (s.line l).state) (ha : ∀ l, (t.line l).attempts = (s.line l).attempts)
    (hq : t.probeQueue = s.probeQueue) (he : t.engine = s.engine) (hb : t.begun = s.begun) : t.lawful tries := by
  obtain ⟨⟨h1, h2, h3, h4, h5, h6⟩, ht⟩ := h
  refine ⟨⟨fun l => hl l (h1 l), hq ▸ h2, fun l => ?_, fun l => ?_, fun m hm => ?_, ?_⟩, fun hh l => ?_⟩
  · rw [hq, hs]; exact h3 l
  · rw [he, hs]; exact h4 l
  · rw [hb]; exact h5 m (he ▸ hm)
  · rw [hq, he]; exact h6
  · rw [hs, ha]; exact ht hh l

/-- One line written beside its state. -/
theorem State.lawful.setLine (h : s.lawful tries) {v : Line} (hl : (s.line l).stateLaw → v.stateLaw)
    (hs : v.state = (s.line l).state) (ha : v.attempts = (s.line l).attempts) : (s.setLine l v).lawful tries := by
  refine h.written (fun j hj => ?_) (fun j => ?_) (fun j => ?_) rfl rfl rfl <;> rw [setLine_line] <;> split
  · next e => subst e; exact hl hj
  · exact hj
  · next e => subst e; exact hs
  · rfl
  · next e => subst e; exact ha
  · rfl

theorem lawful_applyRecord (h : s.lawful tries) (l : LineNo) (new : LineRecord) : (applyRecord l new s).lawful tries := by
  rw [applyRecord_eq]
  exact afterRecord_keeps (fun k h => h.steady k) (fun _ _ h => lawful_restartLine h) l _ _ _
    (h.setLine (fun hu => hu) rfl rfl)

theorem lawful_mapLines (h : s.lawful tries) {f : LineNo → Line → Line}
    (hf : ∀ l u, (u.stateLaw → (f l u).stateLaw) ∧ (f l u).state = u.state ∧ (f l u).attempts = u.attempts) :
    (s.mapLines f).lawful tries := by
  refine h.written (fun j hj => ?_) (fun j => ?_) (fun j => ?_) (mapLines_probeQueue s f) (mapLines_engine s f)
    (mapLines_begun s f) <;> rw [mapLines_line]
  · exact (hf j _).1 hj
  · exact (hf j _).2.1
  · exact (hf j _).2.2

theorem lawful_judgeStreak (h : s.lawful tries) (hl : (s.line l).state = .live) (n e : Nat) :
    (judgeStreak l n e s).lawful tries := by
  have ht : (s.modLine l fun u => { u with streak := (s.line l).judgedStreak n e }).lawful tries :=
    h.setLine (fun hu => hu) rfl rfl
  unfold judgeStreak
  simp only
  split
  · refine lawful_loseRate ht ?_
    rw [modLine_eq, setLine_line_same]; exact hl
  · exact ht

theorem lawful_keptByOps (tries : Prop) : KeptByOps (State.lawful tries) where
  steady := fun k h => h.steady k
  powerOn := fun straps s _ => (allBlank_powered straps s).lawful
  reset := fun {s} _ => (allBlank_resetActivity s).lawful
  record := fun l _ _ _ h => lawful_applyRecord h l _
  rates := fun _ _ h => h
  params := fun set b h => lawful_mapLines h fun l u => by
    split <;> exact ⟨fun hu => hu, rfl, rfl⟩
  entry := fun {s} i {b c} _ h => by
    have hs : (s.setEntry i c.val).lawful tries := h
    exact lawful_mapLines hs fun l u => ⟨fun hu => hu, rfl, rfl⟩
  unit := fun _ h => applyUnit_keeps (fun k h => State.lawful.steady h k) h
  enable := fun _ h => lawful_enableLine h
  disable := fun _ h => lawful_disableLine h
  measure := fun hl h => (h.toUnready.apart_exitLive hl).joinProbe.probeTake
  measureIdle := fun hl h => (h.toUnready.apart_self hl).joinProbe.probeTake
  test := fun {s l} x hl h =>
    ((h.toUnready.apart_exitLive hl).enterLoop x).lawful_of h (State.OnlyLine.exitLive l s).engine
      (State.OnlyLine.exitLive l s).probeQueue
  testOff := fun x hl h => ((h.toUnready.apart_self (.inl hl)).enterLoop x).lawful_of h rfl rfl
  completes := fun {s l} x hx h => by
    obtain ⟨ht, -⟩ := h.toUnready.lines l
    exact lawful_completeTest h x (ht.mp hx)
  streak := fun n e hl h => lawful_judgeStreak h hl n e
  timesOut := fun {s l} hb h => by
    refine h.steady (steady_burstTimesOut l s ?_)
    obtain ⟨-, -, -, hstill, -⟩ := h.toUnready.lines l
    by_contra hl
    obtain ⟨-, -, -, -, -, hnone, -⟩ := hstill hl
    rw [hnone] at hb; cases hb
  fails := fun {s m} r hm h => lawful_failAttempt h ⟨m, hm, rfl⟩ r
  edge := fun n hm h => lawful_measuredEdge h hm n

/-! ### Settings and counts are kept -/

theorem inRangeStill_burstTimesOut (l : LineNo) (s : State) : s.InRangeStill (burstTimesOut l s) := by
  have h : s.InRangeStill (s.modLine l fun u =>
      { u with monitor := { u.monitor with long := u.monitor.fast, state := .quiet, count := 0, burstLeft := none } }) :=
    .setLine ⟨rfl, rfl, fun _ _ ⟨hi, hw, hst, hf, _, _, hrest⟩ => ⟨hi, hw, hst, hf, hf, Nat.zero_le _, hrest⟩,
      fun _ h => h, fun _ h => h⟩
  exact (h.trans (steady_burstEnds l 1 _).inRangeStill).trans (steady_floorQuiet l _).inRangeStill

/-- A line that lost its rate is not LIVE: it waits for the engine or is measured. -/
theorem loseRate_state (l : LineNo) (s : State) : ((loseRate l s).line l).state ≠ .live := by
  unfold loseRate
  generalize exitLive l _ = t
  have hj : ((joinProbe l t).line l).state = .queued := by
    show ((t.setLine l _).line l).state = _
    rw [setLine_line_same]
  generalize joinProbe l t = w at hj
  rcases probeTake_effect w with ⟨e, -⟩ | ⟨k, rest, tx, ms, loss, m, -, -, e, -⟩ <;> rw [e]
  · rw [hj]; decide
  · show ((w.setLine k _).line l).state ≠ _
    rw [setLine_line]
    split
    · simp
    · rw [hj]; decide

theorem judgedStreak_le (u : Line) (n e : Nat) : u.judgedStreak n e ≤ u.streak + 1 := by
  unfold Line.judgedStreak
  split <;> omega

theorem ranged_judgeStreak (hs : s.ranged counts) (hl : (s.line l).state = .live) (n e : Nat) :
    (judgeStreak l n e s).ranged counts := by
  unfold judgeStreak
  simp only
  generalize hk : (s.line l).judgedStreak n e = k
  have hle : k ≤ (s.line l).streak + 1 := hk ▸ judgedStreak_le _ n e
  split
  · generalize ht : (s.modLine l fun u => { u with streak := k }) = t
    have hline : ∀ j, t.line j = if j = l then { s.line l with streak := k } else s.line j := fun j => by
      rw [← ht, modLine_eq, setLine_line]
    have h : t.InRangeStill (loseRate l t) := inRangeStill_loseRate l t
    obtain ⟨hc, hn⟩ := hs
    have htc : t.configLaw := by
      obtain ⟨hlines, hrest⟩ := hc
      subst ht
      refine ⟨fun j => ?_, hrest⟩
      rw [hline]
      split
      · exact hlines l
      · exact hlines j
    refine ⟨h.configLaw htc, fun hh => ?_⟩
    obtain ⟨hcounts, hhits⟩ := hn hh
    have hlists : ∀ j, (t.line j).listsLaw ∧ (j ≠ l → (t.line j).streakLaw) := fun j => by
      obtain ⟨hj, hstreak⟩ := countsLaw_iff.mp (hcounts j)
      rw [hline]
      split
      · next e =>
        subst e
        obtain ⟨hi, hw, -, hm⟩ := hj
        have hlt := hstreak hl
        exact ⟨⟨hi, hw, show k ≤ 15 by omega, hm⟩, fun hne => absurd rfl hne⟩
      · exact ⟨hj, fun _ => hstreak⟩
    have hth : t.hitsLaw := fun j i => by
      have hentry : t.entry i = s.entry i := by rw [← ht]; rfl
      rw [hline, hentry]
      split
      · exact hhits l i
      · exact hhits j i
    refine ⟨fun j => countsLaw_iff.mpr ⟨h.listsLaw htc j (hlists j).1, ?_⟩, h.hitsLaw htc hth⟩
    by_cases hj : j = l
    · rw [hj]; exact fun hlive => absurd hlive (loseRate_state l t)
    · exact h.streakLaw htc j ((hlists j).2 hj)
  · next hno =>
    exact hs.still (State.Steady.setLine (.streaks _ fun _ => by omega)).inRangeStill

theorem ranged_keptByOps (counts : Prop) : KeptByOps (State.ranged counts) where
  steady := fun k h => h.still k.inRangeStill
  powerOn := fun straps s _ =>
    ((ranged_powered straps s).still (steady_raiseUnit _ _).inRangeStill).still (inRangeStill_startLines _)
  reset := fun h => (ranged_resetActivity h).still (inRangeStill_startLines _)
  record := fun l _ _ hc h => ranged_applyRecord h l (readLineRecord_inRange hc)
  rates := fun hg hn h => ranged_rates h hg hn
  params := fun set b h => ranged_params h set (readMonitorParams_inRange b)
  entry := fun i _ _ hc h => ranged_replaceEntry h i (readWatchEntry_inRange hc)
  unit := fun hc h => ranged_applyUnit h (readUnitRecord_inRange hc)
  enable := fun l h => h.still (inRangeStill_enableLine l _)
  disable := fun l h => h.still (inRangeStill_disableLine l _)
  measure := fun {s l} _ h =>
    h.still (((inRangeStill_exitLive l s).trans (inRangeStill_joinProbe l _)).trans (inRangeStill_probeTake _))
  measureIdle := fun {s l} _ h => h.still ((inRangeStill_joinProbe l s).trans (inRangeStill_probeTake _))
  test := fun {s l} x _ h => h.still ((inRangeStill_exitLive l s).trans (inRangeStill_enterLoop l x _))
  testOff := fun {s l} x _ h => h.still (inRangeStill_enterLoop l x s)
  completes := fun {s l} x _ h => h.still (inRangeStill_completeTest l x s)
  streak := fun n e hl h => ranged_judgeStreak h hl n e
  timesOut := fun {s l} _ h => h.still (inRangeStill_burstTimesOut l s)
  fails := fun {s m} r _ h => h.still (inRangeStill_failAttempt m r s)
  edge := fun {s m} n _ h => h.still (inRangeStill_measuredEdge m n s)

/-! ### What the claims ask -/

/-- Settles O7: the law of lines is a property that the operations keep. -/
theorem lineStatesKept : Obligations.LineStatesKept := fun _ _ hs h =>
  ((lawful_keptByOps False).step ⟨hs, False.elim⟩ h).1

/-- Settles O8: lists, counts and hit counts go with the settings, attempt counts with the law of lines. -/
theorem lineCountsKept : Obligations.LineCountsKept := by
  refine ⟨fun _ _ hc hl hh h => ?_, fun _ _ hs ha h => ?_⟩
  · obtain ⟨-, hn⟩ := (ranged_keptByOps True).step ⟨hc, fun _ => ⟨hl, hh⟩⟩ h
    exact hn trivial
  · obtain ⟨-, ht⟩ := (lawful_keptByOps True).step ⟨hs, fun _ => ha⟩ h
    exact ht trivial

/-- Settles O9: what is read from a request is in range before it is written. -/
theorem configurationKept : Obligations.ConfigurationKept := fun _ _ hs h =>
  ((ranged_keptByOps False).step ⟨hs, False.elim⟩ h).1

end Sys2Proof.Machine
end

section
/-! SUPPORT. The transmitter as the claims speak of it: the levels of a character (R7), the head element (R14, R15), and
the ends of bytes, breaks, gaps and holds (R12 to R16). -/

namespace Sys2Proof.Machine

/-! ### Parity -/

theorem odd_succ (n : Nat) : ((n + 1) % 2 == 1) = !(n % 2 == 1) := by
  rcases Nat.mod_two_eq_zero_or_one n with h | h <;> simp [h, Nat.add_mod]

/-- Exclusive or over the bits of a list tells whether their ones are odd in number. -/
theorem foldl_xor_eq (f : Nat → Bool) (is : List Nat) (a : Bool) :
    is.foldl (fun acc i => xor acc (f i)) a = xor a ((is.map f).count true % 2 == 1) := by
  induction is generalizing a with
  | nil => simp
  | cons i is ih =>
    rw [List.foldl_cons, ih, List.map_cons, List.count_cons]
    cases f i <;> cases a <;> simp [odd_succ]

theorem oddOnes_eq (b : Byte) : oddOnes b = (((List.range 8).map b.getLsbD).count true % 2 == 1) := by
  rw [oddOnes, foldl_xor_eq, Bool.false_xor]

/-- The ones that the parity bit counts are those of the data bits sent (R7). -/
theorem oddOnes_captured (f : Framing) (b : Byte) :
    oddOnes (f.capturedByte b) = (((List.range f.dataBits.num).map b.getLsbD).count true % 2 == 1) := by
  rw [oddOnes_eq]
  cases hd : f.dataBits with
  | eight => simp only [Framing.capturedByte, hd, DataBits.num]
  | seven =>
    have hlow : (List.range 7).map (b &&& 0x7F#8).getLsbD = (List.range 7).map b.getLsbD :=
      List.map_congr_left fun i hi => by
        have hi : i < 7 := List.mem_range.mp hi
        rw [BitVec.getLsbD_and]
        interval_cases i <;> simp
    simp [Framing.capturedByte, hd, DataBits.num, List.range_succ (n := 7), hlow]

/-- The levels of one character in order of time (R7). -/
theorem charLevels_eq (f : Framing) (b : Byte) :
    f.charLevels b =
      let bits := (List.range (match f.dataBits with | .seven => 7 | .eight => 8)).map b.getLsbD
      let odd : Bool := bits.count true % 2 == 1
      [false] ++ bits ++ (match f.parity with | .absent => [] | .even => [odd] | .odd => [!odd])
        ++ (match f.stopBits with | .one => [true] | .two => [true, true]) := by
  have hodd := oddOnes_captured f b
  rcases f with ⟨d, p, t⟩
  simp only [Framing.charLevels, Framing.parityBit]
  cases p <;> cases t <;> cases d <;> simp only [hodd] <;> rfl

/-! ### The head element -/

theorem held_eq_false {u : Line} {now : Word32} :
    u.held now = false ↔ ∀ e, u.hold = some e → holdRuns now e = false := by
  unfold Line.held
  cases u.hold <;> simp

theorem gapOut_iff {u : Line} : u.gapOut = true ↔ u.gap = none ∨ u.gap = some 0 := by
  unfold Line.gapOut
  cases u.gap <;> simp

/-- The conditions of R15, as the claims write them. -/
theorem mayStart_iff' {u : Line} {now : Word32} :
    u.mayStart now = true ↔ u.state = .live ∧ u.tx = .idle ∧ (∀ e, u.hold = some e → holdRuns now e = false)
      ∧ (u.gap = none ∨ u.gap = some 0) := by
  rw [mayStart_iff, held_eq_false, gapOut_iff]

variable {s : State} {l : LineNo}

theorem startElement_still (h : (s.line l).mayStart s.unitTime = false) : startElement l s = s := by
  simp [startElement, h]

theorem startElement_empty (h : (s.line l).injection = []) : startElement l s = s := by
  simp [startElement, h]

theorem startElement_byte (hm : (s.line l).mayStart s.unitTime = true) {b : Byte} {rest : List Element}
    (h : (s.line l).injection = .byte b :: rest) :
    startElement l s = s.setLine l
      { s.line l with injection := rest, gap := none, tx := .byte b (s.line l).record.framing } := by
  simp [startElement, hm, h]

theorem startElement_brk (hm : (s.line l).mayStart s.unitTime = true) {ms : Nat} {rest : List Element}
    (h : (s.line l).injection = .brk ms :: rest) :
    startElement l s = appendMark l .breakOut ms (s.setLine l
      { s.line l with
        injection := rest, gap := none, tx := .breakSpace ms
        counters := { (s.line l).counters with breaksOut := (s.line l).counters.breaksOut + 1 } }) := by
  simp [startElement, hm, h]

/-- Settles O50. -/
theorem transmitterTakesHead : Obligations.TransmitterTakesHead := by
  refine ⟨fun v => ?_, fun s l => ⟨fun h => ?_, fun b rest hm hq => ?_, fun ms rest hm hq => ?_⟩⟩
  · unfold Line.txdLevels
    cases v.tx with
    | byte b f => exact charLevels_eq f b
    | probe f r => exact charLevels_eq f _
    | idle | breakSpace | breakMark | pattern => rfl
  · rcases h with h | h
    · exact startElement_still (Bool.eq_false_iff.mpr fun hm => h (mayStart_iff'.mp hm))
    · exact startElement_empty h
  · exact startElement_byte (mayStart_iff'.mpr hm) hq
  · exact startElement_brk (mayStart_iff'.mpr hm) hq

/-! ### Elements that end -/

/-- A gap of some milliseconds begins and nothing starts before it ends (R15). -/
theorem beginGap_running {ms : Nat} (h : ms ≠ 0) :
    beginGap l ms s = s.setLine l { s.line l with tx := .idle, gap := some ms } := by
  rw [beginGap, modLine_eq, if_neg h]
  refine startElement_still (Bool.eq_false_iff.mpr fun hm => ?_)
  rw [setLine_line_same] at hm
  obtain ⟨-, -, -, hg⟩ := mayStart_iff'.mp hm
  simp [h] at hg

/-- A gap of 0 runs out at once (R15). -/
theorem beginGap_zero : beginGap l 0 s = startElement l (s.setLine l { s.line l with tx := .idle, gap := none }) := rfl

theorem byteDone_eq (b : Byte) :
    byteDone l b s = beginGap l ((s.line l).record.charGap + if b = 0x0D#8 then (s.line l).record.lineGap else 0)
      (s.setLine l { s.line l with
        counters := { (s.line l).counters with bytesTransmitted := (s.line l).counters.bytesTransmitted + 1 } }) := by
  have hg : (s.line l).record.gapAfter b
      = (s.line l).record.charGap + if b = 0x0D#8 then (s.line l).record.lineGap else 0 := by
    unfold LineRecord.gapAfter crByte
    split <;> rfl
  rw [byteDone, hg, modLine_eq]

theorem byteTransmitted_byte {b : Byte} {f : Framing} (h : (s.line l).tx = .byte b f) :
    exec (.byteTransmitted l) s = .next (byteDone l b s) := by
  simp only [exec, execByteTransmitted, h]

theorem breakSpaceEnd_space {left : Nat} (h : (s.line l).tx = .breakSpace left) :
    exec (.breakSpaceEnd l) s = .next
      (if left = 0 then s.setLine l { s.line l with tx := .breakMark (s.line l).breakMarkTime } else s) := by
  simp only [exec, execBreakSpaceEnd, h, ranOut_eq_true, Option.some.injEq, modLine_eq]

theorem breakOutEnd_mark {left : Nat} (h : (s.line l).tx = .breakMark left) :
    exec (.breakOutEnd l) s = .next (if left < 4608 then beginGap l (s.line l).record.charGap s else s) := by
  have he : endsThisMs (some left) = true ↔ left < 4608 := by simp [Config.ticksPerMs]
  simp only [exec, execBreakOutEnd, h, he]

theorem pacingGapExpiry_eq : exec (.pacingGapExpiry l) s = .next
    (if (s.line l).state = .live ∧ (s.line l).gap = some 0 then startElement l (s.setLine l { s.line l with gap := none })
      else s) := by
  simp only [exec, execPacingGapExpiry, ranOut_eq_true, modLine_eq]

theorem holdExpiry_eq : exec (.holdExpiry l) s = .next
    (if (s.line l).hold.isSome = true ∧ (s.line l).held s.unitTime = false then
      startElement l (s.setLine l { s.line l with hold := none }) else s) := rfl

/-- Settles O51. -/
theorem transmitterEvents : Obligations.TransmitterEvents := by
  refine ⟨fun f rate => ⟨rfl, rfl⟩, fun d => rfl, fun s l => ⟨fun b f htx => ?_, fun r htx hr => ?_, fun left htx => ?_,
    fun left htx => ?_, fun left htx hlt => ?_, fun hl hg => ?_, fun hg => ?_, fun e he hr => ?_, fun h => ?_⟩⟩
  · rw [byteTransmitted_byte htx, byteDone_eq]
    refine ⟨fun hne => ?_, fun hz => ?_⟩
    · rw [beginGap_running hne, setLine_line_same, setLine_setLine]
    · rw [hz, beginGap_zero, setLine_line_same, setLine_setLine]
  · have hm : (s.line l).breakMarkTime = charTime (s.line l).record.framing r.rate := by
      simp only [Line.breakMarkTime, hr]
    rw [breakSpaceEnd_space htx, if_pos rfl, hm]
  · refine ⟨fun hne => by rw [breakSpaceEnd_space htx, if_neg hne], ?_⟩
    simp only [exec, execBreakOutEnd, htx]
  · refine ⟨by simp only [exec, execBreakSpaceEnd, htx], fun hle => ?_⟩
    rw [breakOutEnd_mark htx, if_neg (by omega)]
  · rw [breakOutEnd_mark htx, if_pos hlt]
    refine ⟨fun hne => by rw [beginGap_running hne], fun hz => by rw [hz, beginGap_zero]⟩
  · rw [pacingGapExpiry_eq, if_pos ⟨hl, hg⟩]
  · rw [pacingGapExpiry_eq, if_neg fun h => hg h.2]
  · rw [holdExpiry_eq, if_pos]
    exact ⟨by rw [he]; rfl, by simp only [Line.held, he, hr]⟩
  · rw [holdExpiry_eq, if_neg]
    rintro ⟨hs, hh⟩
    obtain ⟨e, he⟩ := Option.isSome_iff_exists.mp hs
    exact absurd (h e he) (Bool.eq_false_iff.mp (held_eq_false.mp hh e he))

end Sys2Proof.Machine
end

section
/-! SUPPORT. What a request answers: from its own part to the state its step leaves; the line its body names; and the reads,
the refusals of line numbers and LINE ENABLE. -/

namespace Sys2Proof.Machine

variable {s t : State} {k : RequestKind} {rq : Request} {rest : List Frame} {l : LineNo}

/-! ### From the own part to the step -/

/-- A request taken whose own part gives an answer at once is answered so. -/
theorem serve_answer {own : Request → State → Answer} {st : Status} {body : List Byte} (h : s.admits k rq rest)
    (hk : k ≠ .credit) (e : own rq (s.taken rq rest) = Answer.of st body t) :
    serve k own s = upGrant (t.answered rq st body) := by
  rw [serve_admitted own h hk, e]
  rfl

/-- A request taken whose own part refuses it is answered with the body of a refusal. -/
theorem serve_refuse {own : Request → State → Answer} {st : Status} (h : s.admits k rq rest) (hk : k ≠ .credit)
    (e : own rq (s.taken rq rest) = refuse k rq st (s.taken rq rest)) :
    serve k own s = upGrant ((s.taken rq rest).answered rq st ((s.taken rq rest).refusedBody k rq st)) :=
  serve_answer h hk e

theorem lineOf?_of {n : Nat} (h : n = l.val) : lineOf? n = some l := by
  subst h
  simp [lineOf?]

theorem lineOf?_none {n : Nat} (h : 24 ≤ n) : lineOf? n = none := dif_neg (by omega)

theorem onLine_of {own : LineNo → Answer} (h : numAt rq.body 0 1 = l.val) : onLine k rq s own = own l := by
  simp [onLine, lineOf?_of h]

theorem onLine_refused {own : LineNo → Answer} (h : 24 ≤ numAt rq.body 0 1) :
    onLine k rq s own = refuse k rq .outOfRange s := by
  simp [onLine, lineOf?_none h]

/-- Settles O30: every one of these requests looks for its line first. -/
theorem lineNumberRefused : Obligations.LineNumberRefused := by
  intro s rq rest h
  have refused : ∀ {k : RequestKind} {own : Request → State → Answer} {f : State → LineNo → Answer}, k ≠ .credit →
      s.admits k rq rest → (∀ u, own rq u = onLine k rq u (f u)) →
      serve k own s =
        upGrant ((s.taken rq rest).answered rq .outOfRange ((s.taken rq rest).refusedBody k rq .outOfRange)) :=
    fun hk ha ho => serve_refuse ha hk ((ho _).trans (onLine_refused h))
  refine ⟨?_, ?_, ?_, ?_, ?_, ?_, ?_, ?_, ?_⟩ <;> exact fun ha => congrArg _ (refused (by decide) ha fun _ => rfl)

/-! ### LINE ENABLE -/

/-- An engine that is busy, or for which nobody waits, takes no line (R27). -/
theorem probeTake_ready (h : s.engineReady) : probeTake s = s := by
  unfold probeTake
  split
  · next he hq => rw [h he] at hq; cases hq
  · rfl

theorem receiverAt_eq (x : Level) : receiverAt x = if x = .mark then .waiting else .awaitMark := by cases x <;> rfl

theorem engineReady_taken (h : s.engineReady) : (s.taken rq rest).engineReady := by
  simpa [State.engineReady] using h

/-- Under FIXED a line starts LIVE (R5). -/
theorem startByRecord_fixed (h : (s.line l).record.policy = .fixed) :
    startByRecord l s = enterLive l (s.takeRate (s.line l).record.fixedIndex) s := by
  simp [startByRecord, h]

/-- Under AUTO a line starts at the tail of the probe queue (R5). -/
theorem startByRecord_auto (h : (s.line l).record.policy = .auto) : startByRecord l s = joinProbe l s := by
  simp [startByRecord, h]

theorem enterLive_ready (r : TakenRate) (h : s.engineReady) : (enterLive l r s).engineReady := by
  have ho := State.OnlyLine.enterLive l r s
  unfold State.engineReady
  rw [ho.engine, ho.probeQueue]
  exact h

/-- What an entry into LIVE does, with the record of the line written out (R3). -/
theorem enterLive_eq (l : LineNo) (r : TakenRate) (s : State) :
    enterLive l r s = raisePlain l .rateSet (appendMark l .rateSet r.index.val (s.setLine l
      { s.line l with
        state := .live, current := some r, last := some r, matchWindow := [], streak := 0, gap := none, tx := .idle
        rx := if (s.line l).rxd = .mark then .waiting else .awaitMark, test := none
        monitor := { state := .quiet, fast := 0, long := 0, count := 0, seedPending := true, burstLeft := none,
                     sampleLeft := some 100, chars := 0, errors := 0 } })) := by
  rw [enterLive, modLine_eq, receiverAt_eq]
  rfl

theorem lineEnable_of (h : s.admits .lineEnable rq rest) (hl : numAt rq.body 0 1 = l.val) :
    exec .lineEnable s = .next (upGrant ((enableLine l (s.taken rq rest)).answered rq .ok [])) :=
  congrArg _ (serve_answer h (by decide) (onLine_of hl))

theorem enableLine_down (h : (s.line l).state = .off ∨ (s.line l).state = .dark) :
    enableLine l s = probeTake (startByRecord l s) := by
  rcases h with h | h <;> simp [enableLine, h]

/-- A configuration request from an origin that the supervisor list lacks is DENIED (R163). -/
theorem engineCheck_denied (hk : k.isConfiguration = true) (hs : k.isSession = false) (hb : k.bodyShort rq.body = false)
    (hl : s.unit.supervisors ≠ []) (ho : rq.origin ∉ s.unit.supervisors) : s.engineCheck k rq = some .denied := by
  simp [State.engineCheck, hk, hs, hb, State.supervises, hl, ho]

theorem joinProbe_eq (l : LineNo) (s : State) :
    joinProbe l s =
      { s.setLine l { s.line l with state := .queued, attempts := 0, test := none } with
        probeQueue := s.probeQueue ++ [l] } := rfl

theorem joinProbe_line (l : LineNo) (s : State) :
    (joinProbe l s).line l = { s.line l with state := .queued, attempts := 0, test := none } :=
  setLine_line_same s l _

theorem joinProbe_line_ne {j : LineNo} (hj : j ≠ l) : (joinProbe l s).line j = s.line j := setLine_line_ne s _ hj

/-- An idle engine takes the head of the queue: what the measurement and the line then show (R27, R29). -/
theorem probeTake_head {rest : List LineNo} (he : s.engine = none) (hq : s.probeQueue = l :: rest) :
    ∃ m : Measurement, (probeTake s).probeQueue = rest ∧ (probeTake s).engine = some m ∧ m.line = l ∧ m.edgeCount = 0
      ∧ m.windowLeft = (s.line l).record.window.seconds * 1000
      ∧ ((probeTake s).line l).state = .measuring ∧ ((probeTake s).line l).attempts = (s.line l).attempts
      ∧ ((probeTake s).line l).marks.getLast? =
          some { offset := (s.line l).ring.newest, stamp := s.unitTime, kind := .measureBegin, arg := 0 }
      ∧ ∀ j, j ≠ l → (probeTake s).line j = s.line j := by
  rcases probeTake_effect s with ⟨-, hr⟩ | ⟨l', rest', tx, ms, loss, m, -, hq', e, -, hl, -, hc, -, hw, -⟩
  · rw [hr he] at hq; cases hq
  · rw [hq] at hq'
    obtain ⟨rfl, rfl⟩ := List.cons.inj hq'
    rw [e]
    generalize hv : ({ s.line l with
      state := .measuring, tx := tx
      marks := ms ++ [{ offset := (s.line l).ring.newest, stamp := s.unitTime, kind := .measureBegin, arg := 0 }]
      markLoss := loss } : Line) = v
    have hself : ∀ q n e, State.line { s.setLine l v with probeQueue := q, begun := n, engine := e } l = v :=
      fun _ _ _ => setLine_line_same s l v
    refine ⟨m, rfl, rfl, hl, hc, hw, ?_, ?_, ?_, fun j hj => setLine_line_ne s v hj⟩ <;> rw [hself, ← hv]
    exact List.getLast?_concat

/-- Settles O32. -/
theorem lineEnableStartsLine : Obligations.LineEnableStartsLine := by
  intro s rq rest l
  refine ⟨fun ho hb hl hn => ?_, fun ha hn => ?_, fun ha hl hready => ⟨fun hst hp => ?_, fun hst hp he => ?_,
    fun hst hp he => ?_, fun hst => ?_⟩⟩
  · have hshort : RequestKind.lineEnable.bodyShort rq.body = false := by
      have hn : ¬ rq.body.length < 1 := by omega
      simp [RequestKind.bodyShort, RequestKind.fixedBytes, RequestKind.variableBytes, hn]
    exact congrArg _ (serve_refused lineEnable ho (by decide) (engineCheck_denied rfl rfl hshort hl hn))
  · exact congrArg _ (serve_refuse (own := lineEnable) ha (by decide) (onLine_refused hn))
  · rw [lineEnable_of ha hl, enableLine_down (by simpa using hst), startByRecord_fixed (by simpa using hp),
      probeTake_ready (enterLive_ready _ (engineReady_taken hready)), enterLive_eq]
    simp only [taken_line, State.takeRate, taken_rateAt]
  · have hbusy : (joinProbe l (s.taken rq rest)).engineReady := fun hn => absurd ((taken_engine s rq rest).symm.trans hn) he
    rw [lineEnable_of ha hl, enableLine_down (by simpa using hst), startByRecord_auto (by simpa using hp),
      probeTake_ready hbusy, joinProbe_eq]
    simp only [taken_line, taken_probeQueue]
  · have hq : (joinProbe l (s.taken rq rest)).probeQueue = [l] := by
      simp [joinProbe_eq, hready he]
    have hidle : (joinProbe l (s.taken rq rest)).engine = none := (taken_engine s rq rest).trans he
    obtain ⟨m, h1, h2, h3, h4, h5, h6, h7, h8, h9⟩ := probeTake_head hidle hq
    rw [joinProbe_line, taken_line] at h5 h7 h8
    refine ⟨_, m, ?_, h1, h2, h3, h4, h5, h6, h7, ?_, fun j hj => ?_⟩
    · rw [lineEnable_of ha hl, enableLine_down (by simpa using hst), startByRecord_auto (by simpa using hp)]
    · rw [h8]
      simp [joinProbe_eq]
    · rw [h9 j hj, joinProbe_line_ne hj, taken_line]
  · rw [lineEnable_of ha hl]
    have hstill : enableLine l (s.taken rq rest) = s.taken rq rest := by
      rcases hst with h | h | h | h <;> simp [enableLine, h]
    rw [hstill]

end Sys2Proof.Machine
end

section
/-! SUPPORT. The requests that only read: the layouts of section 11.3, and that such a request answers and changes nothing
(R24, R42, R56, R77, R93, R103, R104, R167). -/

namespace Sys2Proof.Machine

variable {s : State} {rq : Request} {rest : List Frame} {l : LineNo}

/-! ### Layouts -/

theorem lineCounters_bytes (c : LineCounters) : c.bytes =
    [c.bytesCaptured, c.parityErrors, c.framingErrors, c.breaksIn, c.breaksOut, c.bytesTyped, c.bytesTransmitted].flatMap
      fun n => beBytes 4 n.toNat := rfl

theorem patternElement_bytes : PatternElement.bytes = fun
    | .literal b fold => beBytes 1 (if fold then 1 else 0) ++ [b]
    | .any => [2, 0] := by
  funext x
  cases x <;> rfl

theorem priorCode_eq (u : Line) :
    u.priorCode = match u.test with | none => 255 | some x => match x.prior with | .off => 0 | .live => 3 := by
  unfold Line.priorCode
  rcases u.test with - | x
  · rfl
  · dsimp only
    cases x.prior <;> rfl

theorem causeIndex_eq (c : Option Cause) : causeIndex c = match c with | some (.watch i) => i.val | _ => 255 := by
  rcases c with - | (_ | _ | _ | _) <;> rfl

/-! ### What a read answers -/

theorem entryOf?_of {n : Nat} {i : EntryNo} (h : n = i.val) : entryOf? n = some i := by
  subst h
  simp [entryOf?]

theorem slotOf?_of {n : Nat} {k : SlotNo} (h : n = k.val) : slotOf? n = some k := by
  subst h
  simp [slotOf?]

theorem watchRead_of {i : EntryNo} (h : numAt rq.body 0 1 = i.val) :
    watchRead rq s = Answer.of .ok (beBytes 1 i.val ++ (s.entry i).bytes
      ++ (List.finRange 24).flatMap fun l => ((s.line l).pair i).bytes) s := by
  simp only [watchRead, entryOf?_of h]

theorem watchRead_refused (h : 64 ≤ numAt rq.body 0 1) : watchRead rq s = refuse .watchRead rq .outOfRange s := by
  have hn : entryOf? (numAt rq.body 0 1) = none := dif_neg (by omega)
  simp only [watchRead, hn]

theorem snapshotRead_refused (h : 8 ≤ numAt rq.body 0 1) :
    snapshotRead rq s = refuse .snapshotRead rq .outOfRange s := by
  have hn : slotOf? (numAt rq.body 0 1) = none := dif_neg (by omega)
  simp only [snapshotRead, hn]

theorem snapshotRead_of {k : SlotNo} (h : numAt rq.body 0 1 = k.val) :
    snapshotRead rq s =
      let start := numAt rq.body 1 2
      let bytes := ((s.slot k).data.drop start).take (min 1024 (numAt rq.body 3 2))
      Answer.of (if 1024 < numAt rq.body 3 2 then .adjusted else .ok)
        (beBytes 1 (s.slot k).state.code ++ beBytes 1 (s.slot k).line.val ++ beBytes 6 (s.slot k).offset
          ++ beBytes 2 (s.slot k).preHeld ++ beBytes 2 start ++ beBytes 2 bytes.length ++ bytes) s := by
  have hc : clamp 0 Config.payloadBytes (numAt rq.body 3 2)
      = { val := min 1024 (numAt rq.body 3 2), clamped := decide (1024 < numAt rq.body 3 2) } := by
    simp [clamp, Config.payloadBytes]
  simp only [snapshotRead, slotOf?_of h, hc, slice, okOr, decide_eq_true_eq]

/-- Settles O24. -/
theorem readsChangeNothing : Obligations.ReadsChangeNothing := by
  refine ⟨?_, fun s rq rest => ?_⟩
  · intro flag lengths
    have options : ∀ o, snapshotOptionBytes o = beBytes 1 (flag o.isSome) ++ lengths o := fun o => by cases o <;> rfl
    refine ⟨fun s => rfl, fun r => rfl, fun c => rfl, fun r => ?_, fun v now => ?_, fun p => rfl, fun m => rfl,
      fun m => rfl, fun e => ?_, fun p => rfl, fun k => ?_⟩
    · unfold LineRecord.bytes
      rw [options, options, ← List.append_assoc, ← List.append_assoc]
      rfl
    · intro place divisor
      unfold Line.conditionBytes
      rw [lineCounters_bytes, priorCode_eq]
      cases v.test <;> rfl
    · unfold WatchEntry.bytes
      rw [patternElement_bytes]
      rfl
    · unfold Slot.bytes
      rw [causeIndex_eq]
      rfl
  · intro u
    have answered : ∀ {k : RequestKind} {own : Request → State → Answer} {st : Status} {body : List Byte},
        s.admits k rq rest → k ≠ .credit → own rq u = Answer.of st body u →
        Host.Outcome.next (serve k own s) = (.next (upGrant (u.answered rq st body)) : Host.Outcome State Fault Refusal) :=
      fun h hk e => congrArg _ (serve_answer h hk e)
    refine ⟨fun h => answered h (by decide) rfl, fun h => answered h (by decide) ?_, fun l hl => ⟨fun h => ?_, fun h => ?_,
      fun h => ?_⟩, fun i hi h => ?_, fun hi h => ?_, fun hk h => ?_, fun h => ?_, fun k hk h => ?_⟩
    · simp only [rateTableRead, u, taken_rates, taken_unit]
    · refine answered h (by decide) ((onLine_of hl).trans ?_)
      simp only [u, taken_line, taken_unitTime]
    · refine answered h (by decide) ((onLine_of hl).trans ?_)
      simp only [u, taken_line]
    · refine answered h (by decide) ((onLine_of hl).trans ?_)
      simp only [u, taken_line, Line.marksFrom, List.length_take]
    · refine answered h (by decide) ((watchRead_of hi).trans ?_)
      simp only [u, taken_entry, taken_line]
    · exact answered h (by decide) (watchRead_refused hi)
    · exact answered h (by decide) (snapshotRead_refused hk)
    · refine answered (own := snapshotList) h (by decide) ?_
      simp only [snapshotList, u, taken_slots, taken_unit]
      rfl
    · refine answered h (by decide) ((snapshotRead_of hk).trans ?_)
      simp only [u, taken_slot]
      rfl

end Sys2Proof.Machine
end

section
/-! SUPPORT. The Snapshot Store as the claims speak of it: which slot a search finds (R98), what taking and completing one
leaves (R99, R100), and how a trigger is settled. -/

namespace Sys2Proof.Machine

variable {s : State} {l : LineNo} {k : SlotNo}

/-! ### Searches -/

/-- A search in ascending order finds the first. -/
theorem finRange_find?_some {n : Nat} {p : Fin n → Bool} {i : Fin n} :
    (List.finRange n).find? p = some i ↔ p i = true ∧ ∀ j, j < i → p j = false := by
  rw [← Fin.find?_eq_find?_finRange, Fin.find?_eq_some_iff]

theorem finRange_find?_none {n : Nat} {p : Fin n → Bool} :
    (List.finRange n).find? p = none ↔ ∀ i, p i = false := by
  rw [← Fin.find?_eq_find?_finRange, Fin.find?_eq_none_iff]

theorem fillsFor_iff {r : Slot} : r.fillsFor l = true ↔ r.state = .filling ∧ r.line = l := by
  simp [Slot.fillsFor]

theorem fillsFor_eq_false {r : Slot} : r.fillsFor l = false ↔ ¬ (r.state = .filling ∧ r.line = l) := by
  rw [← fillsFor_iff, Bool.not_eq_true]

theorem fillingSlot?_first :
    s.fillingSlot? l = some k ↔ ((s.slot k).state = .filling ∧ (s.slot k).line = l)
      ∧ ∀ j, j < k → ¬ ((s.slot j).state = .filling ∧ (s.slot j).line = l) := by
  simp only [State.fillingSlot?, finRange_find?_some, fillsFor_iff, fillsFor_eq_false]

theorem fillingSlot?_none :
    s.fillingSlot? l = none ↔ ∀ k, ¬ ((s.slot k).state = .filling ∧ (s.slot k).line = l) := by
  simp only [State.fillingSlot?, finRange_find?_none, fillsFor_eq_false]

theorem freeSlot?_first :
    s.freeSlot? = some k ↔ (s.slot k).state = .free ∧ ∀ j, j < k → (s.slot j).state ≠ .free := by
  simp only [State.freeSlot?, finRange_find?_some, decide_eq_true_eq, decide_eq_false_iff_not, ne_eq]

theorem freeSlot?_none : s.freeSlot? = none ↔ ∀ k, (s.slot k).state ≠ .free := by
  simp only [State.freeSlot?, finRange_find?_none, decide_eq_false_iff_not, ne_eq]

/-! ### The oldest COMPLETE slot -/

/-- What a search for the COMPLETE slot with the smallest stamp has found among the slots `seen`. -/
def State.oldestAmong (s : State) (seen : List SlotNo) : Option SlotNo → Prop
  | none => ∀ j ∈ seen, (s.slot j).state ≠ .complete
  | some b => b ∈ seen ∧ (s.slot b).state = .complete ∧ ∀ j ∈ seen, (s.slot j).state = .complete →
      (s.slot b).stamp.toNat < (s.slot j).stamp.toNat ∨ (s.slot b).stamp.toNat = (s.slot j).stamp.toNat ∧ b ≤ j

/-- One more slot looked at. -/
def State.olderOf (s : State) (best : Option SlotNo) (k : SlotNo) : Option SlotNo :=
  if (s.slot k).state = .complete then
    match best with
    | none => some k
    | some b => if (s.slot k).stamp.toNat < (s.slot b).stamp.toNat then some k else some b
  else best

theorem oldestAmong_step {seen : List SlotNo} {best : Option SlotNo} (h : s.oldestAmong seen best)
    (hk : ∀ j ∈ seen, j < k) : s.oldestAmong (seen ++ [k]) (s.olderOf best k) := by
  unfold State.olderOf
  by_cases hc : (s.slot k).state = .complete
  · rw [if_pos hc]
    cases best with
    | none =>
      refine ⟨by simp, hc, fun j hj hjc => ?_⟩
      rcases List.mem_append.mp hj with hj | hj
      · exact absurd hjc (h j hj)
      · rw [List.mem_singleton.mp hj]; exact .inr ⟨rfl, le_rfl⟩
    | some b =>
      obtain ⟨hb, hbc, hmin⟩ := h
      dsimp only
      split
      · next hlt =>
        refine ⟨by simp, hc, fun j hj hjc => ?_⟩
        rcases List.mem_append.mp hj with hj | hj
        · refine .inl ?_
          rcases hmin j hj hjc with h | ⟨h, -⟩ <;> omega
        · rw [List.mem_singleton.mp hj]; exact .inr ⟨rfl, le_rfl⟩
      · next hge =>
        refine ⟨List.mem_append_left _ hb, hbc, fun j hj hjc => ?_⟩
        rcases List.mem_append.mp hj with hj | hj
        · exact hmin j hj hjc
        · rw [List.mem_singleton.mp hj]
          have hle := (hk b hb).le
          rcases Nat.lt_or_ge (s.slot b).stamp.toNat (s.slot k).stamp.toNat with h | h
          · exact .inl h
          · exact .inr ⟨by omega, hle⟩
  · rw [if_neg hc]
    have hnew : ∀ j ∈ seen ++ [k], (s.slot j).state = .complete → j ∈ seen := fun j hj hjc => by
      rcases List.mem_append.mp hj with hj | hj
      · exact hj
      · rw [List.mem_singleton.mp hj] at hjc; exact absurd hjc hc
    cases best with
    | none => exact fun j hj hjc => h j (hnew j hj hjc) hjc
    | some b =>
      obtain ⟨hb, hbc, hmin⟩ := h
      exact ⟨List.mem_append_left _ hb, hbc, fun j hj hjc => hmin j (hnew j hj hjc) hjc⟩

theorem oldestAmong_foldl (ls seen : List SlotNo) (best : Option SlotNo) (h : s.oldestAmong seen best)
    (hs : (seen ++ ls).Pairwise (· < ·)) : s.oldestAmong (seen ++ ls) (ls.foldl s.olderOf best) := by
  induction ls generalizing seen best with
  | nil => simpa using h
  | cons k ls ih =>
    have hk : ∀ j ∈ seen, j < k := fun j hj =>
      (List.pairwise_append.mp hs).2.2 j hj k List.mem_cons_self
    rw [List.append_cons] at hs ⊢
    exact ih _ _ (oldestAmong_step h hk) hs

theorem oldestComplete?_among : s.oldestAmong (List.finRange 8) s.oldestComplete? :=
  oldestAmong_foldl (List.finRange 8) [] none nofun (List.pairwise_lt_finRange 8)

/-- The search finds the COMPLETE slot with the smallest stamp, the lowest number among equals (R98). -/
theorem oldestComplete?_eq (hc : (s.slot k).state = .complete)
    (hmin : ∀ j, (s.slot j).state = .complete →
      (s.slot k).stamp.toNat < (s.slot j).stamp.toNat ∨ (s.slot k).stamp = (s.slot j).stamp ∧ k ≤ j) :
    s.oldestComplete? = some k := by
  have h := oldestComplete?_among (s := s)
  cases hb : s.oldestComplete? with
  | none => rw [hb] at h; exact absurd hc (h k (List.mem_finRange k))
  | some b =>
    rw [hb] at h
    obtain ⟨-, hbc, hb⟩ := h
    have h1 := hb k (List.mem_finRange k) hc
    have h2 := hmin b hbc
    have : b = k := by
      rcases h2 with h2 | ⟨e, h2⟩
      · rcases h1 with h1 | ⟨h1, -⟩ <;> omega
      · rcases h1 with h1 | ⟨-, h1⟩
        · rw [e] at h1; exact absurd h1 (lt_irrefl _)
        · exact le_antisymm h1 h2
    rw [this]

theorem oldestComplete?_none (h : ∀ k, (s.slot k).state ≠ .complete) : s.oldestComplete? = none := by
  have ho := oldestComplete?_among (s := s)
  cases hb : s.oldestComplete? with
  | none => rfl
  | some b =>
    rw [hb] at ho
    exact absurd ho.2.1 (h b)

/-! ### How a trigger is settled -/

theorem reducedPost_eq (g : Trigger) : g.reducedPost = min g.post (8192 - g.pre) := by
  unfold Trigger.reducedPost Config.slotBytes
  split <;> omega

variable {g : Trigger}

theorem settleTrigger_filling (h : s.fillingSlot? g.line = some k) : s.settleTrigger g = .filling k := by
  simp only [State.settleTrigger, h]

theorem settleTrigger_free (hn : s.fillingSlot? g.line = none) (h : s.freeSlot? = some k) :
    s.settleTrigger g = .taken k := by
  simp only [State.settleTrigger, hn, h]

theorem settleTrigger_recycled (hn : s.fillingSlot? g.line = none) (hf : s.freeSlot? = none)
    (hp : s.unit.policy = .recycle) (h : s.oldestComplete? = some k) : s.settleTrigger g = .taken k := by
  simp only [State.settleTrigger, hn, hf, hp, h]

theorem settleTrigger_missed (hn : s.fillingSlot? g.line = none) (hf : s.freeSlot? = none)
    (h : s.unit.policy = .keep ∨ s.oldestComplete? = none) : s.settleTrigger g = .missed := by
  simp only [State.settleTrigger, hn, hf]
  cases hp : s.unit.policy with
  | keep => rfl
  | recycle => rw [hp] at h; simp [h.resolve_left nofun]

/-! ### Slots taken and completed -/

/-- A slot completed: that slot, SNAPSHOT_DONE on its line, and nothing else. -/
theorem completeSlot_done (k : SlotNo) (truncated : Bool) (s : State) :
    ∃ (m : LineSummary) (d : Told),
      completeSlot k truncated s =
        ((s.setSlot k { s.slot k with state := .complete, truncated := truncated, fillLeft := none }).setLine
          (s.slot k).line { s.line (s.slot k).line with summary := m }).told d
      ∧ m.has .snapshotDone = true := by
  obtain ⟨m, d, h, hm, -⟩ := raiseLine_summary (s.slot k).line .snapshotDone 0 0 0
    (s.setSlot k { s.slot k with state := .complete, truncated := truncated, fillLeft := none })
  exact ⟨m, d, h, hm⟩

/-- A mark joins its line's list as claims write it. -/
theorem appendMark_marks (l : LineNo) (kind : MarkKind) (arg : Nat) (s : State) (h : (s.line l).marks.length ≤ 32) :
    ∃ loss, appendMark l kind arg s = s.setLine l
      { s.line l with
        marks := marksAfter (s.line l).marks
          [{ offset := (s.line l).ring.newest, stamp := s.unitTime, kind := kind, arg := arg }]
        markLoss := loss } := by
  obtain ⟨before, loss, e, hb⟩ := appendMark_effect l kind arg s
  refine ⟨loss, ?_⟩
  rw [e]
  congr 2
  rcases hb with ⟨rfl, -, hlt⟩ | ⟨rfl, -, hge⟩
  · have hz : (s.line l).marks.length + 1 - 32 = 0 := by omega
    simp [marksAfter, hz]
  · have hone : (s.line l).marks.length + 1 - 32 = 1 := by omega
    rw [marksAfter, List.length_singleton, hone, List.drop_append_of_le_length (by omega), List.drop_one]

/-- A slot taken: its record, complete at once where no post byte is wanted, and the SNAPSHOT mark (R99). -/
theorem takeSlot_done (k : SlotNo) (g : Trigger) (s : State) :
    ∃ (ms : List Mark) (loss : Word32) (m : LineSummary) (d : Told),
      takeSlot k g s =
        ((s.setSlot k
            (if g.reducedPost = 0 then { s.triggeredSlot g with state := .complete, fillLeft := none }
              else s.triggeredSlot g)).setLine g.line
          { s.line g.line with marks := ms, markLoss := loss, summary := m }).told d
      ∧ ((s.line g.line).marks.length ≤ 32 → ms = marksAfter (s.line g.line).marks
          [{ offset := (s.line g.line).ring.newest, stamp := s.unitTime, kind := .snapshot, arg := k.val }])
      ∧ (g.reducedPost = 0 → m.has .snapshotDone = true) := by
  unfold takeSlot
  simp only
  generalize hr : s.triggeredSlot g = r
  have hl : r.line = g.line := by rw [← hr, State.triggeredSlot]
  have hx : r.truncated = false := by rw [← hr, State.triggeredSlot]
  have hrec : ({ r with state := .complete, line := g.line, truncated := false, fillLeft := none } : Slot)
      = { r with state := .complete, fillLeft := none } := by rw [← hl, ← hx]
  obtain ⟨before, loss, e, -⟩ := appendMark_effect g.line .snapshot k.val (s.setSlot k r)
  simp only [setSlot_line, setSlot_unitTime] at e
  have hms : (s.line g.line).marks.length ≤ 32 →
      before ++ [{ offset := (s.line g.line).ring.newest, stamp := s.unitTime, kind := .snapshot, arg := k.val }]
        = marksAfter (s.line g.line).marks
          [{ offset := (s.line g.line).ring.newest, stamp := s.unitTime, kind := .snapshot, arg := k.val }] := fun h => by
    obtain ⟨loss', e'⟩ := appendMark_marks g.line .snapshot k.val (s.setSlot k r) h
    have hmarks := congrArg (fun t => (State.line t g.line).marks) (e.symm.trans e')
    simpa only [setLine_line_same, setSlot_line, setSlot_unitTime] using hmarks
  generalize before ++ [_] = ms at e hms
  rw [e]
  split
  · obtain ⟨m, d, e', hm⟩ := completeSlot_done k false
      ((s.setSlot k r).setLine g.line { s.line g.line with marks := ms, markLoss := loss })
    simp only [setLine_slot, setSlot_slot_same, hl, setLine_line_same, setLine_setSlot, setSlot_setSlot,
      setLine_setLine] at e'
    rw [hrec] at e'
    exact ⟨ms, loss, m, d, e', hms, fun _ => hm⟩
  · next hne =>
    exact ⟨ms, loss, (s.line g.line).summary, s.untold, (told_same rfl).symm, hms, fun h => absurd h hne⟩

end Sys2Proof.Machine
end

section
/-! SUPPORT. What a trigger does (R97 to R99) and the other events of a receiver (R9 to R11). -/

namespace Sys2Proof.Machine

variable {s : State} {l : LineNo} {k : SlotNo} {g : Trigger}

/-! ### A trigger -/

theorem fireTrigger_filling (h : s.settleTrigger g = .filling k) :
    fireTrigger g s =
      s.setSlot k { s.slot k with retriggers := min ((s.slot k).retriggers + 1 + g.others) 65535 } := by
  simp only [fireTrigger, h, saturate16]

theorem fireTrigger_taken (h : s.settleTrigger g = .taken k) : fireTrigger g s = takeSlot k g s := by
  simp only [fireTrigger, h]

theorem fireTrigger_missed (h : s.settleTrigger g = .missed) : fireTrigger g s = raiseUnit .snapshotMissed s := by
  simp only [fireTrigger, h]

theorem takeSlot_slot (k j : SlotNo) (g : Trigger) (s : State) :
    (takeSlot k g s).slot j =
      if j = k then
        if g.reducedPost = 0 then { s.triggeredSlot g with state := .complete, fillLeft := none } else s.triggeredSlot g
      else s.slot j := by
  obtain ⟨ms, loss, m, d, e, -⟩ := takeSlot_done k g s
  rw [e, told_slot, setLine_slot, setSlot_slot]

/-- The slots after a trigger are those that R98 and R99 name. -/
theorem fireTrigger_settles (g : Trigger) (s : State) :
    g.settles s (s.line g.line) s.slot (fireTrigger g s).slot (s.settleTrigger g) := by
  unfold Trigger.settles
  refine ⟨fun k hk hfirst => ?_, fun hno hfree hp => ?_, fun k hno hk => ?_⟩
  · have h := settleTrigger_filling (fillingSlot?_first.mpr ⟨hk, hfirst⟩)
    rw [fireTrigger_filling h]
    exact ⟨h, setSlot_slot_same _ _ _, fun j hj => setSlot_slot_ne _ _ hj⟩
  · have h := settleTrigger_missed (g := g) (fillingSlot?_none.mpr hno) (freeSlot?_none.mpr hfree)
      (hp.imp_right oldestComplete?_none)
    obtain ⟨d, e, -⟩ := raiseUnit_effect .snapshotMissed s
    rw [fireTrigger_missed h, e]
    exact ⟨h, fun k => told_slot s d k⟩
  · have h : s.settleTrigger g = .taken k := by
      have hn := fillingSlot?_none.mpr hno
      rcases hk with hk | ⟨hp, hfree, hc, hmin⟩
      · exact settleTrigger_free hn (freeSlot?_first.mpr hk)
      · exact settleTrigger_recycled hn (freeSlot?_none.mpr hfree) hp (oldestComplete?_eq hc hmin)
    rw [fireTrigger_taken h]
    refine ⟨h, ?_, fun j hj => ?_⟩
    · rw [takeSlot_slot, if_pos rfl, reducedPost_eq]
      simp only [State.triggeredSlot, reducedPost_eq]
      rfl
    · rw [takeSlot_slot, if_neg hj]

theorem fireTrigger_marks (g : Trigger) (s : State) (h : (s.line g.line).marks.length ≤ 32) :
    ((fireTrigger g s).line g.line).marks = marksAfter (s.line g.line).marks
      ((s.settleTrigger g).marks (s.line g.line).ring.newest s.unitTime) := by
  cases hs : s.settleTrigger g with
  | filling k => rw [fireTrigger_filling hs, Settled.marks, marksAfter_nil h, setSlot_line]
  | missed =>
    obtain ⟨d, e, -⟩ := raiseUnit_effect .snapshotMissed s
    rw [fireTrigger_missed hs, e, Settled.marks, marksAfter_nil h, told_line]
  | taken k =>
    obtain ⟨ms, loss, m, d, e, hms, -⟩ := takeSlot_done k g s
    rw [fireTrigger_taken hs, e, told_line, setLine_line_same]
    exact hms h

theorem fireTrigger_done (h : s.settleTrigger g = .taken k) (hz : g.reducedPost = 0) :
    ((fireTrigger g s).line g.line).summary.has .snapshotDone = true := by
  obtain ⟨ms, loss, m, d, e, -, hm⟩ := takeSlot_done k g s
  rw [fireTrigger_taken h, e, told_line, setLine_line_same]
  exact hm hz

theorem fireTrigger_line_ne {j : LineNo} (hj : j ≠ g.line) : (fireTrigger g s).line j = s.line j := by
  obtain ⟨t, ms, loss, m, d, e, ht⟩ := fireTrigger_effect g s
  rw [e, told_line, setLine_line_ne _ _ hj]
  rcases ht with rfl | ⟨k, r, rfl⟩
  · rfl
  · exact setSlot_line s k r j

theorem fireTrigger_sessions (g : Trigger) (s : State) : (fireTrigger g s).sessions = s.sessions := by
  obtain ⟨t, ms, loss, m, d, e, ht⟩ := fireTrigger_effect g s
  rw [e, told_sessions, setLine_sessions]
  rcases ht with rfl | ⟨k, r, rfl⟩
  · rfl
  · exact setSlot_sessions s k r

/-! ### Edges, breaks and captures -/

theorem startEdge_eq (l : LineNo) (b : Bool) (s : State) :
    exec (.startEdge l b) s = .next (s.setLine l ((s.line l).atStartEdge b)) := rfl

theorem rxdReturnToMark_eq (l : LineNo) (s : State) :
    exec (.rxdReturnToMark l) s = .next (s.setLine l (s.line l).atReturnToMark) := rfl

theorem captureCharacter_still (h : (s.line l).state ≠ .live) (data : Byte) (p f : Bool) :
    captureCharacter l data p f s = s := if_neg h

theorem breakIn_still (h : ¬ ((s.line l).state = .live ∧ (s.line l).rx ≠ .awaitMark)) :
    exec (.breakIn l) s = .next s := by
  simp only [exec, execBreakIn, if_neg h]

theorem breakIn_detected (h : (s.line l).state = .live ∧ (s.line l).rx ≠ .awaitMark) :
    exec (.breakIn l) s = .next (upGrant (detectBreak l s)) := by
  simp only [exec, execBreakIn, if_pos h]

/-- Settles O48. -/
theorem receiverEvents : Obligations.ReceiverEvents := by
  refine ⟨fun g s => ⟨s.settleTrigger g, fireTrigger_settles g s, fireTrigger_marks g s, fun h => ?_, fun k h hz => ?_,
    fun j hj => fireTrigger_line_ne hj, fireTrigger_sessions g s⟩, fun s l => ⟨fun hl hr => ⟨?_, ?_⟩,
    fun g hl hr b => ⟨?_, ?_⟩, fun hl b => ⟨?_, ?_⟩, fun hl b => ⟨?_, ?_⟩, fun hl hr => ⟨?_, ?_⟩, fun hl hr => ?_,
    fun hl data p => ⟨?_, ?_, ?_⟩⟩⟩
  · obtain ⟨d, e, hd, -⟩ := raiseUnit_effect .snapshotMissed s
    rw [fireTrigger_missed h, e]
    exact hd
  · exact fireTrigger_done h (by rw [reducedPost_eq]; exact hz)
  · simp only [startEdge_eq, Line.atStartEdge, hl, hr]
    rfl
  · simp only [startEdge_eq, Line.atStartEdge, hl, hr]
    rfl
  · simp only [startEdge_eq, Line.atStartEdge, hl, hr]
    rfl
  · simp only [rxdReturnToMark_eq, Line.atReturnToMark, hl, hr]
    rfl
  · rw [startEdge_eq, Line.atStartEdge]
    rcases hl with hl | hl | hl | hl <;> simp only [hl] <;> rfl
  · rw [rxdReturnToMark_eq, Line.atReturnToMark]
    rcases hl with hl | hl | hl | hl <;> simp only [hl]
  · simp only [startEdge_eq, Line.atStartEdge, hl, setLine_self]
  · simp only [rxdReturnToMark_eq, Line.atReturnToMark, hl, setLine_self]
  · simp only [rxdReturnToMark_eq, Line.atReturnToMark, hl, hr]
    rfl
  · exact breakIn_still fun h => h.2 hr
  · refine ⟨fun ho => ?_, fun o ho => ?_⟩ <;> rw [breakIn_detected ⟨hl, hr⟩] <;> simp only [detectBreak, ho] <;> rfl
  · exact breakIn_still fun h => hl h.1
  · simp only [exec, execCharacterCapture, captureCharacter_still hl]
  · simp only [exec, execFramingErrorCapture, captureCharacter_still hl]

end Sys2Proof.Machine
end

section
/-! SUPPORT. The part right after power-on obeys every law: one lemma for each law of Safety.lean. -/

namespace Sys2Proof.Machine

/-! ### The records of the reset state -/

theorem reset_line (l : LineNo) : State.reset.line l = .reset := Vector.getElem_replicate _

theorem reset_session (i : SessionNo) : State.reset.session i = .reset := Vector.getElem_replicate _

theorem reset_slot (k : SlotNo) : State.reset.slot k = .reset := Vector.getElem_replicate _

theorem reset_entry (i : EntryNo) : State.reset.entry i = .reset := Vector.getElem_replicate _

theorem reset_pair (i : EntryNo) : Line.reset.pair i = .reset := Vector.getElem_replicate _

/-! ### The laws -/

theorem ringLaw_reset : Line.reset.ringLaw := ⟨le_rfl, rfl, Nat.zero_le _⟩

theorem markLaw_reset : Line.reset.markLaw := by
  refine ⟨by decide, fun m hm => ?_, List.pairwise_singleton _ _⟩
  rw [List.mem_singleton.mp hm]
  exact ⟨le_rfl, le_rfl⟩

theorem storeLaw_reset : State.reset.storeLaw := by
  refine ⟨fun l => ?_, ?_⟩
  · rw [reset_line]
    exact ⟨ringLaw_reset, markLaw_reset, by decide, by decide⟩
  · simp only [reset_line]
    decide

theorem stateLaw_reset : Line.reset.stateLaw := by
  refine ⟨by decide, by decide, fun _ => rfl, fun hn => absurd rfl hn, txLaw_of_idle rfl, rfl⟩

theorem linesLaw_reset : State.reset.linesLaw := by
  refine ⟨fun l => reset_line l ▸ stateLaw_reset, List.nodup_nil, fun l => ?_, fun l => ?_, nofun, fun _ => rfl⟩
  · rw [reset_line]
    exact iff_of_false List.not_mem_nil (by decide)
  · rw [reset_line]
    exact iff_of_false (by decide) nofun

theorem countsLaw_reset : Line.reset.countsLaw := by
  refine ⟨Nat.zero_le _, Nat.zero_le _, Nat.zero_le _, fun _ => Nat.zero_le _, ?_⟩
  exact ⟨Nat.zero_le _, Nat.zero_le _, Nat.zero_le _, Nat.zero_le _, Nat.zero_le _⟩

theorem configLaw_reset : State.reset.configLaw := by
  refine ⟨fun l => ?_, fun i => ?_, fun i => ?_, ?_, by decide⟩
  · rw [reset_line]
    exact ⟨strappedRecord_inRange { unit := 0, autosel := false, ratesel := false, attsel := false }, reset_params_inRange⟩
  · rw [reset_entry]; exact reset_entry_inRange
  · exact List.all_eq_true.mp ratesReset_good _ (Vector.mem_toList_iff.mpr (Vector.getElem_mem i.isLt))
  · exact strappedUnit_inRange { unit := 0, autosel := false, ratesel := false, attsel := false }

/-- Settles O3. -/
theorem resetStateWellKept : Obligations.ResetStateWellKept where
  store := storeLaw_reset
  cursors := fun i h => by rw [reset_session] at h; cases h
  sessions := fun i => by
    rw [reset_session]
    exact ⟨Nat.zero_le _, .inl rfl, by decide, by decide, fun _ => rfl⟩
  lines := linesLaw_reset
  counts := fun l => reset_line l ▸ countsLaw_reset
  attempts := fun l => by
    rw [reset_line]
    exact ⟨Nat.zero_le _, fun _ => by decide⟩
  hits := fun l i => by
    rw [reset_line, reset_pair, reset_entry]
    decide
  config := configLaw_reset
  slots := by
    refine ⟨fun k => ?_, fun k h => ?_, fun j k h _ _ => ?_⟩
    · rw [reset_slot]
      exact ⟨rfl, Nat.zero_le _, Nat.zero_le _, Nat.zero_le _, rfl⟩
    · rw [reset_slot] at h; cases h
    · rw [reset_slot] at h; cases h
  floors := fun l => by
    unfold State.floorLaw
    rw [reset_line]
    exact ⟨⟨List.nodup_nil, nofun, rfl⟩, rfl, fun _ => rfl, rfl⟩
  attendance := ⟨by decide, by decide, nofun⟩
  summaries := ⟨fun l => by
    rw [reset_line]
    exact ⟨by decide, by decide, by decide⟩, by decide⟩
  queues := ⟨Nat.zero_le _, Nat.zero_le _, Nat.zero_le _, Nat.zero_le _, rfl, fun _ => ⟨rfl, rfl⟩, fun _ => ⟨rfl, rfl⟩,
    fun h => absurd rfl h⟩
  transmit := ⟨nofun, nofun⟩

end Sys2Proof.Machine
end

section
/-! SUPPORT. Frames, summaries and sessions do not look at what lines, slots and the Rate Probe hold, but for a few fields:
two states that agree in the rest make, place, send and lose the same frames. -/

namespace Sys2Proof.Machine

variable {s t w : State} {l : LineNo} {v : Line}

/-- Two states agree in all but their lines, their slots and the Rate Probe: in sessions, settings, queues, ports, counters,
the unit summary and time. -/
def State.SameDesk (s t : State) : Prop :=
  t = { s with lines := t.lines, slots := t.slots, probeQueue := t.probeQueue, engine := t.engine, begun := t.begun }

namespace State.SameDesk

theorem of_eq {ls : Vector Line 24} {ks : Vector Slot 8} {q : List LineNo} {e : Option Measurement} {n : Nat}
    (h : t = { s with lines := ls, slots := ks, probeQueue := q, engine := e, begun := n }) : s.SameDesk t := by
  subst h
  rfl

theorem iff_eq : s.SameDesk t ↔ ∃ ls ks q e n,
    t = { s with lines := ls, slots := ks, probeQueue := q, engine := e, begun := n } :=
  ⟨fun h => ⟨_, _, _, _, _, h⟩, fun ⟨_, _, _, _, _, h⟩ => of_eq h⟩

theorem refl (s : State) : s.SameDesk s := rfl

theorem trans (h : s.SameDesk t) (k : t.SameDesk w) : s.SameDesk w := by
  obtain ⟨ls, ks, q, e, n, rfl⟩ := iff_eq.mp h
  obtain ⟨ls', ks', q', e', n', rfl⟩ := iff_eq.mp k
  rfl

theorem symm (h : s.SameDesk t) : t.SameDesk s := by
  obtain ⟨ls, ks, q, e, n, rfl⟩ := iff_eq.mp h
  rfl

theorem setLine (s : State) (l : LineNo) (v : Line) : s.SameDesk (s.setLine l v) := rfl

theorem setSlot (s : State) (k : SlotNo) (r : Slot) : s.SameDesk (s.setSlot k r) := rfl

theorem told (h : s.SameDesk t) (d : Told) : (s.told d).SameDesk (t.told d) := by
  obtain ⟨ls, ks, q, e, n, rfl⟩ := iff_eq.mp h
  rfl

theorem sessions (h : s.SameDesk t) : t.sessions = s.sessions := by
  obtain ⟨ls, ks, q, e, n, rfl⟩ := iff_eq.mp h
  rfl

theorem unit (h : s.SameDesk t) : t.unit = s.unit ∧ t.unitNumber = s.unitNumber := by
  obtain ⟨ls, ks, q, e, n, rfl⟩ := iff_eq.mp h
  exact ⟨rfl, rfl⟩

theorem queues (h : s.SameDesk t) : t.waitingTests = s.waitingTests ∧ t.lastSession = s.lastSession
    ∧ t.upFree = s.upFree ∧ t.alertFrame = s.alertFrame := by
  obtain ⟨ls, ks, q, e, n, rfl⟩ := iff_eq.mp h
  exact ⟨rfl, rfl, rfl, rfl⟩

theorem framesAs (h : s.SameDesk t) : t.framesAs s := by
  obtain ⟨ls, ks, q, e, n, rfl⟩ := iff_eq.mp h
  exact ⟨rfl, rfl, rfl, rfl, rfl, rfl⟩

/-! ### What is placed, raised or granted -/

theorem pushResponse (h : s.SameDesk t) (f : OutFrame) : (s.pushResponse f).SameDesk (t.pushResponse f) := by
  obtain ⟨ls, ks, q, e, n, rfl⟩ := iff_eq.mp h
  have hu : State.upFree { s with lines := ls, slots := ks, probeQueue := q, engine := e, begun := n } = s.upFree := rfl
  unfold State.pushResponse
  rw [hu]
  split <;> rfl

theorem raiseUnit (h : s.SameDesk t) (e : UnitEvent) : (raiseUnit e s).SameDesk (raiseUnit e t) := by
  obtain ⟨ls, ks, q, en, n, rfl⟩ := iff_eq.mp h
  have hr : State.responseRoom { s with lines := ls, slots := ks, probeQueue := q, engine := en, begun := n }
      = s.responseRoom := rfl
  have hf : State.alertFrame { s with lines := ls, slots := ks, probeQueue := q, engine := en, begun := n }
      = s.alertFrame := rfl
  unfold Machine.raiseUnit
  simp only [hr, hf]
  split
  · rfl
  · split
    · rfl
    · split
      · exact (of_eq rfl).pushResponse _
      · rfl

theorem dropResponse (h : s.SameDesk t) : s.dropResponse.SameDesk t.dropResponse := by
  obtain ⟨ls, ks, q, e, n, rfl⟩ := iff_eq.mp h
  rfl

theorem responseRoom (h : s.SameDesk t) : t.responseRoom = s.responseRoom := by
  obtain ⟨ls, ks, q, e, n, rfl⟩ := iff_eq.mp h
  rfl

theorem placeNotice (h : s.SameDesk t) (f : OutFrame) : (placeNotice f s).SameDesk (placeNotice f t) := by
  unfold Machine.placeNotice
  rw [h.responseRoom]
  split
  · exact h.pushResponse f
  · exact h.dropResponse.raiseUnit _

theorem placeTest (h : s.SameDesk t) (f : OutFrame) : (placeTest f s).SameDesk (placeTest f t) := by
  obtain ⟨hw, -, -, -⟩ := h.queues
  unfold Machine.placeTest
  rw [h.responseRoom, hw]
  split
  · exact h.pushResponse f
  · obtain ⟨ls, ks, q, e, n, rfl⟩ := iff_eq.mp h
    rfl

/-- An ALERT of a line looks at the line's summary and at its alerts option. -/
theorem raiseLine (h : s.SameDesk t) (hm : (t.line l).summary = (s.line l).summary)
    (ha : (t.line l).record.alerts = (s.line l).record.alerts) (e : LineEvent) (ws : BitVec 64) (rs : BitVec 3) (a : Nat) :
    (raiseLine l e ws rs a s).SameDesk (raiseLine l e ws rs a t) := by
  obtain ⟨-, -, -, hf⟩ := h.queues
  obtain ⟨hu, -⟩ := h.unit
  have put : ∀ u v : Line, (s.setLine l u).SameDesk (t.setLine l v) := fun u v =>
    ((setLine s l u).symm.trans h).trans (setLine t l v)
  unfold Machine.raiseLine
  simp only [hm, ha, hf, hu, h.responseRoom, modLine_eq]
  split
  · exact put _ _
  · split
    · exact put _ _
    · split
      · exact (put _ _).pushResponse _
      · exact (put _ _).dropResponse.raiseUnit _

theorem line_session (h : s.SameDesk t) (i : SessionNo) : t.session i = s.session i := by
  unfold State.session
  rw [h.sessions]

theorem available (h : s.SameDesk t) (hr : ∀ j, (t.line j).ring = (s.line j).ring) (i : SessionNo) :
    t.available i = s.available i := by
  simp only [State.available, h.line_session, hr]

theorem ready (h : s.SameDesk t) (hr : ∀ j, (t.line j).ring = (s.line j).ring)
    (hs : ∀ j, (t.line j).settled = (s.line j).settled) (i : SessionNo) : t.ready i = s.ready i := by
  unfold State.ready
  simp only [h.line_session, h.available hr, hs]

theorem dataFrame (h : s.SameDesk t) (hr : ∀ j, (t.line j).ring = (s.line j).ring) (i : SessionNo) :
    t.dataFrame i = s.dataFrame i ∧ t.dataLength i = s.dataLength i := by
  have hlen : t.dataLength i = s.dataLength i := by
    simp only [State.dataLength, h.available hr, h.line_session]
  obtain ⟨hu, hn⟩ := h.unit
  refine ⟨?_, hlen⟩
  simp only [State.dataFrame, State.ownFrame, hlen, h.line_session, hr, hu, hn]

theorem formData_as {i : SessionNo} (h : s.SameDesk t) (hl : t.dataLength i = s.dataLength i) :
    (formData i s).SameDesk (formData i t) := by
  unfold formData
  rw [hl]
  obtain ⟨ls, ks, q, e, n, rfl⟩ := iff_eq.mp h
  rfl

/-- A grant of DATA looks at the rings and at the settled flags of lines. -/
theorem grantData (h : s.SameDesk t) (hr : ∀ j, (t.line j).ring = (s.line j).ring)
    (hs : ∀ j, (t.line j).settled = (s.line j).settled) : (grantData s).SameDesk (grantData t) := by
  obtain ⟨-, hlast, hup, -⟩ := h.queues
  have hnext : t.nextReady? = s.nextReady? := by
    unfold State.nextReady?
    rw [funext (h.ready hr hs), hlast]
  unfold Machine.grantData
  rw [hup]
  split
  · simp only [grantMember, hnext]
    split
    · exact h
    · next i _ =>
      obtain ⟨hframe, hlen⟩ := h.dataFrame hr i
      rw [hframe]
      exact formData_as (s := { s with upTx := _, lastMember := _, lastSession := _ })
        (by obtain ⟨ls, ks, q, e, n, rfl⟩ := iff_eq.mp h; rfl) hlen
  · exact h

end State.SameDesk

end Sys2Proof.Machine
end

section
/-! SUPPORT. TYPE: what the injection queue takes, and the answers of TYPE. -/

namespace Sys2Proof.Machine

variable {s : State} {k : RequestKind} {rq : Request} {rest : List Frame} {l : LineNo} {i : SessionNo}

/-- A body that passes the engine's check holds all that its count field calls for (R173). -/
theorem body_holds (h : s.admits k rq rest) :
    k.fixedBytes ≤ rq.body.length ∧ k.fixedBytes + k.variableBytes rq.body ≤ rq.body.length := by
  obtain ⟨-, hc⟩ := h
  have hb : k.bodyShort rq.body = false := by
    by_contra hb
    simp [State.engineCheck, Bool.not_eq_false _ ▸ hb] at hc
  simpa [RequestKind.bodyShort] using hb

theorem onSession_of {own : SessionNo → Answer} (h : rq.sessionNo = some i) : onSession k rq s own = own i := by
  simp only [onSession, h]

theorem admits_iff {f : FloorState} : f.admits i = true ↔ f = .held i ∨ f = .parked i := by
  simp [FloorState.admits]

theorem taken_session_line (s : State) (rq : Request) (rest : List Frame) (i : SessionNo) :
    ((s.taken rq rest).session i).line = (s.session i).line := by
  obtain ⟨heard, left, h⟩ := taken_session s rq rest i
  rw [h]

/-- What an accepted TYPE leaves of its line: the session is holder, its idle timer runs afresh, and the bytes that find
room stand at the end of the injection queue (R138, R141). -/
theorem typeInto_eq {bytes : List Byte} (h : (s.line l).floor.state = .held i ∨ (s.line l).floor.state = .parked i) :
    typeInto l i bytes s = startElement l (s.setLine l
      { s.line l with
        injection := (s.line l).injection ++ (bytes.take (s.line l).room).map Element.byte
        counters := { (s.line l).counters with
          bytesTyped := (s.line l).counters.bytesTyped + BitVec.ofNat 32 (bytes.take (s.line l).room).length }
        floor := { (s.line l).floor with
          state := .held i
          waiting := if (s.line l).floor.state = .parked i then (s.line l).floor.waiting.erase i
            else (s.line l).floor.waiting
          idle := (s.line l).idleFull } }) := by
  rcases h with h | h <;>
    simp [typeInto, becomeHolder, restartIdle, injectBytes, modLine_eq, h, Line.idleFull, Line.room]

/-- The count field of TYPE is honoured in full by a body that passed the check, up to 512 bytes. -/
theorem typed_length (h : s.admits .typeBytes rq rest) (hc : numAt rq.body 0 2 ≤ 512) (room : Nat) :
    (((rq.body.drop 2).take (numAt rq.body 0 2)).take room).length = min (numAt rq.body 0 2) room := by
  obtain ⟨h2, hv⟩ := body_holds h
  simp only [RequestKind.fixedBytes, RequestKind.variableBytes] at h2 hv
  simp only [List.length_take, List.length_drop]
  omega

/-- Settles O45: the checks of TYPE in their order, and what is left of the line when they pass. -/
theorem typeQueuesBytes : Obligations.TypeQueuesBytes := by
  intro s rq rest i ha hi u l v count room bytes
  have hl : (u.session i).line = l := taken_session_line s rq rest i
  have hv : u.line l = v := taken_line s rq rest l
  have own : typeBytes rq u =
      if count = 0 ∨ 512 < count then refuse .typeBytes rq .outOfRange u
      else if v.floor.state.admits i = false then refuse .typeBytes rq .notHolder u
      else if v.state ≠ .live then refuse .typeBytes rq .notLive u
      else Answer.of (if min count v.room = count then .ok else .partTaken) (beBytes 2 (min count v.room))
        (typeInto l i (slice rq.body 2 count) u) := by
    simp only [typeBytes, onSession_of hi, hl, hv, count]
  have hadm : (v.floor.state = .held i ∨ v.floor.state = .parked i) → v.floor.state.admits i ≠ false := fun h => by
    simpa using admits_iff.mpr h
  refine ⟨fun hc => ?_, fun h1 h2 hh hp => ?_, fun h1 h2 hf hs => ?_, fun h1 h2 hf hs => ?_⟩
  · exact congrArg _ (serve_refuse ha (by decide) (by rw [own, if_pos hc]))
  · have hn : v.floor.state.admits i = false := by simp [FloorState.admits, hh, hp]
    exact congrArg _ (serve_refuse ha (by decide) (by rw [own, if_neg (by omega), if_pos hn]))
  · exact congrArg _ (serve_refuse ha (by decide) (by rw [own, if_neg (by omega), if_neg (hadm hf), if_pos hs]))
  · have hlen : bytes.length = min count room := typed_length ha h2 room
    refine ⟨hlen, congrArg Host.Outcome.next (?_ : serve .typeBytes typeBytes s = _)⟩
    have hst : (if min count v.room = count then Status.ok else .partTaken)
        = if count ≤ room then Status.ok else .partTaken := by
      have hr : v.room = room := rfl
      simp only [hr, min_eq_left_iff]
    have he := serve_answer ha (by decide)
      (own.trans ((if_neg (by omega)).trans ((if_neg (hadm hf)).trans (if_neg (not_not_intro hs)))))
    rw [typeInto_eq (by rw [hv]; exact hf), hst, hv] at he
    have hbytes : ((slice rq.body 2 count).take v.room).length = min count room := hlen
    rw [hbytes] at he
    exact he

end Sys2Proof.Machine
end

section
/-! SUPPORT. What is placed stays placed while lines start and stop; how a line leaves LOOP; and the loopback test. -/

namespace Sys2Proof.Machine

variable {s t w : State} {l : LineNo} {f : OutFrame}

/-! ### Frames that stay -/

/-- Between two states responses were only added, none that waits left, and what was going out on UP goes on. -/
structure State.KeepsFrames (s t : State) : Prop where
  responses : ∃ placed, t.responses = s.responses ++ placed
  waitingTests : t.waitingTests = s.waitingTests
  upTx : ∀ x, s.upTx = some x → t.upTx = some x

namespace State.KeepsFrames

theorem trans (h : s.KeepsFrames t) (k : t.KeepsFrames w) : s.KeepsFrames w := by
  obtain ⟨p, hp⟩ := h.responses
  obtain ⟨q, hq⟩ := k.responses
  exact ⟨⟨p ++ q, by rw [hq, hp, List.append_assoc]⟩, k.waitingTests.trans h.waitingTests,
    fun x hx => k.upTx x (h.upTx x hx)⟩

/-- States that agree in their frames keep them. -/
theorem of_eq (hr : t.responses = s.responses) (hw : t.waitingTests = s.waitingTests) (hu : t.upTx = s.upTx) :
    s.KeepsFrames t :=
  ⟨⟨[], by rw [hr, List.append_nil]⟩, hw, fun x hx => hu.trans hx⟩

theorem setLine (s : State) (l : LineNo) (v : Line) : s.KeepsFrames (s.setLine l v) := of_eq rfl rfl rfl

/-- What the Alert Unit and the notices tell goes out only on an idle transmitter. -/
theorem told {d : Told} (h : d.within s) : s.KeepsFrames (s.told d) := by
  refine ⟨⟨d.placed, rfl⟩, rfl, fun x hx => ?_⟩
  rcases h.2 with ⟨hu, -⟩ | hfree
  · exact hu.trans hx
  · simp [State.upFree, hx] at hfree

theorem appendMark (l : LineNo) (k : MarkKind) (a : Nat) (s : State) : s.KeepsFrames (appendMark l k a s) := by
  obtain ⟨ms, loss, e, -⟩ := appendMark_effect l k a s
  rw [e]
  exact setLine s l _

theorem raiseLine (l : LineNo) (e : LineEvent) (ws : BitVec 64) (rs : BitVec 3) (a : Nat) (s : State) :
    s.KeepsFrames (raiseLine l e ws rs a s) := by
  obtain ⟨o, d, h, -, -, -, -, hw⟩ := raiseLine_effect l e ws rs a s
  rw [h]
  exact (setLine s l _).trans (told hw)

theorem enterLive (l : LineNo) (r : TakenRate) (s : State) : s.KeepsFrames (enterLive l r s) :=
  ((setLine s l _).trans (appendMark l _ _ _)).trans (raiseLine l _ _ _ _ _)

theorem probeTake (s : State) : s.KeepsFrames (probeTake s) := by
  rcases probeTake_effect s with ⟨h, -⟩ | ⟨l, rest, tx, ms, loss, m, -, -, h, -⟩ <;> rw [h] <;> exact of_eq rfl rfl rfl

theorem noticeLost (l : LineNo) (i : SessionNo) (r : Option LostReason) (s : State) :
    s.KeepsFrames (noticeLost l i r s) := by
  cases r with
  | none => exact of_eq rfl rfl rfl
  | some r =>
    obtain ⟨d, e, -, -, -, hw⟩ := placeNotice_effect (s.noticeFrame l i (some r)) s
    change s.KeepsFrames (placeNotice _ s)
    rw [e]
    exact told hw

end State.KeepsFrames

/-- A response is in the response queue, waits at its Line Unit or goes out on UP. -/
def State.holdsTest (s : State) (f : OutFrame) : Prop :=
  { frame := f, resets := false } ∈ s.responses ∨ f ∈ s.waitingTests ∨ s.upTx = some (.response f false)

theorem State.holdsTest.kept (h : s.holdsTest f) (k : s.KeepsFrames t) : t.holdsTest f := by
  obtain ⟨p, hp⟩ := k.responses
  rcases h with h | h | h
  · exact .inl (hp ▸ List.mem_append_left p h)
  · exact .inr (.inl (k.waitingTests ▸ h))
  · exact .inr (.inr (k.upTx _ h))

/-! ### Placing a LINE TEST response -/

theorem placeTest_room (h : s.waitingTests = [] ∧ s.responseRoom = true) : placeTest f s = s.pushResponse f := if_pos h

theorem placeTest_full (h : ¬ (s.waitingTests = [] ∧ s.responseRoom = true)) :
    placeTest f s = { s with waitingTests := s.waitingTests ++ [f] } := if_neg h

theorem placeTest_holds (f : OutFrame) (s : State) : (placeTest f s).holdsTest f := by
  by_cases h : s.waitingTests = [] ∧ s.responseRoom = true
  · rw [placeTest_room h, State.pushResponse]
    split
    · exact .inr (.inr rfl)
    · exact .inl (List.mem_append_right _ (List.mem_singleton_self _))
  · rw [placeTest_full h]
    exact .inr (.inl (List.mem_append_right _ (List.mem_singleton_self _)))

/-- Placing a response does not look at lines. -/
theorem placeTest_setLine (f : OutFrame) (s : State) (l : LineNo) (v : Line) :
    (placeTest f s).setLine l v = placeTest f (s.setLine l v) := by
  unfold placeTest State.pushResponse
  split
  · next h =>
    rw [if_pos (c := (s.setLine l v).waitingTests = [] ∧ (s.setLine l v).responseRoom = true) h]
    split
    · next hp => exact (if_pos (c := (s.setLine l v).upFree ∧ (s.setLine l v).responses = []) hp).symm
    · next hp => exact (if_neg (c := (s.setLine l v).upFree ∧ (s.setLine l v).responses = []) hp).symm
  · next h => exact (if_neg (c := (s.setLine l v).waitingTests = [] ∧ (s.setLine l v).responseRoom = true) h).symm

/-- Placing a response changes the response queue, the responses that wait and what UP sends. -/
theorem placeTest_effect (f : OutFrame) (s : State) : ∃ rs ws tx m,
    placeTest f s = { s with responses := rs, waitingTests := ws, upTx := tx, lastMember := m } := by
  by_cases h : s.waitingTests = [] ∧ s.responseRoom = true
  · rw [placeTest_room h]
    rcases pushResponse_effect s f with ⟨-, -, e⟩ | ⟨-, e⟩ <;> rw [e] <;> exact ⟨_, _, _, _, rfl⟩
  · rw [placeTest_full h]
    exact ⟨_, _, _, _, rfl⟩

/-! ### The engine takes a line -/

/-- The whole state after the idle engine took the head of the queue (R27, R29). -/
theorem probeTake_takes {rest : List LineNo} (he : s.engine = none) (hq : s.probeQueue = l :: rest) :
    ∃ tx ms loss n m, probeTake s =
        { s.setLine l { s.line l with state := .measuring, tx := tx, marks := ms, markLoss := loss } with
          probeQueue := rest, begun := n, engine := some m }
      ∧ m.line = l
      ∧ ms.getLast? = some { offset := (s.line l).ring.newest, stamp := s.unitTime, kind := .measureBegin, arg := 0 } := by
  rcases probeTake_effect s with ⟨-, hr⟩ | ⟨l', rest', tx, ms, loss, m, -, hq', e, -, hl, -⟩
  · rw [hr he] at hq; cases hq
  · rw [hq] at hq'
    obtain ⟨rfl, rfl⟩ := List.cons.inj hq'
    exact ⟨_, _, _, _, m, e, hl, List.getLast?_concat⟩

/-- A line that the idle engine takes as it joins the queue (R25, R27). -/
theorem joinProbe_taken (l : LineNo) (he : s.engine = none) (hq : s.probeQueue = []) :
    ∃ tx ms loss n m, probeTake (joinProbe l s) =
        { s.setLine l
            { s.line l with state := .measuring, attempts := 0, test := none, tx := tx, marks := ms, markLoss := loss } with
          probeQueue := [], begun := n, engine := some m }
      ∧ m.line = l := by
  obtain ⟨tx, ms, loss, n, m, h, hm, -⟩ := probeTake_takes (s := joinProbe l s) (l := l) (rest := []) he
    (by rw [joinProbe_eq]; exact congrArg (· ++ [l]) hq)
  refine ⟨tx, ms, loss, n, m, ?_, hm⟩
  rw [h, joinProbe_line]
  exact congrArg (fun u : State => { u with probeQueue := [], begun := n, engine := some m }) (setLine_setLine s l _ _)

/-- A busy engine leaves a line that joins the queue at its tail. -/
theorem joinProbe_waits (l : LineNo) (he : s.engine ≠ none) : probeTake (joinProbe l s) = joinProbe l s :=
  probeTake_ready fun hn => absurd hn he

end Sys2Proof.Machine
end

section
/-! SUPPORT. How a line leaves LOOP, and the loopback test. -/

namespace Sys2Proof.Machine

variable {s : State} {l : LineNo} {x : LoopTest}

/-! ### The end of a test -/

/-- The response of a test that completes: a pattern byte with no received character counts as the first mismatch. -/
def State.endFrame (s : State) (x : LoopTest) : OutFrame :=
  s.testFrame { x with
    firstMismatch := x.firstMismatch.or (if x.received < x.pattern.length then some x.received else none) } .ok

/-- The state in which a line whose test completed starts again: the response placed, the transmitter idle. -/
def State.tested (s : State) (l : LineNo) (x : LoopTest) : State :=
  (placeTest (s.endFrame x) s).setLine l { s.line l with tx := .idle, test := none }

theorem placeTest_line (f : OutFrame) (s : State) (j : LineNo) : (placeTest f s).line j = s.line j := by
  obtain ⟨rs, ws, tx, m, h⟩ := placeTest_effect f s
  rw [h]
  rfl

theorem completeTest_eq (l : LineNo) (x : LoopTest) (s : State) :
    completeTest l x s = leaveLoop l x (placeTest (s.endFrame x) s) := by
  unfold completeTest State.endFrame
  cases x.firstMismatch <;> rfl

theorem completeTest_off (h : x.prior = .off) :
    completeTest l x s = placeTest (s.endFrame x) (s.setLine l { s.line l with tx := .idle, test := none, state := .off }) := by
  simp only [completeTest_eq, leaveLoop, h, modLine_eq, setLine_line_same, setLine_setLine, placeTest_line,
    placeTest_setLine]

theorem completeTest_live (h : x.prior = .live) (hr : x.restartPending = false) :
    completeTest l x s = enterLive l
      ((s.line l).last.getD ((s.tested l x).takeRate (s.line l).record.fixedIndex)) (s.tested l x) := by
  simp only [completeTest_eq, leaveLoop, h, hr, modLine_eq, setLine_line_same, placeTest_line]
  rfl

theorem completeTest_restart (h : x.prior = .live) (hr : x.restartPending = true) :
    completeTest l x s = probeTake (startByRecord l (s.tested l x)) := by
  simp only [completeTest_eq, leaveLoop, h, hr, modLine_eq, placeTest_line, State.tested, if_true]

/-! ### The line as it starts again -/

theorem tested_line (s : State) (l : LineNo) (x : LoopTest) :
    (s.tested l x).line l = { s.line l with tx := .idle, test := none } := setLine_line_same _ _ _

theorem tested_line_ne {j : LineNo} (hj : j ≠ l) : (s.tested l x).line j = s.line j := by
  rw [State.tested, setLine_line_ne _ _ hj, placeTest_line]

theorem tested_rest (s : State) (l : LineNo) (x : LoopTest) :
    (s.tested l x).sessions = s.sessions ∧ (s.tested l x).engine = s.engine ∧ (s.tested l x).probeQueue = s.probeQueue
      ∧ (s.tested l x).unitTime = s.unitTime ∧ ∀ i, (s.tested l x).rateAt i = s.rateAt i := by
  obtain ⟨rs, ws, tx, m, h⟩ := placeTest_effect (s.endFrame x) s
  unfold State.tested
  rw [h]
  exact ⟨rfl, rfl, rfl, rfl, fun _ => rfl⟩

theorem tested_holds (s : State) (l : LineNo) (x : LoopTest) : (s.tested l x).holdsTest (s.endFrame x) :=
  (placeTest_holds _ s).kept (.setLine _ _ _)

theorem tested_ready (h : s.engineReady) : (s.tested l x).engineReady := by
  obtain ⟨-, he, hq, -⟩ := tested_rest s l x
  unfold State.engineReady
  rw [he, hq]
  exact h

/-- What an entry into LIVE sets of its line and leaves (R3). -/
theorem enterLive_kept (l : LineNo) (r : TakenRate) (s : State) :
    ((enterLive l r s).line l).state = .live ∧ ((enterLive l r s).line l).test = none
      ∧ ((enterLive l r s).line l).current = some r ∧ ((enterLive l r s).line l).last = some r
      ∧ ((enterLive l r s).line l).monitor.seedPending = true ∧ ((enterLive l r s).line l).matchWindow = []
      ∧ ((enterLive l r s).line l).tx = .idle ∧ ((enterLive l r s).line l).record = (s.line l).record
      ∧ ((enterLive l r s).line l).ring = (s.line l).ring ∧ ((enterLive l r s).line l).counters = (s.line l).counters
      ∧ ((enterLive l r s).line l).floor = (s.line l).floor
      ∧ ((enterLive l r s).line l).injection = (s.line l).injection ∧ ((enterLive l r s).line l).hold = (s.line l).hold
      ∧ ((enterLive l r s).line l).marks.getLast? =
          some { offset := (s.line l).ring.newest, stamp := s.unitTime, kind := .rateSet, arg := r.index.val }
      ∧ (enterLive l r s).sessions = s.sessions ∧ (enterLive l r s).slots = s.slots := by
  obtain ⟨ms, loss, m, d, h, -⟩ := enterLive_effect l r s
  rw [h, told_line, setLine_line_same]
  exact ⟨rfl, rfl, rfl, rfl, rfl, rfl, rfl, rfl, rfl, rfl, rfl, rfl, rfl, List.getLast?_concat, rfl, rfl⟩

/-! ### A character of a test -/

/-- The parity bit is wrong where it makes the ones odd under EVEN or even under ODD (R7, R9). -/
theorem parityError_eq (f : Framing) (data : Byte) (p : Bool) :
    f.parityError data p =
      match f.parity with
      | .absent => false
      | .even => ((List.range 8).countP (fun i => (f.capturedByte data).getLsbD i) + (if p then 1 else 0)) % 2 == 1
      | .odd => ((List.range 8).countP (fun i => (f.capturedByte data).getLsbD i) + (if p then 1 else 0)) % 2 == 0 := by
  have hones : oddOnes (f.capturedByte data) =
      ((List.range 8).countP (fun i => (f.capturedByte data).getLsbD i) % 2 == 1) := by
    rw [oddOnes_eq, List.count_eq_countP, List.countP_map]
    congr 2
    exact List.countP_congr fun i _ => by simp
  unfold Framing.parityError Framing.parityBit
  generalize hn : (List.range 8).countP (fun i => (f.capturedByte data).getLsbD i) = n at hones ⊢
  rw [hones]
  have heven : ∀ m : Nat, (m % 2 == 0) = !(m % 2 == 1) := fun m => by
    rcases Nat.mod_two_eq_zero_or_one m with h | h <;> simp [h]
  cases f.parity <;> cases p <;> simp [heven, odd_succ]

theorem matchesNext_iff {f : Framing} {data : Byte} {p stop : Bool} :
    x.matchesNext f data p stop = true ↔
      stop = true ∧ f.parityError data p = false ∧ x.pattern[x.received]? = some (f.capturedByte data) := by
  simp [LoopTest.matchesNext, and_assoc]

/-- The test as the model counts a character is the one the statement writes out. -/
theorem afterCharacter_eq (x : LoopTest) {good : Bool} {P : Prop} [Decidable P] (h : good = true ↔ P) :
    x.afterCharacter good =
      { x with
        received := x.received + 1
        matched := if P then x.matched + 1 else x.matched
        firstMismatch := if P then x.firstMismatch else x.firstMismatch.or (some x.received) } := by
  cases good with
  | true => simp [LoopTest.afterCharacter, h.mp rfl]
  | false =>
    have hn : ¬ P := fun hp => Bool.false_ne_true (h.mpr hp)
    cases hf : x.firstMismatch <;> simp [LoopTest.afterCharacter, hn, hf]

/-- What a LINE TEST of a LIVE line leaves, when nothing restarts the line meanwhile (R19). -/
theorem completeTest_resumes (h : x.prior = .live) (hr : x.restartPending = false) :
    ((completeTest l x s).line l).state = .live ∧ ((completeTest l x s).line l).test = none
      ∧ ((completeTest l x s).line l).current = some ((s.line l).last.getD
          { index := (s.line l).record.fixedIndex, rate := s.rateAt (s.line l).record.fixedIndex })
      ∧ ((completeTest l x s).line l).monitor.seedPending = true ∧ ((completeTest l x s).line l).matchWindow = []
      ∧ ((completeTest l x s).line l).tx = .idle ∧ ((completeTest l x s).line l).ring = (s.line l).ring
      ∧ ((completeTest l x s).line l).counters = (s.line l).counters
      ∧ ((completeTest l x s).line l).floor = (s.line l).floor
      ∧ (∀ j, j ≠ l → (completeTest l x s).line j = s.line j) ∧ (completeTest l x s).sessions = s.sessions
      ∧ (completeTest l x s).holdsTest (s.endFrame x) := by
  obtain ⟨hsess, -, -, -, hrate⟩ := tested_rest s l x
  rw [completeTest_live h hr]
  generalize hc : (s.line l).last.getD ((s.tested l x).takeRate (s.line l).record.fixedIndex) = r
  obtain ⟨h1, h2, h3, -, h5, h6, h7, -, h9, h10, h11, -, -, -, h15, -⟩ := enterLive_kept l r (s.tested l x)
  rw [tested_line] at h9 h10 h11
  refine ⟨h1, h2, ?_, h5, h6, h7, h9, h10, h11, fun j hj => ?_, h15.trans hsess, ?_⟩
  · rw [h3, ← hc, State.takeRate, hrate]
  · rw [(State.OnlyLine.enterLive l r _).line_ne j hj, tested_line_ne hj]
  · exact (tested_holds s l x).kept (.enterLive l r _)

/-- A restart pending under FIXED: the line is LIVE at its fixed rate (R23). -/
theorem completeTest_fixed (h : x.prior = .live) (hr : x.restartPending = true) (hs : s.engineReady)
    (hp : (s.line l).record.policy = .fixed) :
    completeTest l x s = enterLive l
      { index := (s.line l).record.fixedIndex, rate := s.rateAt (s.line l).record.fixedIndex } (s.tested l x) := by
  obtain ⟨-, -, -, -, hrate⟩ := tested_rest s l x
  rw [completeTest_restart h hr, startByRecord_fixed (by rw [tested_line]; exact hp),
    probeTake_ready (enterLive_ready _ (tested_ready hs)), tested_line, State.takeRate, hrate]

/-- A restart pending under AUTO: the line joins the probe queue (R23). -/
theorem completeTest_auto (h : x.prior = .live) (hr : x.restartPending = true)
    (hp : (s.line l).record.policy = .auto) :
    completeTest l x s = probeTake (joinProbe l (s.tested l x)) := by
  rw [completeTest_restart h hr, startByRecord_auto (by rw [tested_line]; exact hp)]

/-- A line that restarts under AUTO keeps its record, ring, counters and floor, whether it waits or is measured. -/
theorem joinProbe_starts (l : LineNo) (s : State) (hs : s.engineReady) :
    ∃ tx ms loss st q e n, probeTake (joinProbe l s) =
        { s.setLine l
            { s.line l with state := st, attempts := 0, test := none, tx := tx, marks := ms, markLoss := loss } with
          probeQueue := q, begun := n, engine := e }
      ∧ (s.engine ≠ none → st = .queued ∧ q = s.probeQueue ++ [l] ∧ e = s.engine)
      ∧ (s.engine = none → st = .measuring ∧ q = [] ∧ e.map (·.line) = some l) := by
  by_cases he : s.engine = none
  · obtain ⟨tx, ms, loss, n, m, e, hm⟩ := joinProbe_taken l he (hs he)
    exact ⟨tx, ms, loss, _, _, some m, n, e, fun h => absurd he h, fun _ => ⟨rfl, rfl, congrArg some hm⟩⟩
  · exact ⟨_, _, _, _, _, _, _, joinProbe_waits l he, fun _ => ⟨rfl, rfl, rfl⟩, fun h => absurd h he⟩

end Sys2Proof.Machine
end

section
/-! SUPPORT. The loopback test: a pending restart, and the obligation. -/

namespace Sys2Proof.Machine

variable {s : State} {l : LineNo} {x : LoopTest}

/-- What a LINE TEST of a LIVE line leaves with a restart pending (R23). -/
theorem completeTest_restarts (h : x.prior = .live) (hr : x.restartPending = true) (hs : s.engineReady) :
    ∃ t, completeTest l x s = t ∧ (t.line l).test = none ∧ (t.line l).record = (s.line l).record
      ∧ (t.line l).ring = (s.line l).ring ∧ (t.line l).counters = (s.line l).counters
      ∧ (t.line l).floor = (s.line l).floor ∧ (∀ j, j ≠ l → t.line j = s.line j) ∧ t.sessions = s.sessions
      ∧ t.holdsTest (s.endFrame x)
      ∧ ((s.line l).record.policy = .fixed →
          (t.line l).state = .live ∧ t.probeQueue = s.probeQueue ∧ t.engine = s.engine
          ∧ (t.line l).current =
              some { index := (s.line l).record.fixedIndex, rate := s.rateAt (s.line l).record.fixedIndex }
          ∧ (t.line l).marks.getLast? = some
              { offset := (s.line l).ring.newest, stamp := s.unitTime, kind := .rateSet
                arg := (s.line l).record.fixedIndex.val })
      ∧ ((s.line l).record.policy = .auto → (t.line l).attempts = 0
          ∧ (s.engine ≠ none →
              (t.line l).state = .queued ∧ t.probeQueue = s.probeQueue ++ [l] ∧ t.engine = s.engine)
          ∧ (s.engine = none →
              (t.line l).state = .measuring ∧ t.probeQueue = [] ∧ t.engine.map (·.line) = some l)) := by
  obtain ⟨hsess, hen, hq, htime, -⟩ := tested_rest s l x
  have hv := tested_line s l x
  refine ⟨_, rfl, ?_⟩
  cases hp : (s.line l).record.policy with
  | fixed =>
    rw [completeTest_fixed h hr hs hp]
    generalize hc : ({ index := (s.line l).record.fixedIndex, rate := s.rateAt (s.line l).record.fixedIndex } : TakenRate) = r
    have ho := State.OnlyLine.enterLive l r (s.tested l x)
    obtain ⟨h1, h2, h3, -, -, -, -, h8, h9, h10, h11, -, -, h14, h15, -⟩ := enterLive_kept l r (s.tested l x)
    rw [hv] at h8 h9 h10 h11
    have hidx : r.index = (s.line l).record.fixedIndex := by rw [← hc]
    rw [hv, htime, hidx] at h14
    exact ⟨h2, h8, h9, h10, h11, fun j hj => (ho.line_ne j hj).trans (tested_line_ne hj), h15.trans hsess,
      (tested_holds s l x).kept (.enterLive l r _),
      fun _ => ⟨h1, ho.probeQueue.trans hq, ho.engine.trans hen, hc ▸ h3, h14⟩, nofun⟩
  | auto =>
    rw [completeTest_auto h hr hp]
    obtain ⟨tx, ms, loss, st, q, e, n, ht, hbusy, hidle⟩ := joinProbe_starts l (s.tested l x) (tested_ready hs)
    rw [hen, hq] at hbusy
    rw [hen] at hidle
    have hk : (s.tested l x).KeepsFrames (probeTake (joinProbe l (s.tested l x))) :=
      (State.KeepsFrames.of_eq (s := s.tested l x) (t := joinProbe l (s.tested l x)) rfl rfl rfl).trans (.probeTake _)
    have hholds := (tested_holds s l x).kept hk
    rw [ht] at hholds ⊢
    rw [hv] at hholds ⊢
    generalize hw : ({ s.line l with
      tx := tx, test := none, state := st, attempts := 0, marks := ms, markLoss := loss } : Line) = w at hholds ⊢
    have hl : ∀ q n e, State.line { (s.tested l x).setLine l w with probeQueue := q, begun := n, engine := e } l = w :=
      fun _ _ _ => setLine_line_same _ l w
    rw [hl]
    refine ⟨?_, ?_, ?_, ?_, ?_, fun j hj => (setLine_line_ne _ w hj).trans (tested_line_ne hj), hsess, hholds, nofun,
      fun _ => ⟨?_, fun he => ?_, fun he => ?_⟩⟩ <;> rw [← hw]
    · exact hbusy he
    · exact hidle he

theorem capturedByte_eq (f : Framing) (data : Byte) :
    f.capturedByte data = if f.dataBits = .seven then data &&& 0x7F#8 else data := by
  cases h : f.dataBits <;> simp [Framing.capturedByte, h]

theorem loopReceive_eq (data : Byte) (p stop : Bool) (hx : (s.line l).test = some x)
    (h1 : x.received < x.pattern.length) (h2 : x.received ≤ x.sent) :
    exec (.loopCharacterReceived l data p stop) s = .next (loopReceive l x data p stop s) := by
  simp only [exec, execLoopCharacterReceived, hx, if_pos (And.intro h1 h2)]

theorem patternSent_eq {b : Byte} {f : Framing} (htx : (s.line l).tx = .pattern b f) (hx : (s.line l).test = some x) :
    exec (.patternByteSent l) s = .next (patternSent l x s) := by
  simp only [exec, execPatternByteSent, htx, hx]

theorem loopTestTimeout_eq (hx : (s.line l).test = some x) :
    exec (.loopTestTimeout l) s =
      .next (if endsThisMs x.wait = true then upGrant (completeTest l x s) else s) := by
  simp only [exec, execLoopTestTimeout, hx]

/-- Settles O49: the ends of a test, and each character and pattern byte on the way there. -/
theorem loopbackTest : Obligations.LoopbackTest := by
  refine ⟨fun f data p => ?_, fun f s => ?_, fun s l x hx => ?_⟩
  · have herror := parityError_eq f data p
    rw [capturedByte_eq] at herror
    exact herror
  · intro room
    have hroom : room ↔ s.waitingTests = [] ∧ s.responseRoom = true :=
      and_congr_right fun _ => (decide_eq_true_iff (p := _ < 16)).symm
    exact ⟨fun h => placeTest_room (hroom.mp h), fun h => placeTest_full (mt hroom.mpr h)⟩
  intro v ended
  have hended : ∀ (x' : LoopTest) (o : Host.Outcome State Fault Refusal), x'.prior = x.prior →
      x'.restartPending = x.restartPending → o = .next (upGrant (completeTest l x' s)) → ended x' o := by
    intro x' o hp hr ho
    refine ⟨fun h => ?_, fun h hpend hready => ?_, fun h hpend => ?_⟩
    · rw [ho, completeTest_off (hp.trans h)]
      rfl
    · obtain ⟨t, ht, h1, h2, h3, h4, h5, h6, h7, h8, h9, h10⟩ :=
        completeTest_restarts (s := s) (l := l) (hp.trans h) (hr.trans hpend) hready
      exact ⟨t, ht ▸ ho, h1, h2, h3, h4, h5, h6, h7, h8, h9, h10⟩
    · exact ⟨_, ho, completeTest_resumes (hp.trans h) (hr.trans hpend)⟩
  refine ⟨fun data p stop h1 h2 => ?_, fun b f htx => ⟨fun next hn => ?_, fun hl hr => ?_, fun hl hr => ?_⟩,
    fun w hw hlt => ?_, fun hw => ?_⟩
  · intro f good x'
    have hgood : x.matchesNext v.loopFraming data p stop = true ↔ good := by
      have hf : v.loopFraming = f := by
        unfold Line.loopFraming
        simp only [f]
        cases v.tx <;> rfl
      rw [matchesNext_iff, capturedByte_eq, hf]
    have hx' : x.afterCharacter (x.matchesNext v.loopFraming data p stop) = x' := afterCharacter_eq x hgood
    have hback : x'.allBack = true ↔ x.sent = x.pattern.length ∧ x.received + 1 = x.sent := decide_eq_true_iff
    have hexec : exec (.loopCharacterReceived l data p stop) s = .next
        (if x'.allBack then upGrant (completeTest l x' s) else s.setLine l { v with test := some x' }) := by
      rw [loopReceive_eq data p stop hx h1 h2, ← hx']
      rfl
    refine ⟨fun hn => ?_, fun hs hr => hended x' _ rfl rfl ?_⟩
    · rw [hexec, if_neg (mt hback.mp hn)]
    · rw [hexec, if_pos (hback.mpr ⟨hs, hr⟩)]
  · have hlt : x.sent + 1 < x.pattern.length := (List.getElem?_eq_some_iff.mp hn).1
    rw [patternSent_eq htx hx, patternSent]
    simp only [hlt, if_true, LoopTest.transmit, hn]
    rfl
  · rw [patternSent_eq htx hx, patternSent]
    simp only [Nat.not_lt.mpr hl, hr, if_false]
    rfl
  · refine hended _ _ rfl rfl ?_
    rw [patternSent_eq htx hx, patternSent]
    simp only [Nat.not_lt.mpr hl, hr, if_false, if_true]
  · refine hended x _ rfl rfl ?_
    rw [loopTestTimeout_eq hx, if_pos (by rw [hw]; exact decide_eq_true hlt)]
  · rw [loopTestTimeout_eq hx, if_neg]
    cases hwait : x.wait with
    | none => exact Bool.false_ne_true
    | some w => exact mt of_decide_eq_true (Nat.not_lt.mpr (hw w hwait))

end Sys2Proof.Machine
end

section
/-! SUPPORT. What an exit from LIVE leaves: the frames it makes, the sessions it grants, the slot it truncates, and the
line; and LINE TEST. -/

namespace Sys2Proof.Machine

variable {s t u w : State} {rq : Request} {rest : List Frame} {l : LineNo}

/-! ### The steps of the exit -/

/-- A line as an exit from LIVE leaves it before its monitor hears of it, the only session grant of the exit done. -/
def State.cutGranted (s : State) (l : LineNo) : State := grantData (s.setLine l (s.line l).cutOff)

theorem cutGranted_line (s : State) (l : LineNo) : (s.cutGranted l).line l = (s.line l).cutOff := by
  rw [State.cutGranted, grantData_line, setLine_line_same]

/-- The monitor's part of the exit changes the monitor record and the floor of its line (R72, R74). -/
theorem monitorExit_eq (l : LineNo) (s : State) :
    ∃ f : Floor, monitorExit l s = s.setLine l { s.line l with monitor := (s.line l).monitor.left, floor := f }
      ∧ f.state = (s.line l).floor.state ∧ f.waiting = (s.line l).floor.waiting := by
  unfold monitorExit
  simp only [modLine_eq]
  split
  · rw [floorQuiet_effect, setLine_line_same, setLine_setLine]
    exact ⟨_, rfl, rfl, rfl⟩
  · exact ⟨_, rfl, rfl, rfl⟩

/-- An exit from LIVE settles the line, tells the monitor and truncates the slot. -/
theorem exitLive_eq (l : LineNo) (s : State) : exitLive l s = truncateFor l (monitorExit l (s.cutGranted l)) := rfl

/-- The state that the truncation of an exit finds. -/
theorem exitLive_truncating (l : LineNo) (s : State) :
    ∃ v : Line, monitorExit l (s.cutGranted l) = (s.cutGranted l).setLine l v ∧ v.summary = (s.line l).summary
      ∧ v.record = (s.line l).record ∧ v.floor.state = (s.line l).floor.state
      ∧ v.floor.waiting = (s.line l).floor.waiting := by
  obtain ⟨f, e, hs, hw⟩ := monitorExit_eq l (s.cutGranted l)
  rw [cutGranted_line] at e hs hw
  exact ⟨_, e, rfl, rfl, hs, hw⟩

theorem fillingSlot?_congr (h : t.slots = s.slots) : t.fillingSlot? l = s.fillingSlot? l := by
  unfold State.fillingSlot? State.slot
  rw [h]

/-! ### The slot -/

/-- What a truncation says of two states looks at the slots and at one event of the line (R4, R101). -/
theorem truncates_congr (hs : u.slots = s.slots)
    (hm : (u.line l).summary.has .snapshotDone = (s.line l).summary.has .snapshotDone) (ht : w.slots = t.slots)
    (hn : (w.line l).summary.has .snapshotDone = (t.line l).summary.has .snapshotDone) (h : s.truncates l t) :
    u.truncates l w := by
  unfold State.truncates State.slot at h ⊢
  simp only [hs, hm, ht, hn]
  exact h

theorem truncateFor_truncates (l : LineNo) (s : State) : s.truncates l (truncateFor l s) := by
  refine ⟨fun k hk hfirst => ?_, fun hno => ?_⟩
  · have hf : s.fillingSlot? l = some k := fillingSlot?_first.mpr ⟨hk, hfirst⟩
    obtain ⟨-, rfl⟩ := hk
    obtain ⟨m, d, e, hm⟩ := completeSlot_done k true s
    simp only [truncateFor, hf]
    rw [e]
    refine ⟨?_, ?_, fun j hj => ?_⟩
    · rw [told_slot, setLine_slot, setSlot_slot_same]
    · rw [told_line, setLine_line_same]
      exact hm
    · rw [told_slot, setLine_slot, setSlot_slot_ne _ _ hj]
  · have hf : s.fillingSlot? l = none := fillingSlot?_none.mpr hno
    have hstill : truncateFor l s = s := by simp only [truncateFor, hf]
    rw [hstill]
    exact ⟨rfl, rfl⟩

theorem exitLive_truncates (l : LineNo) (s : State) : s.truncates l (exitLive l s) := by
  obtain ⟨v, e, hsum, -⟩ := exitLive_truncating l s
  have h := truncateFor_truncates l (monitorExit l (s.cutGranted l))
  rw [exitLive_eq]
  refine truncates_congr ?_ ?_ rfl rfl h
  · rw [e, setLine_slots, State.cutGranted, grantData_slots, setLine_slots]
  · rw [e, setLine_line_same, hsum]

/-! ### Frames and sessions -/

/-- The state whose frames and sessions an exit from LIVE has: the settled line may make a session ready, which is granted,
and a slot FILLING for the line raises SNAPSHOT_DONE (R120, R158, R101). -/
def State.settledGranted (s : State) (l : LineNo) : State :=
  let g := grantData (s.setLine l { s.line l with settled := true })
  if (s.fillingSlot? l).isSome then raiseLine l .snapshotDone 0 0 0 g else g

theorem raiseLine_sessions (l : LineNo) (e : LineEvent) (ws : BitVec 64) (rs : BitVec 3) (a : Nat) (s : State) :
    (raiseLine l e ws rs a s).sessions = s.sessions := by
  obtain ⟨o, d, h, -⟩ := raiseLine_effect l e ws rs a s
  rw [h]
  rfl

theorem settledGranted_sessions (s : State) (l : LineNo) :
    (s.settledGranted l).sessions = (grantData (s.setLine l { s.line l with settled := true })).sessions := by
  unfold State.settledGranted
  simp only
  split
  · exact raiseLine_sessions _ _ _ _ _ _
  · rfl

theorem cutGranted_desk (s : State) (l : LineNo) :
    (grantData (s.setLine l { s.line l with settled := true })).SameDesk (s.cutGranted l) := by
  have field : ∀ {α : Type} (p : Line → α), p (s.line l).cutOff = p { s.line l with settled := true } → ∀ j,
      p ((s.setLine l (s.line l).cutOff).line j) = p ((s.setLine l { s.line l with settled := true }).line j) := by
    intro α p hp j
    by_cases hj : j = l
    · rw [hj, setLine_line_same, setLine_line_same, hp]
    · rw [setLine_line_ne _ _ hj, setLine_line_ne _ _ hj]
  exact State.SameDesk.grantData ((State.SameDesk.setLine s l _).symm.trans (.setLine s l _))
    (field Line.ring rfl) (field Line.settled rfl)

/-- An exit from LIVE makes the frames and grants the session of the settled line and of the slot it truncates. -/
theorem exitLive_desk (l : LineNo) (s : State) : (s.settledGranted l).SameDesk (exitLive l s) := by
  obtain ⟨v, e, hsum, hrec, -⟩ := exitLive_truncating l s
  have hdesk : (grantData (s.setLine l { s.line l with settled := true })).SameDesk (monitorExit l (s.cutGranted l)) := by
    rw [e]
    exact (cutGranted_desk s l).trans (.setLine _ l v)
  have hfill : (monitorExit l (s.cutGranted l)).fillingSlot? l = s.fillingSlot? l := fillingSlot?_congr (by
    rw [e, setLine_slots, State.cutGranted, grantData_slots, setLine_slots])
  rw [exitLive_eq]
  unfold truncateFor State.settledGranted
  rw [hfill]
  cases hk : s.fillingSlot? l with
  | none => exact hdesk
  | some k =>
    have hline : ((monitorExit l (s.cutGranted l)).slot k).line = l :=
      (fillingSlot?_first.mp (hfill.trans hk)).1.2
    simp only [completeSlot, raisePlain, Option.isSome_some, if_true, hline]
    refine State.SameDesk.raiseLine (hdesk.trans (.setSlot _ k _)) ?_ ?_ _ _ _ _ <;>
      rw [setSlot_line, e, setLine_line_same, grantData_line, setLine_line_same]
    · exact hsum
    · rw [hrec]

theorem exitLive_sessions (l : LineNo) (s : State) :
    (exitLive l s).sessions = (grantData (s.setLine l { s.line l with settled := true })).sessions :=
  (exitLive_desk l s).sessions.trans (settledGranted_sessions s l)

/-- The line that an exit from LIVE leaves, its floor state and waiting list kept. -/
theorem exitLive_floor (l : LineNo) (s : State) :
    ((exitLive l s).line l).floor.state = (s.line l).floor.state
      ∧ ((exitLive l s).line l).floor.waiting = (s.line l).floor.waiting := by
  obtain ⟨t, f, m, d, h, -, hf⟩ := exitLive_effect l s
  rw [h, told_line, setLine_line_same, hf]
  constructor <;> dsimp only <;> split <;> rfl

/-! ### LINE TEST -/

/-- A request whose own part makes no answer yet gives its place back (R18). -/
theorem serve_silent {k : RequestKind} {own : Request → State → Answer} (h : s.admits k rq rest) (hk : k ≠ .credit)
    (e : own rq (s.taken rq rest) = { reply := none, state := t }) : serve k own s = upGrant { t with heldPlaces := 0 } := by
  rw [serve_admitted own h hk, e]
  rfl

/-- LOOP entered with a test of at least one byte (R18). -/
theorem enterLoop_eq {x : LoopTest} {b : Byte} (hb : x.pattern[x.sent]? = some b) :
    enterLoop l x s = s.setLine l
      { s.line l with state := .loop, test := some x, tx := .pattern b (s.line l).record.framing } := by
  simp only [enterLoop, modLine_eq, LoopTest.transmit, hb]

/-- A pattern that a body holds has a first byte. -/
theorem pattern_head (h : s.admits .lineTest rq rest) (h1 : 1 ≤ numAt rq.body 1 1) :
    ∃ b, ((rq.body.drop 2).take (numAt rq.body 1 1))[0]? = some b := by
  obtain ⟨-, hv⟩ := body_holds h
  simp only [RequestKind.fixedBytes, RequestKind.variableBytes] at hv
  have hlen : 0 < ((rq.body.drop 2).take (numAt rq.body 1 1)).length := by
    simp only [List.length_take, List.length_drop]
    omega
  exact ⟨_, List.getElem?_eq_getElem hlen⟩

/-- Settles O35, by the state of the line. -/
theorem lineTestEntersLoop : Obligations.LineTestEntersLoop := by
  intro s rq rest l ha hl u v count pattern
  have hv : u.line l = v := taken_line s rq rest l
  have refused : ∀ {st : Status}, lineTest rq u = refuse .lineTest rq st u → st ≠ .malformed →
      exec .lineTest s = .next (upGrant (u.answered rq st (zeros 3))) := fun {st} h hst => by
    refine (congrArg Host.Outcome.next (serve_refuse ha (by decide) h)).trans ?_
    have hbody : u.refusedBody .lineTest rq st = zeros 3 := if_neg hst
    rw [hbody]
  have own : lineTest rq u =
      if count = 0 ∨ 16 < count then refuse .lineTest rq .outOfRange u
      else match v.state with
        | .live =>
          { reply := none
            state := enterLoop l (newTest rq .live (match v.current with | none => 0 | some r => r.rate) pattern)
              (exitLive l u) }
        | .off =>
          { reply := none, state := enterLoop l (newTest rq .off (u.rateAt v.record.fallbackIndex) pattern) u }
        | .queued | .measuring | .loop => refuse .lineTest rq .busy u
        | .dark => refuse .lineTest rq .notLive u := by
    rw [lineTest, onLine_of hl, hv]
    rfl
  refine ⟨fun h1 h2 hs => ?_, fun r h1 h2 hs hr => ?_, fun h1 h2 hs => ?_, fun h1 h2 hs => ?_, fun hc => ?_⟩
  · obtain ⟨b, hb⟩ := pattern_head ha h1
    refine ⟨b, hb, ?_⟩
    rw [if_neg (by omega), hs] at own
    refine (congrArg Host.Outcome.next (serve_silent ha (by decide) own)).trans ?_
    rw [enterLoop_eq (b := b) hb, hv, taken_rateAt]
    rfl
  · obtain ⟨b, hb⟩ := pattern_head ha h1
    rw [if_neg (by omega), hs, hr] at own
    obtain ⟨f, m, hline⟩ := exitLive_line l u
    obtain ⟨hfs, hfw⟩ := exitLive_floor l u
    have htrunc := exitLive_truncates l u
    have hsess := exitLive_sessions l u
    have hne := (State.OnlyLine.exitLive l u).line_ne
    rw [hv] at hline hfs hfw hsess
    rw [enterLoop_eq (b := b) hb] at own
    generalize exitLive l u = e at own hline hfs hfw htrunc hsess hne
    have hsame : ∀ w, State.line { e.setLine l w with heldPlaces := 0 } l = w := setLine_line_same e l
    refine ⟨_, b, newTest rq .live r.rate pattern, hb, congrArg Host.Outcome.next (serve_silent ha (by decide) own), rfl, ?_⟩
    rw [hsame, hline]
    rw [hline] at hfs hfw
    refine ⟨rfl, rfl, rfl, rfl, rfl, rfl, rfl, rfl, rfl, rfl, rfl, rfl, rfl, rfl, hfs, hfw, fun j hj => ?_, ?_, hsess⟩
    · exact (setLine_line_ne e _ hj).trans ((hne j hj).trans (taken_line s rq rest j))
    · refine truncates_congr (t := e) (taken_slots s rq rest).symm ?_ rfl ?_ htrunc
      · rw [hv]
      · rw [hsame, hline]
  · rw [if_neg (by omega)] at own
    refine refused (own.trans ?_) (by decide)
    rcases hs with h | h | h <;> rw [h]
  · rw [if_neg (by omega), hs] at own
    exact refused own (by decide)
  · rw [if_pos hc] at own
    exact refused own (by decide)

end Sys2Proof.Machine
end

section
/-! SUPPORT. What every way to OFF leaves, and LINE DISABLE. -/

namespace Sys2Proof.Machine

variable {s t r e : State} {rq : Request} {rest : List Frame} {l : LineNo} {reason : LostReason}

/-! ### The notice of a freed floor -/

/-- A floor freed with its list cleared, its line busy kept (R136). -/
def State.freed (s : State) (l : LineNo) : State :=
  s.setLine l { s.line l with floor := { (s.line l).floor with state := .free, waiting := [], idle := .stopped } }

theorem freed_floor (s : State) (l : LineNo) :
    ((s.freed l).line l).floor.state = .free ∧ ((s.freed l).line l).floor.waiting = [] := by
  rw [State.freed, setLine_line_same]
  exact ⟨rfl, rfl⟩

theorem freed_desk (s : State) (l : LineNo) : s.SameDesk (s.freed l) := .setLine s l _

/-- A notice tells of the floor's state and of its waiting list alone, beside the unit and the session. -/
theorem noticeFrame_congr {i : SessionNo} {o : Option LostReason} (h : s.SameDesk t)
    (hs : (t.line l).floor.state = (s.line l).floor.state) (hw : (t.line l).floor.waiting = (s.line l).floor.waiting) :
    t.noticeFrame l i o = s.noticeFrame l i o := by
  obtain ⟨hu, hn⟩ := h.unit
  simp only [State.noticeFrame, State.ownFrame, hs, hw, h.line_session, hu, hn]

theorem clearFloor_free (h : (s.line l).floor.state = .free) : clearFloor l reason s = s.freed l := by
  simp only [clearFloor, h]
  rfl

theorem clearFloor_noticed {i : SessionNo} (h : (s.line l).floor.state = .held i ∨ (s.line l).floor.state = .parked i) :
    clearFloor l reason s = placeNotice ((s.freed l).noticeFrame l i (some reason)) (s.freed l) := by
  rcases h with h | h <;> (simp only [clearFloor, h]; rfl)

/-! ### What an operation on lines leaves of the rest -/

theorem appendMark_desk (l : LineNo) (k : MarkKind) (a : Nat) (s : State) : s.SameDesk (appendMark l k a s) := by
  obtain ⟨ms, loss, e, -⟩ := appendMark_effect l k a s
  rw [e]
  exact .setLine s l _

theorem probeTake_desk (s : State) : s.SameDesk (probeTake s) := by
  rcases probeTake_effect s with ⟨h, -⟩ | ⟨l, rest, tx, ms, loss, m, -, -, h, -⟩ <;> rw [h]
  · exact .refl s
  · exact .of_eq rfl

theorem probeTake_slots (s : State) : (probeTake s).slots = s.slots := by
  rcases probeTake_effect s with ⟨h, -⟩ | ⟨l, rest, tx, ms, loss, m, -, -, h, -⟩ <;> rw [h]
  rfl

/-- The last steps of a way to OFF change nothing but the line. -/
theorem turnOff_desk (l : LineNo) (s : State) :
    ∃ w : Line, (clearFloor l .lineOff (s.setLine l w)).SameDesk (turnOff l s) ∧ w.floor = (s.line l).floor :=
  ⟨_, (State.SameDesk.setLine _ l _).trans (appendMark_desk l .lineOff 0 _), rfl⟩

/-- A way to OFF sends LOST to the holder or the parked session, and nothing else (R128, R136). -/
theorem turnOff_loses (h : r.SameDesk e) (hf : (e.line l).floor.state = (r.line l).floor.state) :
    (turnOff l e).losesFloor l .lineOff r := by
  obtain ⟨w, hd, hw⟩ := turnOff_desk l e
  have hstate : ((e.setLine l w).line l).floor.state = (r.line l).floor.state := by
    rw [setLine_line_same, hw, hf]
  have hfreed : (r.freed l).SameDesk ((e.setLine l w).freed l) :=
    ((freed_desk r l).symm.trans (h.trans (.setLine e l w))).trans (freed_desk _ l)
  refine ⟨fun hfree => ?_, fun i hi => ?_⟩
  · rw [clearFloor_free (hstate.trans hfree)] at hd
    exact (((freed_desk r l).trans hfreed).trans hd).framesAs
  · rw [clearFloor_noticed (i := i) (by rw [hstate]; exact hi)] at hd
    obtain ⟨h1, h2⟩ := freed_floor r l
    obtain ⟨k1, k2⟩ := freed_floor (e.setLine l w) l
    rw [noticeFrame_congr hfreed (k1.trans h1.symm) (k2.trans h2.symm)] at hd
    exact ((hfreed.placeNotice _).trans hd).framesAs

theorem turnOff_still (l : LineNo) (s : State) :
    (turnOff l s).sessions = s.sessions ∧ (turnOff l s).slots = s.slots
      ∧ ((turnOff l s).line l).summary = (s.line l).summary := by
  obtain ⟨ms, loss, hline⟩ := turnOff_line l s
  refine ⟨?_, ?_, by rw [hline]⟩ <;>
  · unfold turnOff
    obtain ⟨d, h, -⟩ := clearFloor_effect l .lineOff (s.modLine l fun u => { u with state := .off, test := none, tx := .idle })
    simp only [h]
    obtain ⟨ms, loss, h', -⟩ := appendMark_effect l .lineOff 0 (State.modLine (State.told (State.setLine
      (s.modLine l fun u => { u with state := .off, test := none, tx := .idle }) l _) d) l fun u =>
        u.mapPairs fun p => { p with hits := 0, holdoff := none })
    rw [h']
    rfl

theorem turnOff_keepsFrames (l : LineNo) (s : State) : s.KeepsFrames (turnOff l s) := by
  have hclear : ∀ w : State, w.KeepsFrames (clearFloor l .lineOff w) := fun w => by
    unfold clearFloor
    simp only
    split
    · exact .setLine w l _
    · exact (State.KeepsFrames.setLine w l _).trans (.noticeLost _ _ _ _)
    · exact (State.KeepsFrames.setLine w l _).trans (.noticeLost _ _ _ _)
  exact (((State.KeepsFrames.setLine s l _).trans (hclear _)).trans (.setLine _ l _)).trans (.appendMark l _ _ _)

/-! ### Lines that stopped -/

/-- The line `w` is `v` with nothing queued or held, no current rate and a QUIET monitor (R4). -/
structure Line.Stopped (v w : Line) : Prop where
  record : w.record = v.record
  counters : w.counters = v.counters
  ring : w.ring = v.ring
  pair : ∀ i, w.pair i = v.pair i
  injection : w.injection = []
  hold : w.hold = none
  current : w.current = none
  quiet : w.monitor.state = .quiet

theorem Line.stateLaw.stopped {v : Line} (h : v.stateLaw) (hs : v.state ≠ .live) : v.Stopped v := by
  obtain ⟨-, hcur, -, hstill, -⟩ := h
  obtain ⟨hq, hh, hm, -⟩ := hstill hs
  exact ⟨rfl, rfl, rfl, fun _ => rfl, hq, hh, by simpa [hs] using hcur, hm⟩

theorem exitLive_stopped (l : LineNo) (s : State) : (s.line l).Stopped ((exitLive l s).line l) := by
  obtain ⟨f, m, h⟩ := exitLive_line l s
  rw [h]
  exact ⟨rfl, rfl, rfl, fun _ => rfl, rfl, rfl, rfl, rfl⟩

/-- What a way to OFF leaves of a line that stopped (R6, R81, R136). -/
theorem turnOff_stopped {v : Line} (h : v.Stopped (e.line l)) :
    ((turnOff l e).line l).state = .off ∧ ((turnOff l e).line l).tx = .idle ∧ ((turnOff l e).line l).injection = []
      ∧ ((turnOff l e).line l).hold = none ∧ ((turnOff l e).line l).current = none ∧ ((turnOff l e).line l).test = none
      ∧ ((turnOff l e).line l).monitor.state = .quiet ∧ ((turnOff l e).line l).floor.state = .free
      ∧ ((turnOff l e).line l).floor.waiting = [] ∧ ((turnOff l e).line l).floor.idle = .stopped
      ∧ (∀ i, ((turnOff l e).line l).pair i = { v.pair i with hits := 0, holdoff := none })
      ∧ ((turnOff l e).line l).record = v.record ∧ ((turnOff l e).line l).counters = v.counters
      ∧ ((turnOff l e).line l).ring = v.ring
      ∧ ((turnOff l e).line l).marks.getLast? =
          some { offset := v.ring.newest, stamp := e.unitTime, kind := .lineOff, arg := 0 } := by
  have hpair : ∀ i, ((turnOff l e).line l).pair i = { v.pair i with hits := 0, holdoff := none } := fun i => by
    rw [turnOff_pair, h.pair]
  obtain ⟨ms, loss, hline⟩ := turnOff_line l e
  refine ⟨?_, ?_, ?_, ?_, ?_, ?_, ?_, ?_, ?_, ?_, hpair, ?_, ?_, ?_, ?_⟩ <;> rw [hline]
  exacts [h.injection, h.hold, h.current, h.quiet, h.record, h.counters, h.ring, by rw [List.getLast?_concat, h.ring]]

/-! ### LINE DISABLE by the state of the line -/

theorem lineDisable_of (h : s.admits .lineDisable rq rest) (hl : numAt rq.body 0 1 = l.val) :
    exec .lineDisable s = .next (upGrant ((disableLine l (s.taken rq rest)).answered rq .ok [])) :=
  congrArg _ (serve_answer h (by decide) (onLine_of hl))

theorem disableLine_off (h : (s.line l).state = .off) : disableLine l s = s := by simp only [disableLine, h]

theorem disableLine_queued (h : (s.line l).state = .queued) : disableLine l s = turnOff l (leaveProbe l s) := by
  simp only [disableLine, h]

theorem disableLine_measuring (h : (s.line l).state = .measuring) :
    disableLine l s = probeTake (turnOff l (endMeasurement l s)) := by
  simp only [disableLine, h]

theorem disableLine_live (h : (s.line l).state = .live) : disableLine l s = turnOff l (exitLive l s) := by
  simp only [disableLine, h]

theorem disableLine_dark (h : (s.line l).state = .dark) : disableLine l s = turnOff l s := by
  simp only [disableLine, h]

theorem disableLine_loop (h : (s.line l).state = .loop) : disableLine l s = turnOff l (abortTest l s) := by
  simp only [disableLine, h]

/-- What LINE DISABLE leaves beside the line itself: `t`, when its own part begins in `s` (R6, R101, R136). -/
structure State.Disabled (s : State) (l : LineNo) (t : State) : Prop where
  unqueued : l ∉ t.probeQueue
  sessions : t.sessions = (if (s.line l).state = .live then s.settledGranted l else s).sessions
  truncates : (s.line l).state = .live → s.truncates l t
  slots : (s.line l).state ≠ .live → t.slots = s.slots
  loses : t.losesFloor l .lineOff (if (s.line l).state = .live then s.settledGranted l else abortTest l s)
  others : (s.line l).state ≠ .measuring → t.engine = s.engine ∧ ∀ j, j ≠ l → t.line j = s.line j
  next : (s.line l).state = .measuring → t.engine.map (·.line) = s.probeQueue.head?
    ∧ ∀ j, j ≠ l → s.probeQueue.head? ≠ some j → t.line j = s.line j
  test : ∀ x, (s.line l).test = some x → t.holdsTest (s.testFrame x .aborted)

theorem abortTest_none (h : (s.line l).test = none) : abortTest l s = s := by simp only [abortTest, h]

theorem abortTest_some {x : LoopTest} (h : (s.line l).test = some x) :
    abortTest l s = placeTest (s.testFrame x .aborted) s := by
  simp only [abortTest, h]

/-- A line that is neither LIVE nor MEASURING, turned off in a state that differs from `u` in the probe queue. -/
theorem disabled_resting {q : List LineNo} (hlive : (s.line l).state ≠ .live) (hmeas : (s.line l).state ≠ .measuring)
    (hw : (s.line l).stateLaw) (hloop : (s.line l).state ≠ .loop) (hq : l ∉ q) :
    s.Disabled l (turnOff l { s with probeQueue := q }) := by
  have hn : (s.line l).test = none := by
    obtain ⟨ht, -⟩ := hw
    simpa [hloop] using ht
  obtain ⟨hs, hk, -⟩ := turnOff_still l { s with probeQueue := q }
  have ho := State.OnlyLine.turnOff l { s with probeQueue := q }
  refine ⟨ho.probeQueue ▸ hq, ?_, fun h => absurd h hlive, fun _ => hk, ?_, fun _ => ⟨ho.engine, ho.line_ne⟩,
    fun h => absurd h hmeas, fun x hx => ?_⟩
  · rw [if_neg hlive, hs]
  · rw [if_neg hlive, abortTest_none hn]
    exact turnOff_loses (.of_eq rfl) rfl
  · rw [hn] at hx
    cases hx

theorem disabled_loop (hs : (s.line l).state = .loop) (hq : l ∉ s.probeQueue) :
    s.Disabled l (turnOff l (abortTest l s)) := by
  have hlive : (s.line l).state ≠ .live := by rw [hs]; decide
  have ha := State.OnlyLine.abortTest l s
  have ho := ha.trans (State.OnlyLine.turnOff l (abortTest l s))
  obtain ⟨hsess, hslots, -⟩ := turnOff_still l (abortTest l s)
  have hstill : (abortTest l s).sessions = s.sessions ∧ (abortTest l s).slots = s.slots := by
    unfold abortTest
    split
    · exact ⟨rfl, rfl⟩
    · next x _ =>
      obtain ⟨rs, ws, tx, m, h⟩ := placeTest_effect (s.testFrame x .aborted) s
      rw [h]
      exact ⟨rfl, rfl⟩
  refine ⟨ho.probeQueue ▸ hq, ?_, fun h => absurd h hlive, fun _ => hslots.trans hstill.2, ?_,
    fun _ => ⟨ho.engine, ho.line_ne⟩, fun h => ?_, fun x hx => ?_⟩
  · rw [if_neg hlive, hsess, hstill.1]
  · rw [if_neg hlive]
    exact turnOff_loses (.refl _) rfl
  · rw [hs] at h
    cases h
  · rw [abortTest_some hx]
    exact (placeTest_holds _ s).kept (turnOff_keepsFrames l _)

theorem settledGranted_floor (s : State) (l : LineNo) : ((s.settledGranted l).line l).floor = (s.line l).floor := by
  unfold State.settledGranted
  simp only
  split
  · obtain ⟨o, d, h, -⟩ := raiseLine_effect l .snapshotDone 0 0 0 (grantData (s.setLine l { s.line l with settled := true }))
    rw [h, told_line, setLine_line_same, grantData_line, setLine_line_same]
  · rw [grantData_line, setLine_line_same]

theorem disabled_live (hs : (s.line l).state = .live) (hw : (s.line l).stateLaw) (hq : l ∉ s.probeQueue) :
    s.Disabled l (turnOff l (exitLive l s)) := by
  have hx := State.OnlyLine.exitLive l s
  have ho := hx.trans (State.OnlyLine.turnOff l (exitLive l s))
  obtain ⟨hsess, hslots, hsum⟩ := turnOff_still l (exitLive l s)
  have hn : (s.line l).test = none := by
    obtain ⟨ht, -⟩ := hw
    simpa [hs] using ht
  refine ⟨ho.probeQueue ▸ hq, ?_, fun _ => ?_, fun h => absurd hs h, ?_, fun _ => ⟨ho.engine, ho.line_ne⟩,
    fun h => ?_, fun x hx => ?_⟩
  · rw [if_pos hs, hsess, (exitLive_desk l s).sessions]
  · exact truncates_congr rfl rfl hslots (by rw [hsum]) (exitLive_truncates l s)
  · rw [if_pos hs]
    exact turnOff_loses (exitLive_desk l s) ((exitLive_floor l s).1.trans (by rw [settledGranted_floor]))
  · rw [hs] at h
    cases h
  · rw [hn] at hx
    cases hx

/-- What the idle engine then takes is the head of the queue, or nothing (R27). -/
theorem probeTake_next (he : s.engine = none) :
    (probeTake s).engine.map (·.line) = s.probeQueue.head?
      ∧ (∀ j, s.probeQueue.head? ≠ some j → (probeTake s).line j = s.line j)
      ∧ (probeTake s).probeQueue = s.probeQueue.tail := by
  cases hq : s.probeQueue with
  | nil =>
    have hstill : probeTake s = s := probeTake_ready fun _ => hq
    rw [hstill, he, hq]
    exact ⟨rfl, fun _ _ => rfl, rfl⟩
  | cons k rest =>
    obtain ⟨tx, ms, loss, n, m, e, hm, -⟩ := probeTake_takes he hq
    rw [e]
    exact ⟨congrArg some hm, fun j hj => setLine_line_ne s _ fun hk => hj (congrArg some hk.symm), rfl⟩

theorem endMeasurement_line (l : LineNo) (s : State) :
    (endMeasurement l s).line l = { s.line l with tx := .idle } := setLine_line_same s l _

theorem framesAs_trans {a b c : State} (h : a.framesAs b) (k : b.framesAs c) : a.framesAs c := by
  obtain ⟨h1, h2, h3, h4, h5, h6⟩ := h
  obtain ⟨k1, k2, k3, k4, k5, k6⟩ := k
  exact ⟨h1.trans k1, h2.trans k2, h3.trans k3, h4.trans k4, h5.trans k5, h6.trans k6⟩

theorem disabled_measuring (hs : (s.line l).state = .measuring) (hw : (s.line l).stateLaw) (hq : l ∉ s.probeQueue) :
    s.Disabled l (probeTake (turnOff l (endMeasurement l s)))
      ∧ (probeTake (turnOff l (endMeasurement l s))).line l = (turnOff l (endMeasurement l s)).line l := by
  have hlive : (s.line l).state ≠ .live := by rw [hs]; decide
  have hn : (s.line l).test = none := by
    obtain ⟨ht, -⟩ := hw
    simpa [hs] using ht
  have ho := State.OnlyLine.turnOff l (endMeasurement l s)
  have hqueue : (turnOff l (endMeasurement l s)).probeQueue = s.probeQueue := ho.probeQueue
  obtain ⟨hsess, hslots, -⟩ := turnOff_still l (endMeasurement l s)
  obtain ⟨hnext, hothers, htail⟩ := probeTake_next (s := turnOff l (endMeasurement l s)) ho.engine
  rw [hqueue] at hnext hothers htail
  have hloses : (turnOff l (endMeasurement l s)).losesFloor l .lineOff s :=
    turnOff_loses (.of_eq rfl) (by rw [endMeasurement_line])
  have hd := (probeTake_desk (turnOff l (endMeasurement l s))).framesAs
  refine ⟨⟨fun hm => hq ?_, ?_, fun h => absurd h hlive, fun _ => (probeTake_slots _).trans hslots, ?_,
    fun h => absurd hs h, fun _ => ⟨hnext, fun j hj hh => ?_⟩, fun x hx => ?_⟩, hothers l fun hh => hq ?_⟩
  · rw [htail] at hm
    exact List.mem_of_mem_tail hm
  · rw [if_neg hlive, (probeTake_desk _).sessions, hsess]
    rfl
  · rw [if_neg hlive, abortTest_none hn]
    exact ⟨fun h => framesAs_trans hd (hloses.1 h), fun i h => framesAs_trans hd (hloses.2 i h)⟩
  · rw [hothers j hh, ho.line_ne j hj]
    exact setLine_line_ne s _ hj
  · rw [hn] at hx
    cases hx
  · exact List.mem_of_mem_head? hh

/-- LINE DISABLE of a line that is not OFF: the line stops, and is turned off. -/
theorem disableLine_disabled (h : s.linesLaw) (hs : (s.line l).state ≠ .off) :
    ∃ e, (s.line l).Stopped (e.line l) ∧ e.unitTime = s.unitTime
      ∧ (disableLine l s).line l = (turnOff l e).line l ∧ s.Disabled l (disableLine l s) := by
  obtain ⟨hlaw, hnodup, hmem, -⟩ := h
  have hout : (s.line l).state ≠ .queued → l ∉ s.probeQueue := fun hn => mt (hmem l).mp hn
  cases hst : (s.line l).state with
  | off => exact absurd hst hs
  | queued =>
    rw [disableLine_queued hst]
    exact ⟨leaveProbe l s, (hlaw l).stopped (by simp [hst]), rfl, rfl,
      disabled_resting (by simp [hst]) (by simp [hst]) (hlaw l) (by simp [hst])
        (fun hm => (List.Nodup.mem_erase_iff hnodup).mp hm |>.1 rfl)⟩
  | measuring =>
    rw [disableLine_measuring hst]
    obtain ⟨hd, hline⟩ := disabled_measuring hst (hlaw l) (hout (by simp [hst]))
    refine ⟨endMeasurement l s, ?_, rfl, hline, hd⟩
    obtain ⟨h1, h2, h3, h4, h5, h6, h7, h8⟩ := (hlaw l).stopped (by simp [hst])
    rw [endMeasurement_line]
    exact ⟨h1, h2, h3, h4, h5, h6, h7, h8⟩
  | live =>
    rw [disableLine_live hst]
    exact ⟨exitLive l s, exitLive_stopped l s, (State.OnlyLine.exitLive l s).unitTime, rfl,
      disabled_live hst (hlaw l) (hout (by simp [hst]))⟩
  | dark =>
    rw [disableLine_dark hst]
    exact ⟨s, (hlaw l).stopped (by simp [hst]), rfl, rfl,
      disabled_resting (q := s.probeQueue) (by simp [hst]) (by simp [hst]) (hlaw l) (by simp [hst]) (hout (by simp [hst]))⟩
  | loop =>
    rw [disableLine_loop hst]
    have hline : (abortTest l s).line l = s.line l := by
      unfold abortTest
      split
      · rfl
      · exact placeTest_line _ s l
    refine ⟨abortTest l s, ?_, (State.OnlyLine.abortTest l s).unitTime, rfl, disabled_loop hst (hout (by simp [hst]))⟩
    rw [hline]
    exact (hlaw l).stopped (by simp [hst])

/-- The laws of lines look at nothing that taking a request changes. -/
theorem linesLaw_taken (h : s.linesLaw) : (s.taken rq rest).linesLaw := by
  unfold State.linesLaw State.probeLaw
  simp only [taken_line, taken_probeQueue, taken_engine, taken_begun]
  exact h

theorem testFrame_taken (s : State) (rq : Request) (rest : List Frame) (x : LoopTest) (st : Status) :
    (s.taken rq rest).testFrame x st = s.testFrame x st := by
  simp only [State.testFrame, State.ownFrame, taken_unit, taken_unitNumber]

/-- Settles O33: the line that every way to OFF leaves, and what the way from its state does beside. -/
theorem lineDisableTurnsOff : Obligations.LineDisableTurnsOff := by
  intro s rq rest l ha hl hlaw
  have hv : (s.taken rq rest).line l = s.line l := taken_line s rq rest l
  refine ⟨fun hs => ?_, fun hs => ?_⟩
  · rw [lineDisable_of ha hl, disableLine_off (hv ▸ hs)]
  obtain ⟨e, hstop, htime, hline, hd⟩ := disableLine_disabled (l := l) (linesLaw_taken (rq := rq) (rest := rest) hlaw) (hv ▸ hs)
  refine ⟨_, lineDisable_of ha hl, ?_⟩
  generalize disableLine l (s.taken rq rest) = t at hline hd
  rw [hv] at hstop
  obtain ⟨h1, h2, h3, h4, h5, h6, h7, h8, h9, h10, h11, h12, h13, h14, h15⟩ := turnOff_stopped hstop
  rw [htime, taken_unitTime] at h15
  rw [hline]
  obtain ⟨hun, hsess, htrunc, hslots, hlose, hoth, hnext, htest⟩ := hd
  have hfill : (s.taken rq rest).fillingSlot? l = s.fillingSlot? l := fillingSlot?_congr (taken_slots s rq rest)
  have habort : abortTest l (s.taken rq rest) = match (s.line l).test with
      | none => s.taken rq rest
      | some x => placeTest (s.testFrame x .aborted) (s.taken rq rest) := by
    cases hx : (s.line l).test with
    | none => exact abortTest_none (by rw [hv, hx])
    | some x =>
      rw [abortTest_some (by rw [hv, hx])]
      simp only [testFrame_taken]
  rw [habort] at hlose
  simp only [hv, taken_engine, taken_line, taken_probeQueue, State.settledGranted, hfill] at hlose hoth hnext
  refine ⟨h1, h2, h3, h4, h5, h6, h7, h8, h9, h10, h11, h12, h13, h14, h15, hun, ?_, fun h => ?_, fun h => ?_, hlose,
    hoth, hnext, fun x hx => ?_⟩
  · rw [hsess, hv]
    split
    · rw [settledGranted_sessions, hv]
    · rfl
  · exact truncates_congr (taken_slots s rq rest).symm (by rw [hv]) rfl rfl (htrunc (hv ▸ h))
  · rw [hslots (hv ▸ h), taken_slots]
  · exact testFrame_taken s rq rest x .aborted ▸ htest x (hv ▸ hx)

end Sys2Proof.Machine
end

section
/-! SUPPORT. LINE SET: a park mode field that is neither 0 nor 1 is read as no parking and not refused. In
`ParkMode.ofCode` the last branch, `none`, is the park mode of that name, so no number is outside the field's set. -/

namespace Sys2Proof.Machine

/-- A rate table of sixteen entries of 9600 bit/s. -/
def fullTable : Vector Nat 16 := Vector.replicate 16 9600

/-- A line record block whose fields are of their sets but for the park mode, which is 2: FIXED at index 0, fallback index
0, eight data bits without parity and one stop bit, no probe, 16 edges, a window of 1 s, one attempt, HOLD, no gaps, no
breaks, no idle time, a ring of 1 KiB, no snapshots, no ALERTs. -/
def parkTwoBlock : List Byte :=
  [0, 0, 0, 8, 0, 1, 0, 16, 1, 1, 0, 0, 0, 0, 0, 0, 0, 0, 0, 2, 1, 0, 0, 0, 0, 0, 0, 0, 0, 0, 0, 0]

/-- The reader accepts the block, with park mode 0 in its place. -/
theorem readLineRecord_parkTwo :
    (readLineRecord fullTable parkTwoBlock).map (·.val.parkMode) = some ParkMode.none := by decide

/-- Refutes O36: a LINE SET whose park mode field is 2, outside its set of 0 and 1, is not refused. -/
theorem not_lineSetApplies : ¬ Obligations.LineSetApplies := by
  intro h
  obtain ⟨hreader, -⟩ := h
  have hpark : ¬ numAt parkTwoBlock 19 1 ≤ 1 := by decide
  obtain ⟨hrefused, -⟩ := hreader fullTable parkTwoBlock
  have hnone : readLineRecord fullTable parkTwoBlock = none :=
    hrefused (.inl fun ⟨_, _, _, _, _, _, _, _, _, _, _, hp, _⟩ => hpark hp)
  have haccepted := readLineRecord_parkTwo
  rw [hnone] at haccepted
  cases haccepted

end Sys2Proof.Machine
end

section
/-! SUPPORT. Lines without marks, each started by its record, in ascending order (R2, R40): what the Line Units tell the Alert
Unit, and what each line becomes. -/

namespace Sys2Proof.Machine

variable {s t w : State} {l : LineNo}

/-! ### What lines tell -/

/-- Between two states lines, slots and the probe queue changed, and events of lines were told: ALERTs placed behind what
was placed, sent only on an idle transmitter, or lost; without a collector nothing is told (R149). -/
structure State.Tells (s t : State) : Prop where
  rest : t = { s with
    lines := t.lines, slots := t.slots, probeQueue := t.probeQueue, unitSummary := t.unitSummary, responses := t.responses
    counters := { s.counters with responseDrops := t.counters.responseDrops }, upTx := t.upTx
    lastMember := t.lastMember }
  placed : s.responses <+: t.responses
  busy : s.upFree = false → t.upTx = s.upTx ∧ t.lastMember = s.lastMember
  events : ∀ e, s.unitSummary.has e = true → t.unitSummary.has e = true
  silent : s.unit.collector = 0 → t.unitSummary = s.unitSummary ∧ t.responses = s.responses ∧ t.counters = s.counters
    ∧ t.upTx = s.upTx ∧ t.lastMember = s.lastMember

namespace State.Tells

/-- States that agree in all but lines, slots and the probe queue. -/
theorem of_eq {ls : Vector Line 24} {ks : Vector Slot 8} {q : List LineNo}
    (h : t = { s with lines := ls, slots := ks, probeQueue := q }) : s.Tells t := by
  subst h
  exact ⟨rfl, List.prefix_refl _, fun _ => ⟨rfl, rfl⟩, fun _ he => he, fun _ => ⟨rfl, rfl, rfl, rfl, rfl⟩⟩

theorem refl (s : State) : s.Tells s := of_eq rfl

theorem setLine (s : State) (l : LineNo) (v : Line) : s.Tells (s.setLine l v) := of_eq rfl

theorem same (h : s.Tells t) : t.unit = s.unit ∧ t.unitTime = s.unitTime ∧ t.rates = s.rates ∧ t.engine = s.engine
    ∧ t.begun = s.begun ∧ t.waitingTests = s.waitingTests := by
  rw [h.rest]
  exact ⟨rfl, rfl, rfl, rfl, rfl, rfl⟩

theorem upFree (h : s.Tells t) (hb : s.upFree = false) : t.upFree = false := by
  obtain ⟨hu, hm⟩ := h.busy hb
  rw [← hb, h.rest, State.upFree, State.upFree, hu]

theorem trans (h : s.Tells t) (k : t.Tells w) : s.Tells w := by
  obtain ⟨hunit, -⟩ := h.same
  refine ⟨?_, h.placed.trans k.placed, fun hb => ?_, fun e he => k.events e (h.events e he), fun hc => ?_⟩
  · have hk := k.rest
    have hh := h.rest
    generalize w.lines = ls at hk ⊢
    generalize w.slots = ks at hk ⊢
    generalize w.probeQueue = q at hk ⊢
    generalize w.unitSummary = us at hk ⊢
    generalize w.responses = rs at hk ⊢
    generalize w.counters.responseDrops = n at hk ⊢
    generalize w.upTx = tx at hk ⊢
    generalize w.lastMember = lm at hk ⊢
    rw [hk, hh]
  · obtain ⟨h1, h2⟩ := h.busy hb
    obtain ⟨k1, k2⟩ := k.busy (h.upFree hb)
    exact ⟨k1.trans h1, k2.trans h2⟩
  · obtain ⟨h1, h2, h3, h4, h5⟩ := h.silent hc
    obtain ⟨k1, k2, k3, k4, k5⟩ := k.silent (hunit ▸ hc)
    exact ⟨k1.trans h1, k2.trans h2, k3.trans h3, k4.trans h4, k5.trans h5⟩

theorem told {d : Told} (hw : d.within s) (he : ∀ e, s.unitSummary.has e = true → d.summary.has e = true)
    (hc : s.unit.collector = 0 → d = s.untold) : s.Tells (s.told d) := by
  refine ⟨rfl, List.prefix_append _ _, fun hb => ?_, he, fun h => ?_⟩
  · rcases hw.2 with h | h
    · exact h
    · rw [hb] at h
      cases h
  · rw [hc h]
    exact ⟨rfl, List.append_nil _, rfl, rfl, rfl⟩

end State.Tells

/-- Without a collector an event joins the line's summary and nothing else happens (R149). -/
theorem raiseLine_silent (h : s.unit.collector = 0) (e : LineEvent) (ws : BitVec 64) (rs : BitVec 3) (a : Nat) :
    raiseLine l e ws rs a s = s.setLine l
      { s.line l with
        summary :=
          { kinds := (s.line l).summary.kinds ||| (1#9 <<< e.bit), watches := (s.line l).summary.watches ||| ws
            reasons := (s.line l).summary.reasons ||| rs
            outcome := if (s.line l).summary.kinds ≠ 0 then (s.line l).summary.outcome else .none } } := by
  unfold raiseLine
  by_cases hk : (s.line l).summary.kinds ≠ 0
  · simp only [if_pos hk, modLine_eq]
  · simp only [if_neg hk, h, true_or, if_true, modLine_eq]

/-- An event of a line: what its summary becomes, and what is told. -/
theorem raiseLine_tells (l : LineNo) (e : LineEvent) (s : State) :
    ∃ m : LineSummary, s.Tells (raisePlain l e s)
      ∧ (∃ d, raisePlain l e s = (s.setLine l { s.line l with summary := m }).told d)
      ∧ m.kinds = (s.line l).summary.kinds ||| (1#9 <<< e.bit)
      ∧ (s.unit.collector = 0 → (s.line l).summary = .reset →
          m = { kinds := 1#9 <<< e.bit, watches := 0, reasons := 0, outcome := .none }) := by
  by_cases hc : s.unit.collector = 0
  · have h := raiseLine_silent (l := l) hc e 0 0 0
    refine ⟨_, ?_, ⟨_, h.trans (told_nothing _).symm⟩, rfl, fun _ hr => ?_⟩
    · unfold raisePlain
      rw [h]
      exact .setLine s l _
    · rw [hr]
      simp [LineSummary.reset]
  · obtain ⟨o, d, h, -, hev, -, -, hw⟩ := raiseLine_effect l e 0 0 0 s
    refine ⟨_, ?_, ⟨d, h⟩, rfl, fun h => absurd h hc⟩
    unfold raisePlain
    rw [h]
    exact (State.Tells.setLine s l _).trans (.told hw hev fun h => absurd h hc)

/-! ### One line starts -/

/-- A line as its record starts it, all else of it at rest (R2, R3, R25). -/
def State.startedLine (s : State) (u : Line) (m : LineSummary) : Line :=
  match u.record.policy with
  | .fixed =>
    { u with
      state := .live, current := some (s.takeRate u.record.fixedIndex), last := some (s.takeRate u.record.fixedIndex)
      matchWindow := [], monitor := .seeded, streak := 0, gap := none, tx := .idle, rx := receiverAt u.rxd, test := none
      marks := [{ offset := u.ring.newest, stamp := s.unitTime, kind := .rateSet, arg := u.record.fixedIndex.val }]
      summary := m }
  | .auto => { u with state := .queued, attempts := 0, test := none, summary := m }

/-- The event kinds that the start of a line adds: RATE_SET under FIXED. -/
def RatePolicy.startKinds : RatePolicy → BitVec 9
  | .fixed => 8#9
  | .auto => 0

theorem appendMark_first (h : (s.line l).marks = []) (k : MarkKind) (a : Nat) :
    appendMark l k a s = s.setLine l
      { s.line l with marks := [{ offset := (s.line l).ring.newest, stamp := s.unitTime, kind := k, arg := a }] } := by
  unfold appendMark
  rw [modLine_eq, h]
  rfl

/-- An entry into LIVE of a line without marks, before its event is raised. -/
theorem enterLive_first (r : TakenRate) (h : (s.line l).marks = []) :
    ∃ v : Line, v =
        { s.line l with
          state := .live, current := some r, last := some r, matchWindow := [], monitor := .seeded, streak := 0
          gap := none, tx := .idle, rx := receiverAt (s.line l).rxd, test := none
          marks := [{ offset := (s.line l).ring.newest, stamp := s.unitTime, kind := .rateSet, arg := r.index.val }] }
      ∧ v.summary = (s.line l).summary
      ∧ enterLive l r s = raisePlain l .rateSet (s.setLine l v) := by
  refine ⟨_, rfl, rfl, ?_⟩
  unfold enterLive
  rw [modLine_eq, appendMark_first (by rw [setLine_line_same]; exact h), setLine_line_same, setLine_setLine]
  rfl

theorem startedLine_congr (hr : t.rates = s.rates) (ht : t.unitTime = s.unitTime) (u : Line) (m : LineSummary) :
    t.startedLine u m = s.startedLine u m := by
  unfold State.startedLine State.takeRate State.rateAt
  rw [hr, ht]

/-- A line without marks, started by its record. -/
theorem startByRecord_tells (h : (s.line l).marks = []) :
    ∃ m : LineSummary, s.Tells (startByRecord l s) ∧ (startByRecord l s).line l = s.startedLine (s.line l) m
      ∧ m.kinds = (s.line l).summary.kinds ||| (s.line l).record.policy.startKinds
      ∧ (s.unit.collector = 0 → (s.line l).summary = .reset →
          m = { kinds := (s.line l).record.policy.startKinds, watches := 0, reasons := 0, outcome := .none })
      ∧ (startByRecord l s).probeQueue =
          s.probeQueue ++ if (s.line l).record.policy = .auto then [l] else [] := by
  cases hp : (s.line l).record.policy with
  | fixed =>
    rw [startByRecord_fixed hp]
    obtain ⟨v, hv, hsum, hstart⟩ := enterLive_first (s.takeRate (s.line l).record.fixedIndex) h
    rw [hstart]
    obtain ⟨m, ht, ⟨d, e⟩, hk, hs⟩ := raiseLine_tells l .rateSet (s.setLine l v)
    rw [setLine_line_same] at e hk hs
    rw [hsum] at hk hs
    refine ⟨m, (State.Tells.setLine s l v).trans ht, ?_, hk, hs, ?_⟩
    · rw [e, told_line, setLine_line_same, State.startedLine, hp, hv]
      rfl
    · rw [e]
      simp
  | auto =>
    rw [startByRecord_auto hp]
    refine ⟨(s.line l).summary, .of_eq (joinProbe_eq l s), ?_, ?_, fun _ hr => hr, ?_⟩
    · rw [joinProbe_line, State.startedLine, hp]
    · exact (BitVec.or_zero ..).symm
    · rw [joinProbe_eq]
      rfl

end Sys2Proof.Machine
end

section
/-! SUPPORT. All lines start, each by its record, and the engine takes the first that waits for it (R2, R27, R40). -/

namespace Sys2Proof.Machine

variable {s t w : State} {l : LineNo}

/-- A line of `t` started as its record in `s` says, with the event that this makes in its summary. -/
def State.startsLine (s t : State) (l : LineNo) : Prop :=
  ∃ m : LineSummary, t.line l = s.startedLine (s.line l) m
    ∧ m.kinds = (s.line l).summary.kinds ||| (s.line l).record.policy.startKinds
    ∧ (s.unit.collector = 0 → (s.line l).summary = .reset →
        m = { kinds := (s.line l).record.policy.startKinds, watches := 0, reasons := 0, outcome := .none })

/-- A line that waits for the engine once it has started. -/
def State.autoLine (s : State) (l : LineNo) : Bool := decide ((s.line l).record.policy = .auto)

theorem startByRecord_slots (l : LineNo) (s : State) : (startByRecord l s).slots = s.slots := by
  unfold startByRecord
  split
  · obtain ⟨ms, loss, m, d, h, -⟩ := enterLive_effect l (s.takeRate (s.line l).record.fixedIndex) s
    rw [h, told_slots, setLine_slots]
  · rfl

/-- Lines without marks, each started once. -/
theorem startEach_tells {ls : List LineNo} (hd : ls.Nodup) (h : ∀ l ∈ ls, (s.line l).marks = []) :
    let t := ls.foldl (fun t l => startByRecord l t) s
    s.Tells t ∧ (∀ l ∈ ls, s.startsLine t l) ∧ (∀ l, l ∉ ls → t.line l = s.line l) ∧ t.slots = s.slots
      ∧ t.probeQueue = s.probeQueue ++ ls.filter s.autoLine := by
  induction ls generalizing s with
  | nil => exact ⟨.refl s, nofun, fun _ _ => rfl, rfl, (List.append_nil _).symm⟩
  | cons l ls ih =>
    obtain ⟨hnot, hd⟩ := List.nodup_cons.mp hd
    obtain ⟨m, htell, hline, hkinds, hsilent, hqueue⟩ := startByRecord_tells (h l List.mem_cons_self)
    have hne : ∀ j, j ≠ l → (startByRecord l s).line j = s.line j := fun j hj => startByRecord_line_ne hj
    have hin : ∀ j ∈ ls, (startByRecord l s).line j = s.line j := fun j hj => hne j fun e => hnot (e ▸ hj)
    obtain ⟨kt, kl, ko, ks, kq⟩ := ih hd fun j hj => by rw [hin j hj]; exact h j (List.mem_cons_of_mem _ hj)
    obtain ⟨hunit, htime, hrates, -⟩ := htell.same
    refine ⟨htell.trans kt, fun j hj => ?_, fun j hj => ?_, ks.trans ?_, kq.trans ?_⟩
    · rcases List.mem_cons.mp hj with rfl | hj
      · exact ⟨m, (ko _ hnot).trans hline, hkinds, hsilent⟩
      · obtain ⟨m', hl', hk', hs'⟩ := kl j hj
        rw [hin j hj, startedLine_congr hrates htime] at hl'
        rw [hin j hj] at hk' hs'
        rw [hunit] at hs'
        exact ⟨m', hl', hk', hs'⟩
    · obtain ⟨hjl, hj⟩ := not_or.mp (mt List.mem_cons.mpr hj)
      rw [List.foldl_cons, ko j hj, hne j hjl]
    · exact startByRecord_slots l s
    · have hauto : ls.filter (startByRecord l s).autoLine = ls.filter s.autoLine :=
        List.filter_congr fun j hj => by rw [State.autoLine, hin j hj, State.autoLine]
      rw [hauto, hqueue, List.append_assoc, List.filter_cons, State.autoLine]
      congr 1
      by_cases hp : (s.line l).record.policy = .auto <;> simp [hp]

/-! ### The engine -/

/-- The measurement that the engine begins with a line (R27). -/
def State.firstMeasurement (s : State) (l : LineNo) : Measurement :=
  let r := (s.line l).record
  { number := s.begun, line := l, probe := r.probe, edges := r.edges, window := r.window, framing := r.framing,
    start := s.unitTime, edgeCount := 0, pulse := 0, phase := 0, narrowest := none, elapsed := 0,
    windowLeft := r.window.seconds * 1000 }

/-- A line without marks that the engine takes: its record, and the summary it has so far (R27, R29). -/
def State.measuredLine (s : State) (u : Line) : Line :=
  { u with
    state := .measuring
    tx := if u.record.probe = .cr then .probe u.record.framing (s.rateAt u.record.fallbackIndex) else .idle
    marks := [{ offset := u.ring.newest, stamp := s.unitTime, kind := .measureBegin, arg := 0 }] }

theorem probeTake_first {rest : List LineNo} (he : s.engine = none) (hq : s.probeQueue = l :: rest)
    (hm : (s.line l).marks = []) :
    probeTake s = { s.setLine l (s.measuredLine (s.line l)) with
      probeQueue := rest, begun := s.begun + 1, engine := some (s.firstMeasurement l) } := by
  have key : ∀ (t : State) (v : Line), t = s.setLine l v →
      ({ t with probeQueue := rest, begun := s.begun + 1, engine := some (s.firstMeasurement l) } : State)
        = { s.setLine l v with probeQueue := rest, begun := s.begun + 1, engine := some (s.firstMeasurement l) } := by
    rintro _ _ rfl
    rfl
  unfold probeTake
  simp only [he, hq]
  refine key _ _ ?_
  rw [modLine_eq, appendMark_first (by rw [setLine_line_same]; exact hm), setLine_line_same, setLine_setLine]
  unfold State.measuredLine
  cases (s.line l).record.probe <;> rfl

/-! ### All lines -/

/-- The lines that wait for the engine once all have started, in their order. -/
def State.autoLines (s : State) : List LineNo := (List.finRange 24).filter s.autoLine

theorem mem_autoLines : l ∈ s.autoLines ↔ (s.line l).record.policy = .auto := by
  simp [State.autoLines, State.autoLine]

/-- What one line is after all have started: `m` is its summary. -/
def State.lineStarted (s : State) (l : LineNo) (m : LineSummary) : Line :=
  if s.autoLines.head? = some l then s.measuredLine (s.startedLine (s.line l) m) else s.startedLine (s.line l) m

/-- A part whose lines have no marks and whose engine is idle, after all lines have started. -/
theorem startLines_state (hm : ∀ l, (s.line l).marks = []) (hq : s.probeQueue = []) (he : s.engine = none) :
    ∃ t, s.Tells t ∧ t.slots = s.slots
      ∧ startLines s =
        { t with
          lines := (startLines s).lines, probeQueue := s.autoLines.tail
          begun := s.begun + (if s.autoLines = [] then 0 else 1), engine := s.autoLines.head?.map s.firstMeasurement }
      ∧ ∀ l, ∃ m : LineSummary, (startLines s).line l = s.lineStarted l m
        ∧ m.kinds = (s.line l).summary.kinds ||| (s.line l).record.policy.startKinds
        ∧ (s.unit.collector = 0 → (s.line l).summary = .reset →
            m = { kinds := (s.line l).record.policy.startKinds, watches := 0, reasons := 0, outcome := .none }) := by
  obtain ⟨ht, hl, -, hs, hqueue⟩ := startEach_tells (s := s) (List.nodup_finRange 24) fun l _ => hm l
  unfold startLines State.forLines
  generalize (List.finRange 24).foldl (fun t l => startByRecord l t) s = t at ht hl hs hqueue ⊢
  rw [hq, List.nil_append] at hqueue
  obtain ⟨-, htime, hrates, hengine, hbegun, -⟩ := ht.same
  refine ⟨t, ht, hs, ?_⟩
  change t.probeQueue = s.autoLines at hqueue
  cases ha : s.autoLines with
  | nil =>
    have hstill : probeTake t = t := probeTake_ready fun _ => hqueue.trans ha
    rw [hstill]
    refine ⟨?_, fun l => ?_⟩
    · have same : ∀ q n e, q = t.probeQueue → n = t.begun → e = t.engine →
          t = { t with probeQueue := q, begun := n, engine := e } := by
        rintro _ _ _ rfl rfl rfl
        rfl
      exact same _ _ _ (hqueue.trans ha).symm hbegun.symm (hengine.trans he).symm
    · obtain ⟨m, hline, hk, hsil⟩ := hl l (List.mem_finRange l)
      refine ⟨m, ?_, hk, hsil⟩
      rw [State.lineStarted, ha]
      exact hline
  | cons a rest =>
    have hauto : (s.line a).record.policy = .auto := mem_autoLines.mp (ha ▸ List.mem_cons_self)
    obtain ⟨ma, hline, -⟩ := hl a (List.mem_finRange a)
    have hfirst : t.line a = { s.line a with state := .queued, attempts := 0, test := none, summary := ma } := by
      rw [hline, State.startedLine, hauto]
    have htake := probeTake_first (s := t) (hengine.trans he) (hqueue.trans ha) (by rw [hfirst]; exact hm a)
    have hmeas : t.measuredLine (t.line a) = s.measuredLine (t.line a) := by
      unfold State.measuredLine State.rateAt
      rw [htime, hrates]
    have hbegin : t.firstMeasurement a = s.firstMeasurement a := by
      unfold State.firstMeasurement
      rw [hfirst, hbegun, htime]
    rw [hmeas, hbegin] at htake
    refine ⟨?_, fun l => ?_⟩
    · rw [htake, hbegun]
      rfl
    · obtain ⟨m, hlineOf, hk, hsil⟩ := hl l (List.mem_finRange l)
      refine ⟨m, ?_, hk, hsil⟩
      rw [htake, State.lineStarted, ha, List.head?_cons]
      by_cases hla : l = a
      · subst hla
        rw [if_pos rfl, ← hlineOf]
        exact setLine_line_same t l _
      · rw [if_neg fun h => hla (Option.some.inj h).symm]
        exact (setLine_line_ne t _ hla).trans hlineOf

/-- What a blank line is after all have started, field by field (R2, R40, R58, R60, R94, R146). -/
theorem lineStarted_blank {r : LineRecord} {p : MonitorParams} {x : Level} {m₀ : LineSummary}
    (h : s.line l = blankLine r p x m₀) (m : LineSummary) :
    s.lineStarted l m =
      let fixed : Bool := decide (r.policy = .fixed)
      let first : Bool := decide (s.autoLines.head? = some l)
      let rate : TakenRate := { index := r.fixedIndex, rate := s.rateAt r.fixedIndex }
      { record := r
        state := if fixed then .live else if first then .measuring else .queued
        current := if fixed then some rate else none
        last := if fixed then some rate else none
        counters :=
          { bytesCaptured := 0, parityErrors := 0, framingErrors := 0, breaksIn := 0, breaksOut := 0, bytesTyped := 0
            bytesTransmitted := 0 }
        injection := [], hold := none, gap := none
        tx := if first ∧ r.probe = .cr then .probe r.framing (s.rateAt r.fallbackIndex) else .idle
        rx := if fixed ∧ x = .space then .awaitMark else .waiting
        rxd := x
        streak := 0, attempts := 0, test := none, ring := { oldest := 0, newest := 0, bytes := [] }
        marks :=
          if fixed then [{ offset := 0, stamp := s.unitTime, kind := .rateSet, arg := r.fixedIndex.val }]
          else if first then [{ offset := 0, stamp := s.unitTime, kind := .measureBegin, arg := 0 }]
          else []
        markLoss := 0
        monitor :=
          { state := .quiet, fast := 0, long := 0, count := 0, seedPending := fixed, burstLeft := none
            sampleLeft := if fixed then some 100 else none, chars := 0, errors := 0 }
        params := p
        matchWindow := [], watch := Vector.replicate 64 { hits := 0, holdoff := none, fires := 0 }
        settled := true, gather := none
        floor := { state := .free, waiting := [], idle := .stopped, busy := false }
        summary := m } := by
  have hrec : (s.line l).record = r := by rw [h]; rfl
  cases hp : r.policy with
  | fixed =>
    have hfirst : s.autoLines.head? ≠ some l := fun hh => by
      have hauto := mem_autoLines.mp (List.mem_of_mem_head? hh)
      rw [hrec, hp] at hauto
      cases hauto
    have hstart : s.startedLine (blankLine r p x m₀) m =
        { blankLine r p x m₀ with
          state := .live, current := some (s.takeRate r.fixedIndex), last := some (s.takeRate r.fixedIndex)
          monitor := .seeded, rx := receiverAt x, summary := m
          marks := [{ offset := 0, stamp := s.unitTime, kind := .rateSet, arg := r.fixedIndex.val }] } := by
      have hblank : (blankLine r p x m₀).record.policy = .fixed := hp
      rw [State.startedLine, hblank]
      rfl
    rw [State.lineStarted, if_neg hfirst, h, hstart]
    simp only [hfirst, decide_true, decide_false, if_true, Bool.false_eq_true, false_and, if_false, true_and]
    cases x <;> rfl
  | auto =>
    have hstart : s.startedLine (blankLine r p x m₀) m = { blankLine r p x m₀ with state := .queued, summary := m } := by
      have hblank : (blankLine r p x m₀).record.policy = .auto := hp
      rw [State.startedLine, hblank]
      rfl
    rw [State.lineStarted, h, hstart]
    by_cases hfirst : s.autoLines.head? = some l
    · rw [if_pos hfirst]
      simp only [hfirst, decide_true, reduceCtorEq, decide_false, if_true, Bool.false_eq_true, false_and, if_false, true_and]
      rfl
    · rw [if_neg hfirst]
      simp only [hfirst, reduceCtorEq, decide_false, Bool.false_eq_true, false_and, if_false]
      rfl

end Sys2Proof.Machine
end

section
/-! SUPPORT. POWER_ON: the whole state it leaves. -/

namespace Sys2Proof.Machine

variable {s : State} {l : LineNo}

/-- The part at power-on before its lines start: RESET_DONE is in the unit summary (R153). -/
def State.poweredDone (s : State) (straps : Straps) : State :=
  { powered straps s with unitSummary := { kinds := 1#4, outcome := .none } }

/-- Without a collector RESET_DONE is sent to nobody (R149, R164). -/
theorem poweredDone_eq (straps : Straps) (s : State) : raiseUnit .resetDone (powered straps s) = s.poweredDone straps := by
  have hk : ¬ (powered straps s).unitSummary.kinds ≠ 0 := by simp [powered]
  have hc : (powered straps s).unit.collector = 0 := rfl
  unfold raiseUnit
  simp only [if_neg hk, if_pos hc]
  have hkinds : (powered straps s).unitSummary.kinds ||| 1#4 <<< UnitEvent.resetDone.bit = 1#4 := by
    show 0#4 ||| 1#4 <<< UnitEvent.resetDone.bit = 1#4
    decide
  rw [hkinds, State.poweredDone]

theorem unitSummary_line (s : State) (m : UnitSummary) (l : LineNo) : State.line { s with unitSummary := m } l = s.line l :=
  rfl

/-- Without a collector a part's lines start in silence. -/
theorem State.Tells.silent_eq {t : State} (h : s.Tells t) (hc : s.unit.collector = 0) :
    t = { s with lines := t.lines, slots := t.slots, probeQueue := t.probeQueue } := by
  obtain ⟨h1, h2, h3, h4, h5⟩ := h.silent hc
  have e := h.rest
  rw [h1, h2, h3, h4, h5] at e
  exact e

/-- Two parts whose lines agree one by one, and that agree in the rest, are one. -/
theorem state_ext_lines {t : State} {f : LineNo → Line} (h : ∀ l, t.line l = f l) :
    t = { t with lines := Vector.ofFn f } := by
  have hl : t.lines = Vector.ofFn f := Vector.ext fun i hi => by
    rw [Vector.getElem_ofFn]
    exact h ⟨i, hi⟩
  rw [← hl]

theorem autoLines_none (h : ∀ l, (s.line l).record.policy = .fixed) : s.autoLines = [] := by
  rw [State.autoLines, List.filter_eq_nil_iff]
  intro l _
  simp [State.autoLine, h l]

theorem autoLines_all (h : ∀ l, (s.line l).record.policy = .auto) : s.autoLines = List.finRange 24 := by
  rw [State.autoLines, List.filter_eq_self]
  intro l _
  simp [State.autoLine, h l]

/-- The whole part after its lines have started in silence, the lines given. -/
theorem startLines_silent {f : LineNo → Line} (hm : ∀ l, (s.line l).marks = []) (hq : s.probeQueue = [])
    (he : s.engine = none) (hc : s.unit.collector = 0) (hf : ∀ l, (startLines s).line l = f l) :
    startLines s = { s with
      lines := Vector.ofFn f, probeQueue := s.autoLines.tail, begun := s.begun + (if s.autoLines = [] then 0 else 1)
      engine := s.autoLines.head?.map s.firstMeasurement } := by
  obtain ⟨t, ht, hslots, hrest, -⟩ := startLines_state hm hq he
  have hs := ht.silent_eq hc
  have hlines := state_ext_lines hf
  generalize startLines s = u at hrest hlines
  generalize t.lines = ls at hs
  generalize t.probeQueue = q at hs
  rw [hslots] at hs
  subst hs
  rw [hlines, hrest]

/-- The reset rate that RATESEL chooses (R21, R41). -/
theorem ratesReset_strapped (b : Bool) :
    ratesReset[(if b then 8 else 4 : RateIndex).val] = if b then 115200 else 9600 := by
  cases b <;> rfl

theorem poweredDone_line (straps : Straps) (s : State) (l : LineNo) :
    (s.poweredDone straps).line l = blankLine (strappedRecord straps) .reset (s.line l).rxd .reset :=
  (unitSummary_line _ _ l).trans (powered_line straps s l)

theorem poweredDone_rest (straps : Straps) (s : State) :
    (s.poweredDone straps).probeQueue = [] ∧ (s.poweredDone straps).engine = none
      ∧ (s.poweredDone straps).unit.collector = 0 ∧ (s.poweredDone straps).unitTime = 0
      ∧ (s.poweredDone straps).begun = s.begun ∧ ∀ i, (s.poweredDone straps).rateAt i = ratesReset[i.val] :=
  ⟨rfl, rfl, rfl, rfl, by simp only [State.poweredDone, powered], fun _ => rfl⟩

/-- The lines that wait for the engine at power-on: all of them under AUTO, none under FIXED. -/
theorem poweredDone_autoLines (straps : Straps) (s : State) :
    (s.poweredDone straps).autoLines = if straps.autosel then List.finRange 24 else [] := by
  have hpolicy : ∀ l, ((s.poweredDone straps).line l).record.policy = if straps.autosel then .auto else .fixed :=
    fun l => by rw [poweredDone_line]; rfl
  generalize s.poweredDone straps = w at hpolicy
  cases h : straps.autosel with
  | false => exact autoLines_none fun l => by rw [hpolicy, h]; rfl
  | true => exact autoLines_all fun l => by rw [hpolicy, h]; rfl

theorem poweredDone_marks (straps : Straps) (s : State) (l : LineNo) : ((s.poweredDone straps).line l).marks = [] := by
  rw [poweredDone_line]
  rfl

/-- The first measurement at power-on under AUTO (R27). -/
theorem poweredDone_measurement (straps : Straps) (s : State) :
    (s.poweredDone straps).firstMeasurement 0 =
      { number := s.begun, line := 0, probe := .cr, edges := .e32, window := .s5
        framing := { dataBits := .eight, parity := .absent, stopBits := .one }, start := 0
        edgeCount := 0, pulse := 0, phase := 0, narrowest := none, elapsed := 0, windowLeft := 5000 } := by
  obtain ⟨-, -, -, htime, hbegun, -⟩ := poweredDone_rest straps s
  rw [State.firstMeasurement, poweredDone_line, hbegun, htime]
  simp only [blankLine, strappedRecord, LineRecord.reset, MeasureWindow.seconds, Framing.reset]

/-- A line of the part once POWER_ON has started it. -/
theorem poweredDone_started (straps : Straps) (s : State) (l : LineNo) :
    (startLines (s.poweredDone straps)).line l = (s.poweredDone straps).lineStarted l
      { kinds := if straps.autosel then 0 else 8#9, watches := 0, reasons := 0, outcome := .none } := by
  obtain ⟨hq, he, hc, -⟩ := poweredDone_rest straps s
  obtain ⟨-, -, -, -, hlines⟩ := startLines_state (poweredDone_marks straps s) hq he
  obtain ⟨m, hl, -, hm⟩ := hlines l
  rw [hl, hm hc (by rw [poweredDone_line]; rfl), poweredDone_line]
  have hkinds : (strappedRecord straps).policy.startKinds = if straps.autosel then 0 else 8#9 := by
    unfold strappedRecord
    cases straps.autosel <;> rfl
  rw [← hkinds]
  rfl

/-- Settles O16: the blank part of the straps, its lines started. -/
theorem powerOnState : Obligations.PowerOnState := by
  intro ⟨unit, autosel, ratesel, attsel⟩ s i rate number auto framing line
  let straps : Straps := ⟨unit, autosel, ratesel, attsel⟩
  obtain ⟨hq, he, hc, htime, hbegun, hrate⟩ := poweredDone_rest straps s
  have hall : ∀ l, (startLines (s.poweredDone straps)).line l = line l := fun l => by
    have hfixed : (s.poweredDone straps).rateAt (strappedRecord straps).fixedIndex = rate.rate :=
      (hrate _).trans (ratesReset_strapped ratesel)
    have hfallback : (s.poweredDone straps).rateAt (strappedRecord straps).fallbackIndex = rate.rate := hfixed
    rw [poweredDone_started, lineStarted_blank (poweredDone_line straps s l), hfixed, hfallback, htime,
      poweredDone_autoLines]
    simp only [line]
    generalize (s.line l).rxd = x
    cases autosel with
    | false => cases x <;> rfl
    | true =>
      have hhead : (List.finRange 24).head? = some (0 : LineNo) := rfl
      rw [if_pos rfl, hhead]
      by_cases h0 : l = 0
      · subst h0
        cases x <;> rfl
      · have hfirst : ¬ some 0 = some l := fun h => h0 (Option.some.inj h).symm
        simp only [hfirst, h0]
        cases x <;> rfl
  have hexec : exec (.powerOn straps) s = .next (startLines (s.poweredDone straps)) := by
    rw [← poweredDone_eq]
    rfl
  have hbegin : (if List.finRange 24 = [] then 0 else 1) = 1 := if_neg (by decide)
  have hhead : (List.finRange 24).head?.map (s.poweredDone straps).firstMeasurement =
      some ((s.poweredDone straps).firstMeasurement 0) := rfl
  rw [hexec, startLines_silent (poweredDone_marks straps s) hq he hc hall, hbegun, poweredDone_autoLines]
  refine congrArg Host.Outcome.next ?_
  cases autosel with
  | false =>
    simp only [State.poweredDone, powered]
    cases attsel <;> rfl
  | true =>
    rw [if_pos rfl, hbegin, hhead, poweredDone_measurement]
    simp only [State.poweredDone, powered]
    cases attsel <;> rfl

end Sys2Proof.Machine
end

section
/-! SUPPORT. UNIT_RESET_APPLIED: the slots that are truncated, and the events that this makes (R106, R153). -/

namespace Sys2Proof.Machine

variable {s t w : State} {l : LineNo} {k : SlotNo}

theorem State.Tells.setSlot (s : State) (k : SlotNo) (r : Slot) : s.Tells (s.setSlot k r) := of_eq rfl

/-- A slot as a reset leaves it: one that was FILLING is COMPLETE with what it held (R106). -/
def Slot.cut (r : Slot) : Slot :=
  if r.state = .filling then { r with state := .complete, truncated := true, fillLeft := none } else r

/-- What a reset does at one slot. -/
def cutSlot (k : SlotNo) (s : State) : State :=
  if (s.slot k).state = .filling then completeSlot k true s else s

/-- The event that the truncation of a slot adds to the summary of its line. -/
def Slot.cutKinds (r : Slot) (l : LineNo) : BitVec 9 := if r.state = .filling ∧ r.line = l then 256#9 else 0

/-- Of lines, the truncation of a slot changes the summary of the slot's line (R106, R148). -/
theorem cutSlot_tells (k : SlotNo) (s : State) :
    s.Tells (cutSlot k s) ∧ (∀ j, (cutSlot k s).slot j = if j = k then (s.slot k).cut else s.slot j)
      ∧ ∀ l, ∃ m : LineSummary, (cutSlot k s).line l = { s.line l with summary := m }
          ∧ m.kinds = (s.line l).summary.kinds ||| (s.slot k).cutKinds l := by
  by_cases hf : (s.slot k).state = .filling
  · have hstep : cutSlot k s = raisePlain (s.slot k).line .snapshotDone (s.setSlot k (s.slot k).cut) := by
      rw [cutSlot, if_pos hf, Slot.cut, if_pos hf]
      rfl
    obtain ⟨m, ht, ⟨d, e⟩, hk, -⟩ := raiseLine_tells (s.slot k).line .snapshotDone (s.setSlot k (s.slot k).cut)
    rw [hstep]
    refine ⟨(State.Tells.setSlot s k _).trans ht, fun j => ?_, fun l => ?_⟩ <;> rw [e]
    · rw [told_slot, setLine_slot, setSlot_slot]
    · rw [told_line, Slot.cutKinds]
      by_cases hl : (s.slot k).line = l
      · subst hl
        rw [setLine_line_same, if_pos ⟨hf, rfl⟩]
        exact ⟨m, rfl, hk⟩
      · rw [setLine_line_ne _ _ (Ne.symm hl), if_neg fun h => hl h.2]
        exact ⟨_, rfl, (BitVec.or_zero ..).symm⟩
  · have hstep : cutSlot k s = s := by rw [cutSlot, if_neg hf]
    rw [hstep]
    refine ⟨.refl s, fun j => ?_, fun l => ⟨_, rfl, ?_⟩⟩
    · rw [Slot.cut, if_neg hf]
      split
      · next h => rw [h]
      · rfl
    · rw [Slot.cutKinds, if_neg fun h => hf h.1]
      exact (BitVec.or_zero ..).symm

/-- The events that the truncations of some slots add to the summary of a line. -/
def State.cutKinds (s : State) (ks : List SlotNo) (l : LineNo) : BitVec 9 :=
  if ∃ k ∈ ks, (s.slot k).state = .filling ∧ (s.slot k).line = l then 256#9 else 0

theorem cutKinds_cons (s : State) (k : SlotNo) (ks : List SlotNo) (l : LineNo) :
    s.cutKinds (k :: ks) l = (s.slot k).cutKinds l ||| s.cutKinds ks l := by
  unfold State.cutKinds Slot.cutKinds
  simp only [List.exists_mem_cons_iff]
  by_cases h1 : (s.slot k).state = .filling ∧ (s.slot k).line = l <;>
    by_cases h2 : ∃ k ∈ ks, (s.slot k).state = .filling ∧ (s.slot k).line = l <;> simp [h1, h2]

/-- Slots truncated one after the other. -/
theorem cutEach_tells {ks : List SlotNo} (hd : ks.Nodup) :
    let t := ks.foldl (fun t k => cutSlot k t) s
    s.Tells t ∧ (∀ k, t.slot k = if k ∈ ks then (s.slot k).cut else s.slot k)
      ∧ ∀ l, ∃ m : LineSummary, t.line l = { s.line l with summary := m }
          ∧ m.kinds = (s.line l).summary.kinds ||| s.cutKinds ks l := by
  induction ks generalizing s with
  | nil =>
    refine ⟨.refl s, fun _ => (if_neg List.not_mem_nil).symm, fun l => ⟨(s.line l).summary, rfl, ?_⟩⟩
    rw [State.cutKinds, if_neg (by simp)]
    exact (BitVec.or_zero ..).symm
  | cons k ks ih =>
    obtain ⟨hnot, hd⟩ := List.nodup_cons.mp hd
    obtain ⟨ht, hs, hl⟩ := cutSlot_tells k s
    obtain ⟨kt, ks', kl⟩ := ih (s := cutSlot k s) hd
    have hslot : ∀ j ∈ ks, (cutSlot k s).slot j = s.slot j := fun j hj => by
      have hjk : j ≠ k := fun e => hnot (e ▸ hj)
      rw [hs, if_neg hjk]
    refine ⟨ht.trans kt, fun j => (ks' j).trans ?_, fun l => ?_⟩
    · by_cases hj : j ∈ ks
      · rw [if_pos hj, if_pos (List.mem_cons_of_mem _ hj), hslot j hj]
      · rw [if_neg hj, hs]
        by_cases hjk : j = k
        · subst hjk
          rw [if_pos rfl, if_pos List.mem_cons_self]
        · rw [if_neg hjk, if_neg fun h => (List.mem_cons.mp h).elim hjk hj]
    · obtain ⟨m, hm, hk⟩ := hl l
      obtain ⟨m', hm', hk'⟩ := kl l
      have hcut : (cutSlot k s).cutKinds ks l = s.cutKinds ks l := by
        unfold State.cutKinds
        refine if_congr (exists_congr fun j => and_congr_right fun hj => ?_) rfl rfl
        rw [hslot j hj]
      refine ⟨m', ?_, ?_⟩
      · rw [List.foldl_cons, hm', hm]
      · rw [hk', hm, hk, hcut, cutKinds_cons, BitVec.or_assoc]

/-- The reset at the Snapshot Store: every FILLING slot is truncated (R106). -/
theorem resetSlots_tells (s : State) :
    s.Tells (resetSlots s) ∧ (∀ k, (resetSlots s).slot k = (s.slot k).cut)
      ∧ ∀ l, ∃ m : LineSummary, (resetSlots s).line l = { s.line l with summary := m }
          ∧ m.kinds = (s.line l).summary.kinds ||| s.cutKinds (List.finRange 8) l := by
  obtain ⟨ht, hs, hl⟩ := cutEach_tells (s := s) (List.nodup_finRange 8)
  exact ⟨ht, fun k => (hs k).trans (if_pos (List.mem_finRange k)), hl⟩

end Sys2Proof.Machine
end

section
/-! SUPPORT. UNIT_RESET_APPLIED: the queues, the response that goes out first, and what is told of the rest (R158, R162,
R169). -/

namespace Sys2Proof.Machine

variable {s t w : State} {l : LineNo} {f : OutFrame} {fs : List OutFrame}

/-! ### The queues -/

/-- The part with its queues, sessions and activity emptied, before the tests' responses take their places (R169). -/
def State.emptied (s : State) : State :=
  { s with
    sessions := Vector.replicate 32 .reset
    requests := []
    responses := []
    upQueue := []
    downQueue := []
    heldPlaces := 0
    waitingTests := s.waitingTests ++ s.abortedTests
    counters := .reset
    lastMember := .data
    lastSession := 31
    attendance := Attendance.started { s.attendance with lapses := 0 } s.unit.period
    resetPhase := .idle }

/-- Frames as they stand in the response queue. -/
def queued (fs : List OutFrame) : List QueuedFrame := fs.map fun f => { frame := f, resets := false }

/-- The part once the responses of tests took the places that are free. -/
def State.placedTests (s : State) (fs : List OutFrame) : State :=
  { s.emptied with responses := queued (fs.take 16), waitingTests := fs.drop 16 }

theorem placeWaiting_emptied (s : State) (h : s.waitingTests ++ s.abortedTests = fs) :
    placeWaiting s.emptied = s.placedTests fs := by
  subst h
  rfl

theorem placedTests_busy (h : s.upLink = false ∨ s.upTx ≠ none) : (s.placedTests fs).upFree = false := by
  have hfree : (s.placedTests fs).upFree = (s.upTx.isNone && s.upLink && decide (ResetPhase.idle ≠ .due)) := rfl
  rw [hfree]
  rcases h with h | h
  · rw [h, Bool.and_false, Bool.false_and]
  · cases hx : s.upTx with
    | none => exact absurd hx h
    | some x => rfl

theorem placedTests_free (hl : s.upLink = true) (hx : s.upTx = none) : (s.placedTests fs).upFree = true := by
  have hfree : (s.placedTests fs).upFree = (s.upTx.isNone && s.upLink && decide (ResetPhase.idle ≠ .due)) := rfl
  rw [hfree, hl, hx]
  rfl

/-- No session that a reset emptied is ready (R121, R125). -/
theorem placedTests_nobody : (s.placedTests fs).nextReady? = none := by
  have hready : ∀ i, (s.placedTests fs).ready i = false := fun i => by
    have hsession : (s.placedTests fs).session i = .reset := Vector.getElem_replicate _
    unfold State.ready
    rw [hsession]
    rfl
  unfold State.nextReady?
  rw [List.find?_eq_none]
  intro i _
  rw [hready]
  exact Bool.false_ne_true

/-- Without a response that waits nothing goes out. -/
theorem upGrant_empty (h : (s.placedTests []).upFree = true) : upGrant (s.placedTests []) = s.placedTests [] := by
  have hdata : (s.placedTests []).eligible .data = false := by
    unfold State.eligible
    rw [placedTests_nobody]
    rfl
  have hnone : ((s.placedTests []).lastMember.rotation.find? fun m => (s.placedTests []).eligible m) = none := by
    show List.find? _ [Member.responses, .forward, .data] = none
    rw [List.find?_eq_none]
    intro m hm
    simp only [List.mem_cons, List.not_mem_nil, or_false] at hm
    rcases hm with rfl | rfl | rfl
    · exact Bool.false_ne_true
    · exact Bool.false_ne_true
    · rw [hdata]
      exact Bool.false_ne_true
  unfold upGrant
  rw [if_pos h, hnone]

/-- The place that the first response leaves is taken by the first that waits. -/
theorem take_next (fs : List OutFrame) :
    fs.take 15 ++ (fs.drop 15).take (16 - (fs.take 15).length) = fs.take 16
      ∧ (fs.drop 15).drop (16 - (fs.take 15).length) = fs.drop 16 := by
  by_cases h : 15 ≤ fs.length
  · have hlen : 16 - (fs.take 15).length = 1 := by rw [List.length_take_of_le h]
    rw [hlen, List.drop_drop]
    exact ⟨List.take_add.symm, rfl⟩
  · have hle : fs.length ≤ 15 := by omega
    rw [List.drop_eq_nil_of_le hle, List.take_of_length_le hle, List.take_of_length_le (hle.trans (by decide)),
      List.drop_eq_nil_of_le (hle.trans (by decide)), List.take_nil, List.append_nil, List.drop_nil]
    exact ⟨rfl, rfl⟩

/-- The first response goes out at once where UP is free, and one more finds a place (R158, R162). -/
theorem upGrant_first {rest : List OutFrame} (h : (s.placedTests (f :: rest)).upFree = true) :
    upGrant (s.placedTests (f :: rest)) =
      { s.emptied with
        upTx := some (.response f false), lastMember := .responses, responses := queued (rest.take 16)
        waitingTests := rest.drop 16 } := by
  have hfind : ((s.placedTests (f :: rest)).lastMember.rotation.find? fun m => (s.placedTests (f :: rest)).eligible m)
      = some .responses := rfl
  have hgrant : grantMember .responses (s.placedTests (f :: rest)) = placeWaiting
      { s.emptied with
        upTx := some (.response f false), lastMember := .responses, responses := queued (rest.take 15)
        waitingTests := rest.drop 15 } := rfl
  unfold upGrant
  rw [if_pos h, hfind]
  refine hgrant.trans ?_
  obtain ⟨htake, hdrop⟩ := take_next rest
  have hplaces : Config.responseCapacity - ((queued (rest.take 15)).length + 0) = 16 - (rest.take 15).length := by
    rw [queued, List.length_map]
    rfl
  unfold placeWaiting
  simp only [State.emptied]
  rw [hplaces, hdrop, ← htake, queued, queued, List.map_append]

/-- The part after its queues were emptied: what UP sends, and where the tests' responses stand (R162, R169). -/
theorem resetQueues_eq (s : State) (h : s.waitingTests ++ s.abortedTests = fs) :
    ∃ tx m rs ws, resetQueues s =
        { s.emptied with upTx := tx, lastMember := m, responses := rs, waitingTests := ws }
      ∧ ((s.upLink = false ∨ s.upTx ≠ none) →
          (resetQueues s).upFree = false ∧ tx = s.upTx ∧ m = .data ∧ rs = queued (fs.take 16) ∧ ws = fs.drop 16)
      ∧ (∀ f rest, s.upLink = true → s.upTx = none → fs = f :: rest →
          (resetQueues s).upFree = false ∧ tx = some (.response f false) ∧ m = .responses
            ∧ rs = queued (rest.take 16) ∧ ws = rest.drop 16)
      ∧ (s.upLink = true → s.upTx = none → fs = [] → tx = none ∧ m = .data ∧ rs = [] ∧ ws = []) := by
  have hq : resetQueues s = upGrant (s.placedTests fs) := congrArg upGrant (placeWaiting_emptied s h)
  rw [hq]
  by_cases hb : s.upLink = false ∨ s.upTx ≠ none
  · have hbusy := placedTests_busy (fs := fs) hb
    have hstill : upGrant (s.placedTests fs) = s.placedTests fs := if_neg (by rw [hbusy]; exact Bool.false_ne_true)
    rw [hstill]
    refine ⟨s.upTx, .data, _, _, rfl, fun _ => ⟨hbusy, rfl, rfl, rfl, rfl⟩, fun f rest hl hx _ => ?_, fun hl hx _ => ?_⟩ <;>
      exact absurd hb (by simp [hl, hx])
  · obtain ⟨hl, hx⟩ : s.upLink = true ∧ s.upTx = none := by simpa using hb
    have hfree := placedTests_free (fs := fs) hl hx
    cases hfs : fs with
    | nil =>
      rw [hfs] at hfree
      rw [upGrant_empty hfree]
      exact ⟨s.upTx, .data, [], [], rfl, fun h => absurd h hb, fun _ _ _ _ => nofun, fun _ _ _ => ⟨hx, rfl, rfl, rfl⟩⟩
    | cons f rest =>
      rw [hfs] at hfree
      rw [upGrant_first hfree]
      refine ⟨_, _, _, _, rfl, fun h => absurd h hb, fun f' rest' _ _ he => ?_, fun _ _ => nofun⟩
      obtain ⟨rfl, rfl⟩ := List.cons.inj he
      exact ⟨rfl, rfl, rfl, rfl, rfl⟩

end Sys2Proof.Machine
end

section
/-! SUPPORT. UNIT_RESET_APPLIED: the alerts, the activity, and the whole state. -/

namespace Sys2Proof.Machine

variable {s t w : State} {l : LineNo}

/-! ### What a reset leaves beside lines and slots -/

/-- Between two states lines, slots, the Rate Probe and the summaries changed, and events were told: ALERTs placed behind
what was placed, sent only on an idle transmitter, or lost; without a collector no frame is made (R149). -/
structure State.Reports (s t : State) : Prop where
  rest : t = { s with
    lines := t.lines, slots := t.slots, probeQueue := t.probeQueue, engine := t.engine, begun := t.begun
    unitSummary := t.unitSummary, responses := t.responses
    counters := { s.counters with responseDrops := t.counters.responseDrops }, upTx := t.upTx
    lastMember := t.lastMember }
  placed : s.responses <+: t.responses
  busy : s.upFree = false → t.upTx = s.upTx ∧ t.lastMember = s.lastMember
  silent : s.unit.collector = 0 → t.responses = s.responses ∧ t.counters = s.counters ∧ t.upTx = s.upTx
    ∧ t.lastMember = s.lastMember

namespace State.Reports

theorem upFree (h : s.Reports t) (hb : s.upFree = false) : t.upFree = false := by
  obtain ⟨hu, -⟩ := h.busy hb
  rw [← hb, h.rest, State.upFree, State.upFree, hu]

theorem trans (h : s.Reports t) (k : t.Reports w) : s.Reports w := by
  have hunit : t.unit = s.unit := by rw [h.rest]
  refine ⟨?_, h.placed.trans k.placed, fun hb => ?_, fun hc => ?_⟩
  · have hk := k.rest
    have hh := h.rest
    generalize w.lines = ls at hk ⊢
    generalize w.slots = ks at hk ⊢
    generalize w.probeQueue = q at hk ⊢
    generalize w.engine = e at hk ⊢
    generalize w.begun = b at hk ⊢
    generalize w.unitSummary = us at hk ⊢
    generalize w.responses = rs at hk ⊢
    generalize w.counters.responseDrops = n at hk ⊢
    generalize w.upTx = tx at hk ⊢
    generalize w.lastMember = lm at hk ⊢
    rw [hk, hh]
  · obtain ⟨h1, h2⟩ := h.busy hb
    obtain ⟨k1, k2⟩ := k.busy (h.upFree hb)
    exact ⟨k1.trans h1, k2.trans h2⟩
  · obtain ⟨h1, h2, h3, h4⟩ := h.silent hc
    obtain ⟨k1, k2, k3, k4⟩ := k.silent (hunit ▸ hc)
    exact ⟨k1.trans h1, k2.trans h2, k3.trans h3, k4.trans h4⟩

/-- States that agree in all but lines, the Rate Probe and the unit summary. -/
theorem of_eq {ls : Vector Line 24} {q : List LineNo} {e : Option Measurement} {b : Nat} {us : UnitSummary}
    (h : t = { s with lines := ls, probeQueue := q, engine := e, begun := b, unitSummary := us }) : s.Reports t := by
  subst h
  exact ⟨rfl, List.prefix_refl _, fun _ => ⟨rfl, rfl⟩, fun _ => ⟨rfl, rfl, rfl, rfl⟩⟩

theorem of_tells (h : s.Tells t) : s.Reports t := by
  obtain ⟨-, -, -, he, hb, -⟩ := h.same
  refine ⟨?_, h.placed, h.busy, fun hc => (h.silent hc).2⟩
  have hr := h.rest
  rw [← he, ← hb] at hr
  exact hr

end State.Reports

/-! ### The alerts -/

/-- The part with every summary cleared (R153). -/
def State.unsummed (s : State) : State :=
  { s.mapLines fun _ u => { u with summary := .reset } with unitSummary := { kinds := 0, outcome := .none } }

theorem unsummed_line (s : State) (l : LineNo) : s.unsummed.line l = { s.line l with summary := .reset } :=
  (unitSummary_line _ _ l).trans (mapLines_line s _ l)

theorem unsummed_rest (s : State) :
    s.Reports s.unsummed ∧ s.unsummed.slots = s.slots ∧ s.unsummed.begun = s.begun ∧ s.unsummed.unitSummary.kinds = 0 := by
  unfold State.unsummed State.mapLines
  exact ⟨.of_eq rfl, rfl, rfl, rfl⟩

theorem raiseUnit_reports (e : UnitEvent) (s : State) (h : s.unitSummary.kinds = 0) : s.Reports (raiseUnit e s) := by
  by_cases hc : s.unit.collector = 0
  · have hquiet : raiseUnit e s =
        { s with unitSummary := { kinds := s.unitSummary.kinds ||| (1#4 <<< e.bit), outcome := .none } } := by
      unfold raiseUnit
      simp only [if_neg (not_not_intro h), if_pos hc]
    exact .of_eq hquiet
  · obtain ⟨d, eq, -, -, -, -, hw⟩ := raiseUnit_effect e s
    rw [eq]
    refine ⟨rfl, List.prefix_append _ _, fun hb => ?_, fun h => absurd h hc⟩
    rcases hw.2 with h | h
    · exact h
    · rw [hb] at h
      cases h

/-- The reset at the Alert Unit: RESET_DONE is in the unit summary, and lines change in their summaries (R153). -/
theorem resetAlerts_reports (s : State) :
    s.Reports (resetAlerts s) ∧ (resetAlerts s).unitSummary.has .resetDone = true
      ∧ (∀ l, (resetAlerts s).line l = { s.line l with summary := .reset }) ∧ (resetAlerts s).slots = s.slots
      ∧ (resetAlerts s).begun = s.begun := by
  have hdef : resetAlerts s = raiseUnit .resetDone s.unsummed := by
    unfold resetAlerts State.unsummed
    rfl
  obtain ⟨hrep, hslots, hbegun, hkinds⟩ := unsummed_rest s
  have hline := unsummed_line s
  rw [hdef]
  generalize s.unsummed = w at hrep hslots hbegun hkinds hline
  obtain ⟨d, e, hhas, -⟩ := raiseUnit_effect .resetDone w
  have hr := raiseUnit_reports .resetDone w hkinds
  rw [e] at hr ⊢
  exact ⟨hrep.trans hr, hhas, fun l => (told_line w d l).trans (hline l), hslots, hbegun⟩

theorem resetActivity_rest (s : State) :
    s.Reports (resetActivity s) ∧ (resetActivity s).slots = s.slots ∧ (resetActivity s).begun = s.begun
      ∧ (resetActivity s).unitSummary = s.unitSummary ∧ (resetActivity s).probeQueue = []
      ∧ (resetActivity s).engine = none := by
  unfold resetActivity State.mapLines
  exact ⟨.of_eq rfl, rfl, rfl, rfl, rfl, rfl⟩

/-! ### The blocks in their order -/

/-- The part as the blocks' resets leave it, before its lines start. -/
def State.blanked (s : State) : State := resetActivity (resetSlots (resetAlerts s))

/-- Every line is blank, its summary holding what the truncation of slots raised; every FILLING slot is truncated. -/
theorem blanked_state (s : State) :
    s.Reports s.blanked ∧ s.blanked.unitSummary.has .resetDone = true ∧ s.blanked.begun = s.begun
      ∧ s.blanked.probeQueue = [] ∧ s.blanked.engine = none ∧ (∀ k, s.blanked.slot k = (s.slot k).cut)
      ∧ ∀ l, ∃ m : LineSummary, s.blanked.line l = blankLine (s.line l).record (s.line l).params (s.line l).rxd m
          ∧ m.kinds = s.cutKinds (List.finRange 8) l := by
  obtain ⟨ha, hdone, hline, hslots, hbegun⟩ := resetAlerts_reports s
  obtain ⟨hb, hcut, hsum⟩ := resetSlots_tells (resetAlerts s)
  obtain ⟨hc, kslots, kbegun, ksum, hq, he⟩ := resetActivity_rest (resetSlots (resetAlerts s))
  have hblank := resetActivity_line (resetSlots (resetAlerts s))
  obtain ⟨-, -, -, -, hb', -⟩ := hb.same
  have hslot : ∀ k, (resetAlerts s).slot k = s.slot k := fun k => by rw [State.slot, hslots, State.slot]
  unfold State.blanked
  refine ⟨(ha.trans (.of_tells hb)).trans hc, ?_, kbegun.trans (hb'.trans hbegun), hq, he, fun k => ?_, fun l => ?_⟩
  · rw [ksum]
    exact hb.events _ hdone
  · rw [State.slot, kslots]
    exact (hcut k).trans (by rw [hslot])
  · obtain ⟨m, hl, hk⟩ := hsum l
    refine ⟨m, ?_, ?_⟩
    · rw [hblank, hl, hline]
    · rw [hk, hline]
      have hkinds : (resetAlerts s).cutKinds (List.finRange 8) l = s.cutKinds (List.finRange 8) l := by
        unfold State.cutKinds
        simp only [hslot]
      rw [hkinds]
      exact BitVec.zero_or ..

/-- The part after all its lines have started: what beside lines, slots and the engine a start leaves. -/
theorem startLines_reports (hm : ∀ l, (s.line l).marks = []) (hq : s.probeQueue = []) (he : s.engine = none) :
    s.Reports (startLines s) ∧ (startLines s).slots = s.slots
      ∧ (∀ e, s.unitSummary.has e = true → (startLines s).unitSummary.has e = true)
      ∧ (startLines s).probeQueue = s.autoLines.tail
      ∧ (startLines s).begun = s.begun + (if s.autoLines = [] then 0 else 1)
      ∧ (startLines s).engine = s.autoLines.head?.map s.firstMeasurement := by
  obtain ⟨t, ht, hslots, hrest, -⟩ := startLines_state hm hq he
  generalize startLines s = u at hrest
  generalize u.lines = ls at hrest
  have hr : t.Reports u := .of_eq (us := t.unitSummary) hrest
  refine ⟨(State.Reports.of_tells ht).trans hr, ?_⟩
  rw [hrest]
  exact ⟨hslots, ht.events, rfl, rfl, rfl⟩

end Sys2Proof.Machine
end

section
/-! SUPPORT. UNIT_RESET_APPLIED: the obligation. -/

namespace Sys2Proof.Machine

variable {s t q : State} {l : LineNo}

theorem started_period (a : Attendance) (h : a.lapses = 0) (p : AttendancePeriod) :
    a.started p =
      (match p with
        | .off => { state := .off, left := none, lapses := 0 }
        | .s10 => { state := .attended, left := some 10000, lapses := 0 }
        | .s60 => { state := .attended, left := some 60000, lapses := 0 }
        | .s300 => { state := .attended, left := some 300000, lapses := 0 }) := by
  cases a
  subst h
  cases p <;> rfl

/-- What the queues' reset and then the lines' start leave of everything that neither changes (R169). -/
theorem reports_emptied {tx : Option UpFrame} {m : Member} {rs : List QueuedFrame} {ws : List OutFrame}
    (hq : q = { s.emptied with upTx := tx, lastMember := m, responses := rs, waitingTests := ws }) (h : q.Reports t) :
    (t.pending = s.pending ∧ t.unit = s.unit ∧ t.unitNumber = s.unitNumber ∧ t.unitTime = s.unitTime
      ∧ t.rates = s.rates ∧ t.entries = s.entries ∧ t.upLink = s.upLink ∧ t.downLink = s.downLink
      ∧ t.downTx = s.downTx)
    ∧ t.waitingTests = ws
    ∧ t.counters = { UnitCounters.reset with responseDrops := t.counters.responseDrops }
    ∧ t.resetPhase = .idle ∧ t.heldPlaces = 0 ∧ t.requests = [] ∧ t.upQueue = [] ∧ t.downQueue = []
    ∧ t.lastSession = 31 ∧ t.sessions = Vector.replicate 32 .reset
    ∧ t.attendance = Attendance.started { s.attendance with lapses := 0 } s.unit.period := by
  have hr := h.rest
  generalize t.lines = ls at hr
  generalize t.slots = ks at hr
  generalize t.probeQueue = pq at hr
  generalize t.engine = e at hr
  generalize t.begun = b at hr
  generalize t.unitSummary = us at hr
  generalize t.responses = rs' at hr
  generalize t.counters.responseDrops = n at hr
  generalize t.upTx = tx' at hr
  generalize t.lastMember = m' at hr
  subst hq
  subst hr
  unfold State.emptied
  exact ⟨⟨rfl, rfl, rfl, rfl, rfl, rfl, rfl, rfl, rfl⟩, rfl, rfl, rfl, rfl, rfl, rfl, rfl, rfl, rfl, rfl⟩

/-- What the reset of the queues leaves of lines, slots and the count of measurements. -/
theorem emptied_same {tx : Option UpFrame} {m : Member} {rs : List QueuedFrame} {ws : List OutFrame}
    (hq : q = { s.emptied with upTx := tx, lastMember := m, responses := rs, waitingTests := ws }) :
    (∀ l, q.line l = s.line l) ∧ (∀ k, q.slot k = s.slot k) ∧ q.begun = s.begun ∧ q.unitTime = s.unitTime
      ∧ (∀ i, q.rateAt i = s.rateAt i) ∧ q.unit = s.unit := by
  subst hq
  unfold State.emptied
  exact ⟨fun _ => rfl, fun _ => rfl, rfl, rfl, fun _ => rfl, rfl⟩

/-- The reset once its response has left the port: queues, then blocks, then lines (R168, R169). -/
theorem unitResetApplied_eq (h : s.resetPhase = .due) :
    exec .unitResetApplied s = .next (upGrant (startLines (resetQueues s).blanked)) := by
  simp only [exec, execUnitResetApplied, if_pos h]
  rfl

theorem kinds_cut (s : State) (l : LineNo) (p : RatePolicy) :
    ((∀ k, (s.slot k).state = .filling → (s.slot k).line ≠ l) →
      s.cutKinds (List.finRange 8) l ||| p.startKinds = if p = .fixed then 8#9 else 0)
    ∧ ((∃ k, (s.slot k).state = .filling ∧ (s.slot k).line = l) →
      s.cutKinds (List.finRange 8) l ||| p.startKinds = if p = .fixed then 264#9 else 256#9) := by
  unfold State.cutKinds
  refine ⟨fun h => ?_, fun ⟨k, h⟩ => ?_⟩
  · rw [if_neg fun ⟨k, _, hf, hl⟩ => h k hf hl]
    cases p <;> rfl
  · rw [if_pos ⟨k, List.mem_finRange k, h⟩]
    cases p <;> rfl

/-- Settles O17: the blocks' resets one after the other, and the start of every line. -/
theorem unitResetAppliedState : Obligations.UnitResetAppliedState := by
  intro s hdue aborted tests autos placed line
  obtain ⟨tx, m, rs, ws, hq, hbusy, hfirst, hempty⟩ := resetQueues_eq (fs := tests) s rfl
  have hexec := unitResetApplied_eq hdue
  generalize resetQueues s = q at hq hbusy hfirst hexec
  obtain ⟨qline, qslot, qbegun, qtime, qrate, qunit⟩ := emptied_same hq
  obtain ⟨hc, hdone, cbegun, cq, ce, cslot, cline⟩ := blanked_state q
  have hctime : q.blanked.unitTime = s.unitTime := by rw [hc.rest]; exact qtime
  have hcrate : ∀ i, q.blanked.rateAt i = s.rateAt i := fun i => by
    rw [← qrate, State.rateAt, hc.rest]
    rfl
  generalize q.blanked = c at hc hdone cbegun cq ce cslot cline hctime hcrate hexec
  have hmarks : ∀ l, (c.line l).marks = [] := fun l => by
    obtain ⟨m', hl, -⟩ := cline l
    rw [hl]
    rfl
  have hrecord : ∀ l, (c.line l).record = (s.line l).record := fun l => by
    obtain ⟨m', hl, -⟩ := cline l
    rw [hl, qline]
    rfl
  have hautos : c.autoLines = autos := List.filter_congr fun l _ => by rw [State.autoLine, hrecord]
  obtain ⟨hu, uslots, uevents, uqueue, ubegun, uengine⟩ := startLines_reports hmarks cq ce
  obtain ⟨-, -, -, -, ulines⟩ := startLines_state hmarks cq ce
  have hqu := hc.trans hu
  generalize startLines c = u at hu uslots uevents uqueue ubegun uengine ulines hqu hexec
  obtain ⟨⟨h1, h2, h3, h4, h5, h6, h7, h8, h9⟩, hwait, hcount, h10, h11, h12, h13, h14, h15, h16, h17⟩ :=
    reports_emptied hq hqu
  have qtx : q.upTx = tx ∧ q.lastMember = m ∧ q.responses = rs ∧ q.counters = .reset := by
    rw [hq]
    exact ⟨rfl, rfl, rfl, rfl⟩
  obtain ⟨qtx, qm, qrs, qcount⟩ := qtx
  have hplaced : rs <+: u.responses := qrs ▸ hqu.placed
  refine ⟨u, hexec, h1, h2, h3, h4, h5, h6, h7, h8, h9, fun hb => ?_, fun f rest hl hx hf => ?_, fun hl hx hf => ?_,
    hcount, fun hcol => ?_, h10, h11, h12, h13, h14, h15, h16, ?_, uevents _ hdone, fun k => ?_, ?_, ?_, ?_, fun l => ?_⟩
  · obtain ⟨hfree, rfl, rfl, rfl, rfl⟩ := hbusy hb
    obtain ⟨ku, km⟩ := hqu.busy hfree
    exact ⟨ku.trans qtx, km.trans qm, hplaced, hwait⟩
  · obtain ⟨hfree, rfl, rfl, rfl, rfl⟩ := hfirst f rest hl hx hf
    obtain ⟨ku, km⟩ := hqu.busy hfree
    exact ⟨ku.trans qtx, km.trans qm, hplaced, hwait⟩
  · obtain ⟨rfl, rfl, rfl, rfl⟩ := hempty hl hx hf
    refine ⟨hwait, fun hcol => ?_⟩
    obtain ⟨kr, -, kx, km⟩ := hqu.silent (qunit ▸ hcol)
    exact ⟨kx.trans qtx, km.trans qm, kr.trans qrs⟩
  · obtain ⟨-, kc, -, -⟩ := hqu.silent (qunit ▸ hcol)
    exact kc.trans qcount
  · exact h17.trans (started_period _ rfl _)
  · rw [State.slot, uslots]
    refine (cslot k).trans ?_
    rw [qslot, Slot.cut]
  · rw [uqueue, hautos]
  · rw [ubegun, cbegun, qbegun, hautos]
  · rw [uengine, hautos]
    refine congrArg (autos.head?.map ·) (funext fun l => ?_)
    rw [State.firstMeasurement, hrecord, cbegun, qbegun, hctime]
  · obtain ⟨m₀, hl, hk⟩ := cline l
    obtain ⟨m', hul, huk, -⟩ := ulines l
    have hline : u.line l = line l m' := by
      rw [hul, lineStarted_blank hl, qline, hautos, hcrate, hcrate, hctime]
    have hsum : (u.line l).summary = m' := by rw [hline]
    have hkinds : m'.kinds = s.cutKinds (List.finRange 8) l ||| (s.line l).record.policy.startKinds := by
      rw [huk, hrecord, hl]
      have hcut : q.cutKinds (List.finRange 8) l = s.cutKinds (List.finRange 8) l := by
        unfold State.cutKinds
        simp only [qslot]
      exact congrArg (· ||| _) (hk.trans hcut)
    obtain ⟨hnone, hsome⟩ := kinds_cut s l (s.line l).record.policy
    rw [hsum]
    exact ⟨hline, fun h => hkinds.trans (hnone h), fun h => hkinds.trans (hsome h)⟩

end Sys2Proof.Machine
end

section
/-! SUPPORT. What a captured byte does by itself: agreement of patterns with the match window (R79, R83), and the place of a
byte in capture memory (R44). -/

namespace Sys2Proof.Machine

variable {s : State} {u : Line}

/-! ### Patterns -/

/-- The letters, each in either case (R79). -/
theorem isLetter_iff : ∀ b : Byte, isLetter b = true ↔
    ∃ n < 26, (b.toNat = 0x41 + n ∨ b.toNat = 0x61 + n) ∧ (b ||| 0x20#8).toNat = 0x61 + n := by
  decide

theorem lowered_letter : ∀ b : Byte, ∀ n < 26, b.toNat = 0x41 + n ∨ b.toNat = 0x61 + n →
    isLetter b = true ∧ b ||| 0x20#8 = BitVec.ofNat 8 (0x61 + n) := by
  decide

theorem sameLetter_iff (b c : Byte) : sameLetter b c = true ↔ ∃ n, n < 26
    ∧ (b.toNat = 0x41 + n ∨ b.toNat = 0x61 + n) ∧ (c.toNat = 0x41 + n ∨ c.toNat = 0x61 + n) := by
  simp only [sameLetter, Bool.and_eq_true, decide_eq_true_eq]
  constructor
  · rintro ⟨⟨hb, hc⟩, he⟩
    obtain ⟨n, hn, hbn, hbl⟩ := (isLetter_iff b).mp hb
    obtain ⟨m, -, hcm, hcl⟩ := (isLetter_iff c).mp hc
    have hnm : n = m := by rw [he] at hbl; omega
    exact ⟨n, hn, hbn, hnm ▸ hcm⟩
  · rintro ⟨n, hn, hb, hc⟩
    obtain ⟨hbl, hb⟩ := lowered_letter b n hn hb
    obtain ⟨hcl, hc⟩ := lowered_letter c n hn hc
    exact ⟨⟨hbl, hcl⟩, hb.trans hc.symm⟩

theorem literal_agrees (b c : Byte) (fold : Bool) : (PatternElement.literal b fold).agrees c = true ↔
    c = b ∨ fold = true ∧ sameLetter b c = true := by
  simp only [PatternElement.agrees, Bool.or_eq_true, Bool.and_eq_true, decide_eq_true_eq]
  exact or_congr_left eq_comm

theorem patternMatches_iff (pattern : List PatternElement) (window : List Byte) :
    patternMatches pattern window = true ↔ pattern.length ≤ window.length
      ∧ ∀ i e c, pattern[i]? = some e → window[window.length - pattern.length + i]? = some c → e.agrees c = true := by
  simp only [patternMatches, Bool.and_eq_true, decide_eq_true_eq, List.all_eq_true]
  refine and_congr_right fun _ => ⟨fun h i e c he hc => ?_, fun h x hx => ?_⟩
  · refine h (e, c) (List.mem_iff_getElem?.mpr ⟨i, ?_⟩)
    rw [List.getElem?_zip_eq_some, List.getElem?_drop]
    exact ⟨he, hc⟩
  · obtain ⟨i, hi⟩ := List.mem_iff_getElem?.mp hx
    rw [List.getElem?_zip_eq_some, List.getElem?_drop] at hi
    exact h i _ _ hi.1 hi.2

/-! ### The ring -/

/-- The ring after a captured byte, its oldest byte gone where it was full (R46). -/
theorem append_eq (r : Ring) (size : Nat) (b : Byte) :
    r.append size b =
      { oldest := if size ≤ r.newest - r.oldest then r.oldest + 1 else r.oldest, newest := r.newest + 1
        bytes := (if size ≤ r.newest - r.oldest then r.bytes.tail else r.bytes) ++ [b] } := by
  unfold Ring.append Ring.held
  by_cases h : r.newest - r.oldest < size
  · rw [if_pos h, if_neg (by omega), if_neg (by omega)]
  · rw [if_neg h, if_pos (by omega), if_pos (by omega)]

/-- Every byte held stands at its offset modulo the ring size (R44). -/
theorem storedAt_byteAt {o : Nat} (hsize : 0 < u.record.ringBytes) (hheld : u.ring.held ≤ u.record.ringBytes)
    (ho : u.ring.oldest ≤ o) (hn : o < u.ring.newest) :
    u.storedAt (o % u.record.ringBytes) = u.ring.byteAt o := by
  unfold Ring.held at hheld
  have hahead : (o % u.record.ringBytes + u.record.ringBytes - u.record.place u.ring.oldest) % u.record.ringBytes
      = o - u.ring.oldest := by
    unfold LineRecord.place
    generalize u.record.ringBytes = size at hsize hheld
    obtain ⟨d, rfl⟩ := Nat.exists_eq_add_of_le ho
    rw [Nat.add_sub_cancel_left, Nat.add_mod]
    have hlt := Nat.mod_lt u.ring.oldest hsize
    have hd : d < size := by omega
    rw [Nat.mod_eq_of_lt hd]
    generalize u.ring.oldest % size = a at hlt
    by_cases h : a + d < size
    · rw [Nat.mod_eq_of_lt h, show a + d + size - a = d + size by omega, Nat.add_mod_right, Nat.mod_eq_of_lt hd]
    · have hwrap : (a + d) % size = a + d - size := by
        rw [Nat.mod_eq_sub_mod (by omega), Nat.mod_eq_of_lt (by omega)]
      rw [hwrap, show a + d - size + size - a = d by omega, Nat.mod_eq_of_lt hd]
  unfold Line.storedAt
  simp only [hahead, Ring.held]
  rw [if_pos (by omega)]
  congr 1
  omega

end Sys2Proof.Machine
end

section
/-! SUPPORT. The blocks that act on one line's captured byte, one after another: what each may change, and the marks that they
place (R53, R55, R85, R86, R97 to R100). -/

namespace Sys2Proof.Machine

variable {s t w : State} {l : LineNo}

/-! ### What the blocks keep -/

/-- A summary has all that another had. -/
def LineSummary.Grows (m n : LineSummary) : Prop :=
  (∀ e, m.has e = true → n.has e = true) ∧ ∀ i, m.watches.getLsbD i = true → n.watches.getLsbD i = true

theorem grows_refl (m : LineSummary) : m.Grows m := ⟨fun _ h => h, fun _ h => h⟩

/-- Between two states one line changed, its summary only growing, and slots, and something was told, sent at once only on an
idle transmitter (R158). -/
structure State.Acts (l : LineNo) (s t : State) : Prop where
  rest : t = { s with
    lines := t.lines, slots := t.slots, unitSummary := t.unitSummary, responses := t.responses
    counters := { s.counters with responseDrops := t.counters.responseDrops }, upTx := t.upTx
    lastMember := t.lastMember }
  line_ne : ∀ j, j ≠ l → t.line j = s.line j
  grows : (s.line l).summary.Grows (t.line l).summary
  events : ∀ e, s.unitSummary.has e = true → t.unitSummary.has e = true
  busy : s.upFree = false → t.upTx = s.upTx ∧ t.lastMember = s.lastMember

/-- What was told was ALERTs alone, so nothing without a collector (R149). -/
structure State.Alerts (l : LineNo) (s t : State) : Prop extends State.Acts l s t where
  silent : s.unit.collector = 0 → t.responses = s.responses ∧ t.upTx = s.upTx

namespace State.Acts

theorem same (h : State.Acts l s t) : t.unit = s.unit ∧ t.unitTime = s.unitTime ∧ t.entries = s.entries
    ∧ t.sessions = s.sessions ∧ t.unitNumber = s.unitNumber := by
  rw [h.rest]
  exact ⟨rfl, rfl, rfl, rfl, rfl⟩

theorem entry (h : State.Acts l s t) (i : EntryNo) : t.entry i = s.entry i := by
  obtain ⟨-, -, he, -⟩ := h.same
  rw [State.entry, he, State.entry]

theorem upFree (h : State.Acts l s t) (hb : s.upFree = false) : t.upFree = false := by
  obtain ⟨hu, -⟩ := h.busy hb
  rw [← hb, h.rest, State.upFree, State.upFree, hu]

theorem trans (h : State.Acts l s t) (k : State.Acts l t w) : State.Acts l s w where
  rest := by
    have hk := k.rest
    have hh := h.rest
    generalize w.lines = ls at hk ⊢
    generalize w.slots = ks at hk ⊢
    generalize w.unitSummary = us at hk ⊢
    generalize w.responses = rs at hk ⊢
    generalize w.counters.responseDrops = n at hk ⊢
    generalize w.upTx = tx at hk ⊢
    generalize w.lastMember = lm at hk ⊢
    rw [hk, hh]
  line_ne j hj := (k.line_ne j hj).trans (h.line_ne j hj)
  grows := ⟨fun e he => k.grows.1 e (h.grows.1 e he), fun i hi => k.grows.2 i (h.grows.2 i hi)⟩
  events e he := k.events e (h.events e he)
  busy hb := by
    obtain ⟨h1, h2⟩ := h.busy hb
    obtain ⟨k1, k2⟩ := k.busy (h.upFree hb)
    exact ⟨k1.trans h1, k2.trans h2⟩

theorem told {d : Told} (hw : d.within s) (he : ∀ e, s.unitSummary.has e = true → d.summary.has e = true) :
    State.Acts l s (s.told d) :=
  ⟨rfl, fun _ _ => rfl, grows_refl _, he, fun hb => hw.2.resolve_right (by rw [hb]; exact Bool.false_ne_true)⟩

theorem placeNotice (l : LineNo) (f : OutFrame) (s : State) : State.Acts l s (placeNotice f s) := by
  obtain ⟨d, e, keep, -, -, hw⟩ := placeNotice_effect f s
  rw [e]
  exact told hw keep

end State.Acts

namespace State.Alerts

theorem trans (h : State.Alerts l s t) (k : State.Alerts l t w) : State.Alerts l s w := by
  refine ⟨h.toActs.trans k.toActs, fun hc => ?_⟩
  obtain ⟨hunit, -⟩ := h.same
  obtain ⟨h1, h2⟩ := h.silent hc
  obtain ⟨k1, k2⟩ := k.silent (hunit ▸ hc)
  exact ⟨k1.trans h1, k2.trans h2⟩

theorem refl (l : LineNo) (s : State) : State.Alerts l s s :=
  ⟨⟨rfl, fun _ _ => rfl, grows_refl _, fun _ h => h, fun _ => ⟨rfl, rfl⟩⟩, fun _ => ⟨rfl, rfl⟩⟩

theorem setLine {u : Line} (h : (s.line l).summary.Grows u.summary) : State.Alerts l s (s.setLine l u) :=
  ⟨⟨rfl, fun _ hj => setLine_line_ne s u hj, by rw [setLine_line_same]; exact h, fun _ h => h, fun _ => ⟨rfl, rfl⟩⟩,
    fun _ => ⟨rfl, rfl⟩⟩

theorem setSlot (l : LineNo) (s : State) (k : SlotNo) (r : Slot) : State.Alerts l s (s.setSlot k r) :=
  ⟨⟨rfl, fun _ _ => rfl, grows_refl _, fun _ h => h, fun _ => ⟨rfl, rfl⟩⟩, fun _ => ⟨rfl, rfl⟩⟩

theorem told {d : Told} (hw : d.within s) (he : ∀ e, s.unitSummary.has e = true → d.summary.has e = true)
    (hc : s.unit.collector = 0 → d.placed = [] ∧ d.upTx = s.upTx) : State.Alerts l s (s.told d) := by
  refine ⟨.told hw he, fun h => ?_⟩
  obtain ⟨hp, hu⟩ := hc h
  exact ⟨by rw [told_responses, hp, List.append_nil], hu⟩

theorem appendMark (l : LineNo) (k : MarkKind) (a : Nat) (s : State) : State.Alerts l s (appendMark l k a s) := by
  obtain ⟨_, _, h, -⟩ := appendMark_effect l k a s
  rw [h]
  exact setLine (grows_refl _)

theorem raiseLine (l : LineNo) (e : LineEvent) (ws : BitVec 64) (rs : BitVec 3) (a : Nat) (s : State) :
    State.Alerts l s (raiseLine l e ws rs a s) := by
  have grows (o : AlertOutcome) : (s.line l).summary.Grows
      { kinds := (s.line l).summary.kinds ||| (1#9 <<< e.bit), watches := (s.line l).summary.watches ||| ws
        reasons := (s.line l).summary.reasons ||| rs, outcome := o } :=
    ⟨fun e' he => by simp only [LineSummary.has, BitVec.getLsbD_or] at he ⊢; rw [he, Bool.true_or],
      fun i hi => by simp only [BitVec.getLsbD_or, hi, Bool.true_or]⟩
  by_cases hc : s.unit.collector = 0
  · rw [raiseLine_silent hc]
    exact setLine (grows _)
  · obtain ⟨o, d, h, -, hev, -, -, hw⟩ := raiseLine_effect l e ws rs a s
    rw [h]
    exact (setLine (grows o)).trans (told hw hev fun h => absurd h hc)

theorem raiseUnit (l : LineNo) (e : UnitEvent) (s : State) : State.Alerts l s (raiseUnit e s) := by
  obtain ⟨d, eq, -, -, keep, -, hw⟩ := raiseUnit_effect e s
  rw [eq]
  refine told hw keep fun hc => ?_
  have hquiet : Machine.raiseUnit e s =
      { s with unitSummary := { kinds := s.unitSummary.kinds ||| (1#4 <<< e.bit)
                                outcome := if s.unitSummary.kinds ≠ 0 then s.unitSummary.outcome else .none } } := by
    unfold Machine.raiseUnit
    by_cases hk : s.unitSummary.kinds ≠ 0
    · simp only [if_pos hk]
    · simp only [if_neg hk, if_pos hc]
  have hresp := congrArg State.responses (eq.symm.trans hquiet)
  rw [told_responses] at hresp
  exact ⟨List.append_right_eq_self.mp hresp, congrArg State.upTx (eq.symm.trans hquiet)⟩

theorem completeSlot {k : SlotNo} (h : (s.slot k).line = l) (truncated : Bool) :
    State.Alerts l s (completeSlot k truncated s) := by
  subst h
  exact (setSlot _ s k _).trans (raiseLine _ .snapshotDone 0 0 0 _)

theorem takeSlot (k : SlotNo) (g : Trigger) (s : State) : State.Alerts g.line s (takeSlot k g s) := by
  have hmark := (setSlot g.line s k (s.triggeredSlot g)).trans (appendMark g.line .snapshot k.val _)
  unfold Machine.takeSlot
  simp only
  split
  · refine hmark.trans (completeSlot ?_ _)
    obtain ⟨before, loss, e, -⟩ := appendMark_effect g.line .snapshot k.val (s.setSlot k (s.triggeredSlot g))
    rw [e, setLine_slot, setSlot_slot_same, State.triggeredSlot]
  · exact hmark

theorem fireTrigger (g : Trigger) (s : State) : State.Alerts g.line s (fireTrigger g s) := by
  cases hs : s.settleTrigger g with
  | filling k =>
    rw [fireTrigger_filling hs]
    exact setSlot _ _ _ _
  | missed =>
    rw [fireTrigger_missed hs]
    exact raiseUnit _ _ _
  | taken k =>
    rw [fireTrigger_taken hs]
    exact takeSlot k g s

end State.Alerts

/-! ### Marks that join a line's list -/

/-- A line whose list takes some marks, the oldest leaving it where it is full and counted (R53, R55). -/
def Line.marked (u : Line) (new : List Mark) : Line :=
  { u with
    marks := marksAfter u.marks new
    markLoss := u.markLoss + BitVec.ofNat 32 (u.marks.length + new.length - 32) }

theorem marked_nil {u : Line} (h : u.marks.length ≤ 32) : u.marked [] = u := by
  have hz : u.marks.length + ([] : List Mark).length - 32 = 0 := by
    rw [List.length_nil]
    omega
  rw [Line.marked, marksAfter_nil h, hz, BitVec.add_zero]

theorem marked_length (u : Line) (new : List Mark) : (u.marked new).marks.length ≤ 32 := by
  simp only [Line.marked, marksAfter, List.length_drop, List.length_append]
  omega

theorem marked_marked {u : Line} (h : u.marks.length ≤ 32) (a b : List Mark) :
    (u.marked a).marked b = u.marked (a ++ b) := by
  have hlen : (marksAfter u.marks a).length = u.marks.length + a.length - (u.marks.length + a.length - 32) := by
    simp only [marksAfter, List.length_drop, List.length_append]
  simp only [Line.marked, marksAfter_append, hlen, List.length_append, BitVec.add_assoc, ← BitVec.ofNat_add]
  congr 3
  omega

theorem appendMark_marked (h : (s.line l).marks.length ≤ 32) (k : MarkKind) (a : Nat) :
    appendMark l k a s = s.setLine l ((s.line l).marked
      [{ offset := (s.line l).ring.newest, stamp := s.unitTime, kind := k, arg := a }]) := by
  obtain ⟨before, loss, e, hb⟩ := appendMark_effect l k a s
  rw [e, Line.marked, List.length_singleton]
  rcases hb with ⟨rfl, rfl, hlt⟩ | ⟨rfl, rfl, hge⟩
  · have hz : (s.line l).marks.length + 1 - 32 = 0 := by omega
    rw [marksAfter, List.length_singleton, hz, List.drop_zero, BitVec.add_zero]
  · have hone : (s.line l).marks.length + 1 - 32 = 1 := by omega
    rw [marksAfter, List.length_singleton, hone, List.drop_append_of_le_length (by omega), List.drop_one]
    rfl

end Sys2Proof.Machine
end

section
/-! SUPPORT. The actions of the entries that fire at one byte, each by itself (R85 to R90): marks, note, trigger, hold. -/

namespace Sys2Proof.Machine

variable {s t w : State} {l : LineNo} {is : List EntryNo} {i : EntryNo}

/-! ### MARK (R86) -/

/-- The WATCH_HIT marks of some entries at a line's newest byte. -/
def Line.hitMarks (u : Line) (now : Word32) (is : List EntryNo) : List Mark :=
  is.map fun i => { offset := u.ring.newest, stamp := now, kind := .watchHit, arg := i.val }

theorem hitMarks_marked (u : Line) (new : List Mark) (now : Word32) (is : List EntryNo) :
    (u.marked new).hitMarks now is = u.hitMarks now is := by
  simp only [Line.hitMarks, Line.marked]

theorem foldl_watchHit (h : (s.line l).marks.length ≤ 32) :
    is.foldl (fun t i => appendMark l .watchHit i.val t) s
      = s.setLine l ((s.line l).marked ((s.line l).hitMarks s.unitTime is)) := by
  induction is generalizing s with
  | nil => rw [List.foldl_nil, Line.hitMarks, List.map_nil, marked_nil h, setLine_self]
  | cons i is ih =>
    rw [List.foldl_cons, appendMark_marked h, ih (by rw [setLine_line_same]; exact marked_length _ _),
      setLine_line_same, setLine_setLine, setLine_unitTime, hitMarks_marked, marked_marked h,
      List.singleton_append, Line.hitMarks, Line.hitMarks, List.map_cons]

theorem markHits_marked (h : (s.line l).marks.length ≤ 32) :
    markHits l is s = s.setLine l ((s.line l).marked
      ((s.line l).hitMarks s.unitTime (is.filter fun i => (s.entry i).mark))) := foldl_watchHit h

theorem markHits_alerts (l : LineNo) (is : List EntryNo) (s : State) : State.Alerts l s (markHits l is s) := by
  obtain ⟨ms, loss, e⟩ := markHits_effect l is s
  rw [e]
  exact .setLine (grows_refl _)

/-! ### NOTE (R87) -/

theorem foldl_mask (is : List EntryNo) (m : BitVec 64) (n : Nat) :
    (is.foldl (fun m j => m ||| (1#64 <<< j.val)) m).getLsbD n = true
      ↔ m.getLsbD n = true ∨ ∃ i ∈ is, i.val = n := by
  induction is generalizing m with
  | nil => simp only [List.foldl_nil, List.not_mem_nil, false_and, exists_false, or_false]
  | cons i is ih =>
    have hbit : (1#64 <<< i.val).getLsbD n = true ↔ i.val = n := by
      have hi := i.isLt
      rw [BitVec.getLsbD_shiftLeft]
      simp only [BitVec.getLsbD_one, Bool.and_eq_true, decide_eq_true_eq, Bool.not_eq_true', decide_eq_false_iff_not]
      omega
    rw [List.foldl_cons, ih, BitVec.getLsbD_or, Bool.or_eq_true, hbit, List.exists_mem_cons_iff, or_assoc]

theorem noteHits_alerts (l : LineNo) (is : List EntryNo) (s : State) : State.Alerts l s (noteHits l is s) := by
  unfold noteHits
  split
  · exact .refl l s
  · exact .raiseLine l _ _ _ _ s

/-- The index of every entry that notes its firing is in the line's summary, under WATCH_FIRED. -/
theorem noteHits_noted (hi : i ∈ is) (hn : (s.entry i).note = true) :
    ((noteHits l is s).line l).summary.has .watchFired = true
      ∧ ((noteHits l is s).line l).summary.watches.getLsbD i.val = true := by
  have hmem : i ∈ is.filter fun i => (s.entry i).note := List.mem_filter.mpr ⟨hi, hn⟩
  unfold noteHits
  generalize is.filter (fun i => (s.entry i).note) = noting at hmem
  cases noting with
  | nil => exact absurd hmem List.not_mem_nil
  | cons j js =>
    obtain ⟨m, d, e, hhas, -, hw, -⟩ := raiseLine_summary l .watchFired
      ((j :: js).foldl (fun m j => m ||| (1#64 <<< j.val)) 0) 0 j.val s
    simp only
    rw [e, told_line, setLine_line_same]
    refine ⟨hhas, ?_⟩
    rw [hw, (foldl_mask _ _ _).mpr (.inr ⟨i, hmem, rfl⟩), Bool.or_true]

/-! ### SNAPSHOT (R88) -/

theorem snapshotHits_alerts (l : LineNo) (is : List EntryNo) (s : State) : State.Alerts l s (snapshotHits l is s) := by
  unfold snapshotHits
  split
  · exact .refl l s
  · split
    · exact .refl l s
    · next i rest _ _ p _ =>
      exact .fireTrigger { line := l, cause := .watch i, pre := p.pre, post := p.post, others := rest.length } s

theorem snapshotHits_none (h : (is.filter fun i => (s.entry i).snapshot.isSome) = []) : snapshotHits l is s = s := by
  unfold snapshotHits
  rw [h]

theorem snapshotHits_fired {rest : List EntryNo} {o : SnapshotLengths}
    (h : (is.filter fun i => (s.entry i).snapshot.isSome) = i :: rest) (ho : (s.entry i).snapshot = some o) :
    snapshotHits l is s =
      fireTrigger { line := l, cause := .watch i, pre := o.pre, post := o.post, others := rest.length } s := by
  unfold snapshotHits
  simp only [h, ho]

/-- A trigger's marks, lost ones counted. -/
theorem fireTrigger_marked (g : Trigger) (s : State) (h : (s.line g.line).marks.length ≤ 32) :
    ∃ m : LineSummary, (fireTrigger g s).line g.line =
      { (s.line g.line).marked ((s.settleTrigger g).marks (s.line g.line).ring.newest s.unitTime) with summary := m } := by
  cases hs : s.settleTrigger g with
  | filling k =>
    rw [fireTrigger_filling hs, Settled.marks, marked_nil h, setSlot_line]
    exact ⟨_, rfl⟩
  | missed =>
    obtain ⟨d, e, -⟩ := raiseUnit_effect .snapshotMissed s
    rw [fireTrigger_missed hs, e, Settled.marks, marked_nil h, told_line]
    exact ⟨_, rfl⟩
  | taken k =>
    have hmark := appendMark_marked (s := s.setSlot k (s.triggeredSlot g)) (l := g.line) h .snapshot k.val
    rw [fireTrigger_taken hs, Settled.marks, takeSlot]
    simp only [hmark]
    split
    · obtain ⟨m, d, e, -⟩ := completeSlot_done k false ((s.setSlot k (s.triggeredSlot g)).setLine g.line
        ((s.line g.line).marked [{ offset := (s.line g.line).ring.newest, stamp := s.unitTime, kind := .snapshot, arg := k.val }]))
      have hline : (s.triggeredSlot g).line = g.line := by rw [State.triggeredSlot]
      refine ⟨m, ?_⟩
      simp only [setSlot_line, setSlot_unitTime] at e ⊢
      rw [e, told_line, setLine_slot, setSlot_slot_same, hline, setLine_line_same]
      simp only [setLine_line_same]
    · refine ⟨(s.line g.line).summary, ?_⟩
      rw [setLine_line_same]
      rfl

/-- A trigger that is missed is in the unit summary (R98). -/
theorem fireTrigger_missed_told {g : Trigger} (h : s.settleTrigger g = .missed) :
    (fireTrigger g s).unitSummary.has .snapshotMissed = true := by
  obtain ⟨d, e, hd, -⟩ := raiseUnit_effect .snapshotMissed s
  rw [fireTrigger_missed h, e]
  exact hd

/-- What a trigger does depends on unit time, settings, the line's ring and the slots alone. -/
theorem settles_congr {g : Trigger} {u v : Line} {before after : SlotNo → Slot} {how : Settled}
    (ht : t.unitTime = s.unitTime) (hu : t.unit = s.unit) (hr : v.ring = u.ring) :
    g.settles t v before after how ↔ g.settles s u before after how := by
  unfold Trigger.settles
  rw [ht, hu, hr]

/-! ### HOLD_TYPE (R90) -/

theorem foldl_max_eq {n a : Nat} {ns : List Nat} (hn : n ∈ a :: ns) (hle : ∀ m ∈ a :: ns, m ≤ n) : ns.foldl max a = n :=
  Option.some.inj (List.max?_cons'.symm.trans (List.max?_eq_some_iff.mpr ⟨hn, hle⟩))

theorem holdHits_alerts (l : LineNo) (is : List EntryNo) (s : State) : State.Alerts l s (holdHits l is s) := by
  obtain ⟨h, e⟩ := holdHits_effect l is s
  rw [e]
  exact .setLine (grows_refl _)

theorem holdHits_none (h : ∀ i ∈ is, (s.entry i).holdType = none) : holdHits l is s = s := by
  have hnil : (is.filterMap fun i => (s.entry i).holdType) = [] := List.filterMap_eq_nil_iff.mpr h
  unfold holdHits
  rw [hnil]

theorem holdHits_longest {n : Nat} (hi : i ∈ is) (hn : (s.entry i).holdType = some n)
    (hmax : ∀ j ∈ is, ∀ m, (s.entry j).holdType = some m → m ≤ n) : holdHits l is s = extendHold l n s := by
  have hmem : n ∈ is.filterMap fun i => (s.entry i).holdType := List.mem_filterMap.mpr ⟨i, hi, hn⟩
  have hle : ∀ m ∈ is.filterMap fun i => (s.entry i).holdType, m ≤ n := fun m hm => by
    obtain ⟨j, hj, hm⟩ := List.mem_filterMap.mp hm
    exact hmax j hj m hm
  unfold holdHits
  generalize is.filterMap (fun i => (s.entry i).holdType) = ns at hmem hle
  cases ns with
  | nil => exact absurd hmem List.not_mem_nil
  | cons a ns => simp only [foldl_max_eq hmem hle]

/-- A line's hold once it is extended: the later of its present expiry and the new one (R16). -/
theorem extendHold_hold (l : LineNo) (n : Nat) (s : State) :
    ((extendHold l n s).line l).hold = some
      (match (s.line l).hold with
        | none => s.unitTime + BitVec.ofNat 32 (n * 1000)
        | some e =>
          if holdRuns s.unitTime e = true
              ∧ (s.unitTime + BitVec.ofNat 32 (n * 1000) - s.unitTime).toNat ≤ (e - s.unitTime).toNat then e
          else s.unitTime + BitVec.ofNat 32 (n * 1000)) := by
  unfold extendHold forwardDistance
  rw [modLine_eq, setLine_line_same]
  cases h : (s.line l).hold with
  | none => rfl
  | some e =>
    simp only
    split
    · exact h
    · rfl

end Sys2Proof.Machine
end

section
/-! SUPPORT. One release of a floor by the watch (R89, R132, R137), and the actions of the entries that fire, in the order of
R85. -/

namespace Sys2Proof.Machine

variable {s t w : State} {l : LineNo} {is : List EntryNo} {i : EntryNo} {p h : SessionNo} {r : LostReason}

/-! ### DROP_FLOOR (R89) -/

/-- A line's floor FREE, its list kept (R132). -/
def State.unheld (s : State) (l : LineNo) : State :=
  s.setLine l { s.line l with floor := { (s.line l).floor with state := .free, idle := .stopped } }

theorem releaseFloor_free (hf : (s.line l).floor.state = .free) (r : Option LostReason) : releaseFloor l r s = s := by
  simp only [releaseFloor, hf]

theorem releaseFloor_emptied
    (hf : (s.line l).floor.state = .parked p ∨ (s.line l).floor.state = .held p ∧ (s.line l).floor.waiting = []) :
    releaseFloor l (some r) s = placeNotice ((s.unheld l).noticeFrame l p (some r)) (s.unheld l) := by
  rcases hf with hf | ⟨hf, hw⟩
  · simp only [releaseFloor, hf, releaseParked, noticeLost, modLine_eq]
    rfl
  · simp only [releaseFloor, hf, releaseHeld, nextWaiter?_none.mpr hw, noticeLost, modLine_eq]
    rfl

theorem told_noticeFrame (s : State) (d : Told) (l : LineNo) (i : SessionNo) (o : Option LostReason) :
    (s.told d).noticeFrame l i o = s.noticeFrame l i o := rfl

theorem releaseFloor_served {v : SessionNo} (hf : (s.line l).floor.state = .held h)
    (hw : s.nextWaiter? (s.line l).floor.waiting = some v) :
    releaseFloor l (some r) s =
      placeNotice ((becomeHolder l v s).noticeFrame l v none)
        (placeNotice ((becomeHolder l v s).noticeFrame l h (some r)) (becomeHolder l v s)) := by
  simp only [releaseFloor, hf, releaseHeld, hw, noticeGranted, noticeLost]
  generalize becomeHolder l v s = x
  obtain ⟨d, e, -⟩ := placeNotice_effect (x.noticeFrame l h (some r)) x
  rw [e, told_noticeFrame]

/-- The floors at which a release has something to do, and what it does. -/
theorem floor_cases (s : State) (l : LineNo) : (s.line l).floor.state = .free
    ∨ (∃ p, (s.line l).floor.state = .parked p ∨ (s.line l).floor.state = .held p ∧ (s.line l).floor.waiting = [])
    ∨ ∃ h v, (s.line l).floor.state = .held h ∧ s.nextWaiter? (s.line l).floor.waiting = some v := by
  cases hf : (s.line l).floor.state with
  | free => exact .inl rfl
  | parked p => exact .inr (.inl ⟨p, .inl rfl⟩)
  | held h =>
    cases hw : s.nextWaiter? (s.line l).floor.waiting with
    | none => exact .inr (.inl ⟨h, .inr ⟨rfl, nextWaiter?_none.mp hw⟩⟩)
    | some v => exact .inr (.inr ⟨h, v, rfl, rfl⟩)

theorem unheld_acts (l : LineNo) (s : State) : State.Acts l s (s.unheld l) := by
  have h : State.Alerts l s (s.unheld l) := .setLine (grows_refl _)
  exact h.toActs

theorem becomeHolder_acts (l : LineNo) (i : SessionNo) (s : State) : State.Acts l s (becomeHolder l i s) := by
  have h : State.Alerts l s (becomeHolder l i s) := .setLine (grows_refl _)
  exact h.toActs

theorem releaseFloor_acts (l : LineNo) (r : LostReason) (s : State) : State.Acts l s (releaseFloor l (some r) s) := by
  rcases floor_cases s l with hf | ⟨p, hf⟩ | ⟨h, v, hf, hw⟩
  · rw [releaseFloor_free hf]
    exact (State.Alerts.refl l s).toActs
  · rw [releaseFloor_emptied hf]
    exact (unheld_acts l s).trans (.placeNotice l _ _)
  · rw [releaseFloor_served hf hw]
    exact ((becomeHolder_acts l v s).trans (.placeNotice l _ _)).trans (.placeNotice l _ _)

theorem dropHits_none (h : ∀ i ∈ is, (s.entry i).dropFloor = false) : dropHits l is s = s := by
  have hany : (is.any fun i => (s.entry i).dropFloor) = false :=
    List.any_eq_false.mpr fun i hi => by rw [h i hi]; exact Bool.false_ne_true
  unfold dropHits
  rw [hany, if_neg Bool.false_ne_true]

theorem dropHits_some (hi : i ∈ is) (hd : (s.entry i).dropFloor = true) :
    dropHits l is s = releaseFloor l (some .watch) s := by
  unfold dropHits
  rw [if_pos (List.any_eq_true.mpr ⟨i, hi, hd⟩)]

theorem dropHits_acts (l : LineNo) (is : List EntryNo) (s : State) : State.Acts l s (dropHits l is s) := by
  unfold dropHits
  split
  · exact releaseFloor_acts l _ s
  · exact (State.Alerts.refl l s).toActs

/-- The floor that a release served or left FREE, `x` the state of the part at the notices that it sends. -/
def State.released (s : State) (l : LineNo) (r : LostReason) (x t : State) : Prop :=
  x.responses = s.responses ∧ x.upTx = s.upTx
  ∧ (∀ p, ((s.line l).floor.state = .parked p ∨ (s.line l).floor.state = .held p ∧ (s.line l).floor.waiting = []) →
      (x.line l).floor = { (s.line l).floor with state := .free, idle := .stopped }
      ∧ t = placeNotice (x.noticeFrame l p (some r)) x)
  ∧ ∀ h v, (s.line l).floor.state = .held h → s.nextWaiter? (s.line l).floor.waiting = some v →
      (x.line l).floor =
        { (s.line l).floor with
          state := .held v, waiting := (s.line l).floor.waiting.erase v, idle := (s.line l).idleFull }
      ∧ t = placeNotice (x.noticeFrame l v none) (placeNotice (x.noticeFrame l h (some r)) x)

theorem releaseFloor_released (l : LineNo) (r : LostReason) (s : State) :
    ∃ x, s.released l r x (releaseFloor l (some r) s) := by
  rcases floor_cases s l with hf | ⟨p, hf⟩ | ⟨h, v, hf, hw⟩
  · refine ⟨s, rfl, rfl, fun p hp => ?_, fun h v hh => ?_⟩
    · rw [hf] at hp
      rcases hp with hp | ⟨hp, -⟩ <;> cases hp
    · rw [hf] at hh
      cases hh
  · refine ⟨s.unheld l, rfl, rfl, fun q hq => ⟨by rw [State.unheld, setLine_line_same], releaseFloor_emptied hq⟩,
      fun h v hh hv => ?_⟩
    rcases hf with hf | ⟨-, hw⟩
    · rw [hf] at hh
      cases hh
    · rw [nextWaiter?_none.mpr hw] at hv
      cases hv
  · refine ⟨becomeHolder l v s, rfl, rfl, fun p hp => ?_, fun h' v' hh hv => ?_⟩
    · rcases hp with hp | ⟨-, hp⟩
      · rw [hf] at hp
        cases hp
      · rw [nextWaiter?_none.mpr hp] at hw
        cases hw
    · obtain rfl : v = v' := Option.some.inj (hw.symm.trans hv)
      refine ⟨?_, releaseFloor_served hh hv⟩
      rw [becomeHolder, modLine_eq, setLine_line_same]

theorem nextWaiter?_congr (h : ∀ i, (t.session i).cls = (s.session i).cls) (waiting : List SessionNo) :
    t.nextWaiter? waiting = s.nextWaiter? waiting := by
  simp only [State.nextWaiter?, h]

end Sys2Proof.Machine
end

section
/-! SUPPORT. The actions of the entries that fire at one byte, in the order of R85: what each leaves once all are done. -/

namespace Sys2Proof.Machine

variable {s : State} {l : LineNo} {is : List EntryNo} {i : EntryNo}

/-- A line has the marks of another, and has lost as many. -/
def Line.marksOf (u v : Line) : Prop := u.marks = v.marks ∧ u.markLoss = v.markLoss

/-! ### Before each action -/

/-- The part before the trigger: marks and note are done. -/
def beforeTrigger (l : LineNo) (is : List EntryNo) (s : State) : State := noteHits l is (markHits l is s)

/-- The part before the hold: the trigger is done. -/
def beforeHold (l : LineNo) (is : List EntryNo) (s : State) : State := snapshotHits l is (beforeTrigger l is s)

/-- The part before the floor is dropped: the hold is done. -/
def beforeDrop (l : LineNo) (is : List EntryNo) (s : State) : State := holdHits l is (beforeHold l is s)

theorem watchActions_drop (l : LineNo) (is : List EntryNo) (s : State) :
    watchActions l is s = dropHits l is (beforeDrop l is s) := rfl

theorem beforeTrigger_alerts (l : LineNo) (is : List EntryNo) (s : State) : State.Alerts l s (beforeTrigger l is s) :=
  (markHits_alerts l is s).trans (noteHits_alerts l is _)

theorem beforeHold_alerts (l : LineNo) (is : List EntryNo) (s : State) : State.Alerts l s (beforeHold l is s) :=
  (beforeTrigger_alerts l is s).trans (snapshotHits_alerts l is _)

theorem beforeDrop_alerts (l : LineNo) (is : List EntryNo) (s : State) : State.Alerts l s (beforeDrop l is s) :=
  (beforeHold_alerts l is s).trans (holdHits_alerts l is _)

theorem watchActions_acts (l : LineNo) (is : List EntryNo) (s : State) : State.Acts l s (watchActions l is s) :=
  (beforeDrop_alerts l is s).toActs.trans (dropHits_acts l is _)

theorem beforeTrigger_line (l : LineNo) (is : List EntryNo) (s : State) : ∃ ms loss m,
    (beforeTrigger l is s).line l = { s.line l with marks := ms, markLoss := loss, summary := m }
      ∧ (beforeTrigger l is s).slots = s.slots := by
  obtain ⟨ms, loss, e⟩ := markHits_effect l is s
  obtain ⟨m, d, e'⟩ := noteHits_effect l is (markHits l is s)
  rw [beforeTrigger, e', told_line, setLine_line_same, told_slots, setLine_slots, e, setLine_line_same, setLine_slots]
  exact ⟨ms, loss, m, rfl, rfl⟩

theorem beforeTrigger_marked (h : (s.line l).marks.length ≤ 32) : ∃ m, (beforeTrigger l is s).line l =
    { (s.line l).marked ((s.line l).hitMarks s.unitTime (is.filter fun i => (s.entry i).mark)) with summary := m } := by
  obtain ⟨m, d, e⟩ := noteHits_effect l is (markHits l is s)
  rw [beforeTrigger, e, told_line, setLine_line_same, markHits_marked h, setLine_line_same]
  exact ⟨m, rfl⟩

/-- The trigger, and what comes before it, leaves hold and floor. -/
theorem beforeHold_line (l : LineNo) (is : List EntryNo) (s : State) : ∃ ms loss m,
    (beforeHold l is s).line l = { s.line l with marks := ms, markLoss := loss, summary := m } := by
  obtain ⟨ms, loss, m, e, -⟩ := beforeTrigger_line l is s
  obtain ⟨t, ms', loss', m', d, e', -⟩ := snapshotHits_effect l is (beforeTrigger l is s)
  rw [beforeHold, e', told_line, setLine_line_same, e]
  exact ⟨ms', loss', m', rfl⟩

theorem beforeDrop_line (l : LineNo) (is : List EntryNo) (s : State) : ∃ h,
    (beforeDrop l is s).line l = { (beforeHold l is s).line l with hold := h }
      ∧ (beforeDrop l is s).slots = (beforeHold l is s).slots := by
  obtain ⟨h, e⟩ := holdHits_effect l is (beforeHold l is s)
  rw [beforeDrop, e, setLine_line_same, setLine_slots]
  exact ⟨h, rfl, rfl⟩

theorem watchActions_floor (l : LineNo) (is : List EntryNo) (s : State) : ∃ f,
    (watchActions l is s).line l = { (beforeDrop l is s).line l with floor := f }
      ∧ (watchActions l is s).slots = (beforeDrop l is s).slots := by
  obtain ⟨f, d, e⟩ := dropHits_effect l is (beforeDrop l is s)
  rw [watchActions_drop, e, told_line, setLine_line_same, told_slots, setLine_slots]
  exact ⟨f, rfl, rfl⟩

/-- After the trigger, hold and floor alone change in the line, and no slot. -/
theorem watchActions_afterTrigger (l : LineNo) (is : List EntryNo) (s : State) : ∃ h f,
    (watchActions l is s).line l = { (beforeHold l is s).line l with hold := h, floor := f }
      ∧ (watchActions l is s).slots = (beforeHold l is s).slots := by
  obtain ⟨h, e, hs⟩ := beforeDrop_line l is s
  obtain ⟨f, e', hs'⟩ := watchActions_floor l is s
  rw [e', e, hs', hs]
  exact ⟨h, f, rfl, rfl⟩

/-! ### What each action leaves -/

theorem watchActions_nil (l : LineNo) (s : State) : watchActions l [] s = s := rfl

/-- Every entry that notes its firing is in the line's summary (R87). -/
theorem watchActions_noted (hi : i ∈ is) (hn : (s.entry i).note = true) :
    ((watchActions l is s).line l).summary.has .watchFired = true
      ∧ ((watchActions l is s).line l).summary.watches.getLsbD i.val = true := by
  have hmarked := (markHits_alerts l is s).entry i
  obtain ⟨hhas, hw⟩ := noteHits_noted (s := markHits l is s) (l := l) hi (by rw [hmarked, hn])
  have hafter := ((snapshotHits_alerts l is (beforeTrigger l is s)).trans (holdHits_alerts l is _)).toActs.trans
    (dropHits_acts l is (beforeDrop l is s))
  exact ⟨hafter.grows.1 _ hhas, hafter.grows.2 _ hw⟩

/-- The hold is extended by the longest time of the entries that fire (R90). -/
theorem watchActions_hold {n : Nat} (hi : i ∈ is) (hn : (s.entry i).holdType = some n)
    (hmax : ∀ j ∈ is, ∀ m, (s.entry j).holdType = some m → m ≤ n) :
    ((watchActions l is s).line l).hold = ((extendHold l n s).line l).hold := by
  have hb := beforeHold_alerts l is s
  obtain ⟨-, htime, -⟩ := hb.same
  obtain ⟨ms, loss, m, e⟩ := beforeHold_line l is s
  obtain ⟨f, e', -⟩ := watchActions_floor l is s
  have hold := holdHits_longest (s := beforeHold l is s) (l := l) hi (by rw [hb.entry, hn])
    fun j hj m hm => hmax j hj m (by rw [← hb.entry, hm])
  rw [e', beforeDrop, hold, extendHold_hold, extendHold_hold, e, htime]

theorem watchActions_unheld (h : ∀ i ∈ is, (s.entry i).holdType = none) :
    ((watchActions l is s).line l).hold = (s.line l).hold := by
  have hb := beforeHold_alerts l is s
  obtain ⟨ms, loss, m, e⟩ := beforeHold_line l is s
  obtain ⟨f, e', -⟩ := watchActions_floor l is s
  rw [e', beforeDrop, holdHits_none fun i hi => by rw [hb.entry, h i hi], e]

/-- The line before its floor is dropped, as the release reads it. -/
theorem beforeDrop_floor (l : LineNo) (is : List EntryNo) (s : State) :
    ((beforeDrop l is s).line l).floor = (s.line l).floor ∧ ((beforeDrop l is s).line l).record = (s.line l).record := by
  obtain ⟨ms, loss, m, e⟩ := beforeHold_line l is s
  obtain ⟨h, e', -⟩ := beforeDrop_line l is s
  rw [e', e]
  exact ⟨rfl, rfl⟩

theorem watchActions_undropped (h : ∀ i ∈ is, (s.entry i).dropFloor = false) :
    ((watchActions l is s).line l).floor = (s.line l).floor := by
  have hb := beforeDrop_alerts l is s
  rw [watchActions_drop, dropHits_none fun i hi => by rw [hb.entry, h i hi], (beforeDrop_floor l is s).1]

/-- Some entry that fires drops the floor: it is released once with cause WATCH (R89, R137). -/
theorem watchActions_dropped (hi : i ∈ is) (hd : (s.entry i).dropFloor = true) :
    watchActions l is s = releaseFloor l (some .watch) (beforeDrop l is s) := by
  have hb := (beforeDrop_alerts l is s).entry i
  rw [watchActions_drop, dropHits_some hi (by rw [hb, hd])]

/-! ### The trigger -/

theorem beforeTrigger_firing (l : LineNo) (is : List EntryNo) (s : State) :
    (is.filter fun i => ((beforeTrigger l is s).entry i).snapshot.isSome)
      = is.filter fun i => (s.entry i).snapshot.isSome := by
  simp only [(beforeTrigger_alerts l is s).entry]

theorem watchActions_untriggered (h : (is.filter fun i => (s.entry i).snapshot.isSome) = []) :
    (watchActions l is s).slots = s.slots
      ∧ ((s.line l).marks.length ≤ 32 → ((watchActions l is s).line l).marksOf
          ((s.line l).marked ((s.line l).hitMarks s.unitTime (is.filter fun i => (s.entry i).mark)))) := by
  obtain ⟨hold, f, e, hs⟩ := watchActions_afterTrigger l is s
  have hsame : beforeHold l is s = beforeTrigger l is s :=
    snapshotHits_none ((beforeTrigger_firing l is s).trans h)
  obtain ⟨ms, loss, m, -, hslots⟩ := beforeTrigger_line l is s
  refine ⟨by rw [hs, hsame, hslots], fun hlen => ?_⟩
  obtain ⟨m, em⟩ := beforeTrigger_marked (is := is) hlen
  rw [e, hsame, em]
  exact ⟨rfl, rfl⟩

variable {rest : List EntryNo} {o : SnapshotLengths} {g : Trigger} {b : State}

theorem fireTrigger_marksOf {u : Line} {a : List Mark} {m : LineSummary} (h : u.marks.length ≤ 32)
    (hb : b.line g.line = { u.marked a with summary := m }) :
    ((fireTrigger g b).line g.line).marksOf
      (u.marked (a ++ (b.settleTrigger g).marks u.ring.newest b.unitTime)) := by
  have hlen : (b.line g.line).marks.length ≤ 32 := by
    rw [hb]
    exact marked_length u a
  obtain ⟨m', e⟩ := fireTrigger_marked g b hlen
  rw [e, ← marked_marked h, hb]
  exact ⟨rfl, rfl⟩

/-- The slots after a trigger, seen from a state with the same slots. -/
theorem fireTrigger_settles_from {u : Line} (hslots : b.slots = s.slots) (htime : b.unitTime = s.unitTime)
    (hunit : b.unit = s.unit) (hring : (b.line g.line).ring = u.ring) :
    g.settles s u s.slot (fireTrigger g b).slot (b.settleTrigger g) := by
  have hslot : b.slot = s.slot := by
    funext k
    rw [State.slot, hslots, State.slot]
  have hsettles := fireTrigger_settles g b
  rw [hslot] at hsettles
  exact (settles_congr htime hunit hring).mp hsettles

/-- What the trigger of the lowest entry does, and what is left of it once all is done (R88, R97 to R99). -/
theorem watchActions_triggered (h : (is.filter fun i => (s.entry i).snapshot.isSome) = i :: rest)
    (ho : (s.entry i).snapshot = some o) :
    ∃ how : Settled,
      Trigger.settles { line := l, cause := .watch i, pre := o.pre, post := o.post, others := rest.length } s
        (s.line l) s.slot (watchActions l is s).slot how
      ∧ ((s.line l).marks.length ≤ 32 → ((watchActions l is s).line l).marksOf
          ((s.line l).marked ((s.line l).hitMarks s.unitTime (is.filter fun i => (s.entry i).mark)
              ++ how.marks (s.line l).ring.newest s.unitTime)))
      ∧ (how = .missed → (watchActions l is s).unitSummary.has .snapshotMissed = true)
      ∧ (∀ k, how = .taken k → min o.post (8192 - o.pre) = 0 →
          ((watchActions l is s).line l).summary.has .snapshotDone = true) := by
  obtain ⟨hold, f, e, hs⟩ := watchActions_afterTrigger l is s
  have hb := beforeTrigger_alerts l is s
  obtain ⟨hunit, htime, -⟩ := hb.same
  obtain ⟨ms, loss, m, hline, hslots⟩ := beforeTrigger_line l is s
  have hfired : beforeHold l is s = fireTrigger _ (beforeTrigger l is s) :=
    snapshotHits_fired ((beforeTrigger_firing l is s).trans h) (by rw [hb.entry, ho])
  have hafter : State.Acts l (beforeHold l is s) (watchActions l is s) :=
    (holdHits_alerts l is _).toActs.trans (dropHits_acts l is _)
  have hslot : (watchActions l is s).slot = (beforeHold l is s).slot := by
    funext k
    rw [State.slot, hs, State.slot]
  refine ⟨(beforeTrigger l is s).settleTrigger
    { line := l, cause := .watch i, pre := o.pre, post := o.post, others := rest.length }, ?_, fun hlen => ?_,
    fun hm => hafter.events _ ?_, fun k hk hz => hafter.grows.1 _ ?_⟩
  · rw [hslot, hfired]
    exact fireTrigger_settles_from hslots htime hunit (by rw [hline])
  · obtain ⟨m', hm⟩ := beforeTrigger_marked (is := is) hlen
    rw [e, hfired]
    rw [← htime] at hm ⊢
    exact fireTrigger_marksOf hlen hm
  · rw [hfired]
    exact fireTrigger_missed_told hm
  · rw [hfired]
    exact fireTrigger_done hk ((reducedPost_eq _).trans hz)

end Sys2Proof.Machine
end

section
/-! SUPPORT. A captured byte on its way: line, ring and sessions (R9, R12, R46, R117, R120), the slot that is FILLING (R100), and
the Watch Unit (R80, R83, R84). -/

namespace Sys2Proof.Machine

variable {s g : State} {l : LineNo} {b : Byte} {wrong bad : Bool} {k : SlotNo}

/-! ### Line, ring and sessions -/

/-- A line that has captured a byte, before the slot and the watch have it. -/
def Line.took (u : Line) (b : Byte) (wrong bad : Bool) : Line :=
  { u with
    counters := u.counters.captured wrong bad, monitor := u.monitor.counted wrong bad, rx := .waiting, rxd := .mark
    ring := u.ring.append u.record.ringBytes b
    marks := u.marks.filter fun m => decide ((u.ring.append u.record.ringBytes b).oldest ≤ m.offset)
    settled := false, gather := some u.gatherFull }

/-- A line with a byte in its ring, marks below the ring gone (R46). -/
def Line.appended (u : Line) (b : Byte) : Line :=
  { u with
    ring := u.ring.append u.record.ringBytes b
    marks := u.marks.filter fun m => decide ((u.ring.append u.record.ringBytes b).oldest ≤ m.offset) }

/-- A session's record once a full ring has lost its oldest byte (R117). -/
def Line.passes (u : Line) (l : LineNo) (b : Byte) (r : Session) : Session :=
  if u.record.ringBytes ≤ u.ring.held then r.passedBy l (u.ring.append u.record.ringBytes b).oldest else r

/-- The part with other session records. -/
def State.withSessions (s : State) (ss : Vector Session 32) : State := { s with sessions := ss }

theorem withSessions_session (s : State) (ss : Vector Session 32) (i : SessionNo) :
    (s.withSessions ss).session i = ss[i.val] := rfl

theorem withSessions_setLine (s : State) (ss : Vector Session 32) (l : LineNo) (v : Line) :
    (s.withSessions ss).setLine l v = (s.setLine l v).withSessions ss := rfl

theorem withSessions_line (s : State) (ss : Vector Session 32) (l : LineNo) :
    (s.withSessions ss).line l = s.line l := rfl

theorem ringAppend_state (l : LineNo) (b : Byte) (s : State) : ∃ ss,
    ringAppend l b s = (s.setLine l ((s.line l).appended b)).withSessions ss
      ∧ ∀ i : SessionNo, ss[i.val] = (s.line l).passes l b (s.session i) := by
  rcases ringAppend_effect l b s with ⟨hlt, e⟩ | ⟨hge, e⟩
  · refine ⟨s.sessions, e, fun i => ?_⟩
    rw [Line.passes, if_neg (by unfold Ring.held at *; omega), State.session]
  · refine ⟨_, e, fun i => ?_⟩
    rw [Line.passes, if_pos hge, Vector.getElem_ofFn]
    rfl

/-- The part with a byte in a line's ring, before a session is served and the slot and the watch have it. -/
def State.took (s : State) (l : LineNo) (b : Byte) (wrong bad : Bool) : State :=
  restartGather l (ringAppend l b (s.modLine l fun u =>
    { u with
      counters := u.counters.captured wrong bad, monitor := u.monitor.counted wrong bad, rx := .waiting, rxd := .mark }))

theorem captureByte_took (l : LineNo) (b : Byte) (wrong bad : Bool) (s : State) :
    captureByte l b wrong bad s = watchByte l b (slotByte l b (grantData (s.took l b wrong bad))) := rfl

theorem took_state (s : State) (l : LineNo) (b : Byte) (wrong bad : Bool) : ∃ ss,
    s.took l b wrong bad = (s.setLine l ((s.line l).took b wrong bad)).withSessions ss
      ∧ ∀ i : SessionNo, ss[i.val] = (s.line l).passes l b (s.session i) := by
  unfold State.took
  rw [modLine_eq]
  generalize hv : ({ s.line l with
      counters := (s.line l).counters.captured wrong bad, monitor := (s.line l).monitor.counted wrong bad
      rx := .waiting, rxd := .mark } : Line) = v
  have htook : { v.appended b with settled := false, gather := some (v.appended b).gatherFull }
      = (s.line l).took b wrong bad := by
    rw [← hv]
    rfl
  have hpasses : ∀ r, v.passes l b r = (s.line l).passes l b r := by
    rw [← hv]
    exact fun r => rfl
  obtain ⟨ss, e, hss⟩ := ringAppend_state l b (s.setLine l v)
  rw [setLine_line_same, setLine_setLine] at e
  refine ⟨ss, ?_, fun i => ?_⟩
  · rw [e, restartGather, modLine_eq, withSessions_setLine, withSessions_line, setLine_line_same, setLine_setLine, htook]
  · rw [hss, setLine_line_same, hpasses, setLine_session]

theorem took_line (s : State) (l : LineNo) (b : Byte) (wrong bad : Bool) :
    (s.took l b wrong bad).line l = (s.line l).took b wrong bad := by
  obtain ⟨ss, e, -⟩ := took_state s l b wrong bad
  rw [e, withSessions_line, setLine_line_same]

theorem took_line_ne {j : LineNo} (hj : j ≠ l) : (s.took l b wrong bad).line j = s.line j := by
  obtain ⟨ss, e, -⟩ := took_state s l b wrong bad
  rw [e, withSessions_line, setLine_line_ne _ _ hj]

theorem took_session (s : State) (l : LineNo) (b : Byte) (wrong bad : Bool) (i : SessionNo) :
    (s.took l b wrong bad).session i = (s.line l).passes l b (s.session i) := by
  obtain ⟨ss, e, hss⟩ := took_state s l b wrong bad
  rw [e, withSessions_session, hss]

theorem took_rest (s : State) (l : LineNo) (b : Byte) (wrong bad : Bool) :
    s.took l b wrong bad =
      { s with lines := (s.took l b wrong bad).lines, sessions := (s.took l b wrong bad).sessions } := by
  obtain ⟨ss, e, -⟩ := took_state s l b wrong bad
  rw [e]
  rfl

/-! ### The slot that is FILLING -/

/-- A slot once a byte of a line is captured: the one that is FILLING for it is one byte longer, and complete at its
target (R100). -/
def State.byteSlot (s : State) (l : LineNo) (b : Byte) (k : SlotNo) : Slot :=
  let filled : Slot := { s.slot k with postHeld := (s.slot k).postHeld + 1, data := (s.slot k).data ++ [b] }
  if s.fillingSlot? l ≠ some k then s.slot k
  else if (s.slot k).postTarget ≤ (s.slot k).postHeld + 1 then
    { filled with state := .complete, truncated := false, fillLeft := none }
  else filled

theorem slotByte_none (h : s.fillingSlot? l = none) (b : Byte) : slotByte l b s = s := by
  simp only [slotByte, h]

/-- Beside the slot, the line's summary alone may change, SNAPSHOT_DONE in it where the slot is complete. -/
theorem slotByte_some (h : s.fillingSlot? l = some k) (b : Byte) :
    State.Alerts l s (slotByte l b s) ∧ (∀ j, (slotByte l b s).slot j = s.byteSlot l b j)
      ∧ (∃ m : LineSummary, (slotByte l b s).line l = { s.line l with summary := m })
      ∧ ((s.slot k).postTarget ≤ (s.slot k).postHeld + 1 →
          ((slotByte l b s).line l).summary.has .snapshotDone = true) := by
  obtain ⟨⟨-, hline⟩, -⟩ := fillingSlot?_first.mp h
  simp only [slotByte, h]
  generalize hq : ({ s.slot k with postHeld := (s.slot k).postHeld + 1, data := (s.slot k).data ++ [b] } : Slot) = q
  have hql : q.line = l := by rw [← hq, ← hline]
  have hslot : ∀ j, j ≠ k → s.slot j = s.byteSlot l b j := fun j hj => by
    rw [State.byteSlot, h, if_pos (by simp only [ne_eq, Option.some.injEq]; exact Ne.symm hj)]
  by_cases hd : (s.slot k).postTarget ≤ (s.slot k).postHeld + 1
  · have hk : { q with state := .complete, truncated := false, fillLeft := none } = s.byteSlot l b k := by
      rw [State.byteSlot, h, if_neg (not_not_intro rfl), if_pos hd, ← hq]
    have hat : ((s.setSlot k q).slot k).line = l := by rw [setSlot_slot_same, hql]
    rw [if_pos hd]
    have halerts : State.Alerts l s (completeSlot k false (s.setSlot k q)) :=
      (State.Alerts.setSlot l s k q).trans (.completeSlot hat false)
    obtain ⟨m, d, e, hm⟩ := completeSlot_done k false (s.setSlot k q)
    rw [hat, setSlot_line, setSlot_slot_same, setSlot_setSlot] at e
    rw [e] at halerts ⊢
    refine ⟨halerts, fun j => ?_, ⟨m, ?_⟩, fun _ => ?_⟩
    · rw [told_slot, setLine_slot, setSlot_slot]
      split
      · next hj => rw [hj, hk]
      · next hj => exact hslot j hj
    · rw [told_line, setLine_line_same]
    · rw [told_line, setLine_line_same]
      exact hm
  · have hk : q = s.byteSlot l b k := by
      rw [State.byteSlot, h, if_neg (not_not_intro rfl), if_neg hd, ← hq]
    rw [if_neg hd]
    refine ⟨.setSlot l s k q, fun j => ?_, ⟨(s.line l).summary, ?_⟩, fun h => absurd h hd⟩
    · rw [setSlot_slot]
      split
      · next hj => rw [hj, hk]
      · next hj => exact hslot j hj
    · rw [setSlot_line]

theorem slotByte_alerts (l : LineNo) (b : Byte) (s : State) :
    State.Alerts l s (slotByte l b s) ∧ (∀ j, (slotByte l b s).slot j = s.byteSlot l b j)
      ∧ ∃ m : LineSummary, (slotByte l b s).line l = { s.line l with summary := m } := by
  cases h : s.fillingSlot? l with
  | none =>
    rw [slotByte_none h]
    refine ⟨.refl l s, fun j => ?_, (s.line l).summary, rfl⟩
    rw [State.byteSlot, h, if_pos nofun]
  | some k =>
    obtain ⟨ha, hs, hm, -⟩ := slotByte_some h b
    exact ⟨ha, hs, hm⟩

theorem byteSlot_congr {t : State} (h : t.slots = s.slots) (l : LineNo) (b : Byte) (k : SlotNo) :
    t.byteSlot l b k = s.byteSlot l b k := by
  have hslot : t.slot k = s.slot k := by rw [State.slot, h, State.slot]
  simp only [State.byteSlot, fillingSlot?_congr h, hslot]

end Sys2Proof.Machine
end

section
/-! SUPPORT. What a captured byte leaves in the line (R9, R12, R44, R62, R80, R84, R120), and what it may change elsewhere. -/

namespace Sys2Proof.Machine

variable {s : State} {l : LineNo} {b : Byte} {wrong bad : Bool} {i : EntryNo}

/-! ### At the Watch Unit -/

/-- The entries that fire at a byte captured on a line (R83, R84). -/
def State.firedBy (s : State) (l : LineNo) (b : Byte) : List EntryNo :=
  s.firing l (windowAfter (s.line l).matchWindow b)

theorem mem_firedBy : i ∈ s.firedBy l b ↔
    (s.entry i).fires l ((s.line l).pair i) (windowAfter (s.line l).matchWindow b) = true := by
  simp only [State.firedBy, State.firing, List.mem_filter, List.mem_finRange, true_and]

/-- A line whose match window and watch pairs have the byte (R80, R84). -/
def State.watchedLine (s : State) (l : LineNo) (b : Byte) (u : Line) : Line :=
  { u with
    matchWindow := windowAfter u.matchWindow b
    watch := Vector.ofFn fun i : EntryNo => (s.entry i).after l (u.pair i) (windowAfter u.matchWindow b) }

/-- The part with the byte in line, ring, slot and match window, before the entries that fire act. -/
def State.caught (s : State) (l : LineNo) (b : Byte) (wrong bad : Bool) : State :=
  let y := slotByte l b (grantData (s.took l b wrong bad))
  y.setLine l (s.watchedLine l b (y.line l))

/-- What comes before the watch leaves settings, rates and time of the part. -/
theorem caught_alerts (s : State) (l : LineNo) (b : Byte) (wrong bad : Bool) :
    State.Alerts l (grantData (s.took l b wrong bad)) (s.caught l b wrong bad) := by
  obtain ⟨ha, -, m, e⟩ := slotByte_alerts l b (grantData (s.took l b wrong bad))
  unfold State.caught
  exact ha.trans (.setLine (grows_refl _))

theorem caught_same (s : State) (l : LineNo) (b : Byte) (wrong bad : Bool) :
    (s.caught l b wrong bad).unit = s.unit ∧ (s.caught l b wrong bad).unitTime = s.unitTime
      ∧ (∀ i, (s.caught l b wrong bad).entry i = s.entry i)
      ∧ (s.caught l b wrong bad).sessions = (grantData (s.took l b wrong bad)).sessions
      ∧ ∀ k, (s.caught l b wrong bad).slot k = s.byteSlot l b k := by
  have ha := caught_alerts s l b wrong bad
  obtain ⟨hunit, htime, hentries, hsessions, -⟩ := ha.same
  have hr := took_rest s l b wrong bad
  obtain ⟨-, hslot, -⟩ := slotByte_alerts l b (grantData (s.took l b wrong bad))
  rw [grantData_unit] at hunit
  rw [grantData_unitTime] at htime
  refine ⟨hunit.trans ?_, htime.trans ?_, fun i => (ha.entry i).trans ?_, hsessions, fun k => ?_⟩
  · rw [hr]
  · rw [hr]
  · rw [grantData_entry, hr]
    rfl
  · unfold State.caught
    rw [setLine_slot, hslot]
    refine byteSlot_congr ?_ l b k
    rw [grantData_slots, hr]

theorem caught_line (s : State) (l : LineNo) (b : Byte) (wrong bad : Bool) : ∃ m : LineSummary,
    (s.caught l b wrong bad).line l = s.watchedLine l b { (s.line l).took b wrong bad with summary := m } := by
  obtain ⟨-, -, m, e⟩ := slotByte_alerts l b (grantData (s.took l b wrong bad))
  rw [grantData_line, took_line] at e
  unfold State.caught
  rw [setLine_line_same, e]
  exact ⟨m, rfl⟩

theorem took_fillingSlot? (s : State) (l : LineNo) (b : Byte) (wrong bad : Bool) :
    (grantData (s.took l b wrong bad)).fillingSlot? l = s.fillingSlot? l := by
  refine fillingSlot?_congr ?_
  rw [grantData_slots, took_rest]

/-- With no slot FILLING for the line its summary is as it was; one that is complete is in it. -/
theorem caught_summary (s : State) (l : LineNo) (b : Byte) (wrong bad : Bool) :
    (s.fillingSlot? l = none → ((s.caught l b wrong bad).line l).summary = (s.line l).summary
        ∧ (s.caught l b wrong bad).slots = s.slots)
      ∧ ∀ k, s.fillingSlot? l = some k → (s.slot k).postTarget ≤ (s.slot k).postHeld + 1 →
          ((s.caught l b wrong bad).line l).summary.has .snapshotDone = true := by
  have hfills := took_fillingSlot? s l b wrong bad
  have hslots : (grantData (s.took l b wrong bad)).slots = s.slots := by rw [grantData_slots, took_rest]
  unfold State.caught
  rw [setLine_line_same]
  refine ⟨fun h => ?_, fun k h hd => ?_⟩
  · rw [slotByte_none (hfills.trans h), grantData_line, took_line, setLine_slots]
    exact ⟨rfl, hslots⟩
  · obtain ⟨-, -, -, hdone⟩ := slotByte_some (hfills.trans h) b
    refine hdone ?_
    rw [State.slot, hslots]
    exact hd

theorem captureByte_caught (l : LineNo) (b : Byte) (wrong bad : Bool) (s : State) :
    captureByte l b wrong bad s = watchActions l (s.firedBy l b) (s.caught l b wrong bad) := by
  obtain ⟨ha, -, m, e⟩ := slotByte_alerts l b (grantData (s.took l b wrong bad))
  have hr := took_rest s l b wrong bad
  have hentry : ∀ i, (slotByte l b (grantData (s.took l b wrong bad))).entry i = s.entry i := fun i => by
    rw [ha.entry, grantData_entry, hr]
    rfl
  rw [grantData_line, took_line] at e
  rw [captureByte_took]
  unfold State.caught State.firedBy
  simp only
  generalize slotByte l b (grantData (s.took l b wrong bad)) = y at *
  have hw : (y.line l).matchWindow = (s.line l).matchWindow := by
    rw [e]
    rfl
  have hp : ∀ i, (y.line l).pair i = (s.line l).pair i := fun i => by
    rw [e]
    rfl
  simp only [watchByte, State.watchedLine, State.firing, hentry, hw, hp]

end Sys2Proof.Machine
end

section
/-! SUPPORT. What a captured byte leaves in line, ring, sessions and watch pairs, as claims write it, and what it leaves of the
rest of the part. -/

namespace Sys2Proof.Machine

variable {s : State} {u w : Line} {l : LineNo} {b : Byte} {wrong bad : Bool} {i : EntryNo}

/-! ### Counters, timer, pairs, sessions -/

theorem counters_captured (c : LineCounters) (wrong bad : Bool) : c.captured wrong bad =
    { c with
      bytesCaptured := c.bytesCaptured + 1
      parityErrors := c.parityErrors + (if wrong then 1 else 0)
      framingErrors := c.framingErrors + (if bad then 1 else 0) } := by
  cases wrong <;> cases bad <;> simp [LineCounters.captured]

theorem gatherFull_eq {rate : TakenRate} (h : u.current = some rate) :
    u.gatherFull = max 4608 (4 * charTime u.record.framing rate.rate) := by
  simp only [Line.gatherFull, h]
  rfl

/-- What an entry's pair on a line becomes at a captured byte (R84). -/
theorem after_eq (e : WatchEntry) (l : LineNo) (p : WatchPair) (ws : List Byte) :
    (¬ e.hits l p ws = true → e.after l p ws = p)
      ∧ (e.hits l p ws = true → ¬ e.fires l p ws = true → e.after l p ws = { p with hits := p.hits + 1 })
      ∧ (e.fires l p ws = true → e.after l p ws =
          { hits := 0, fires := p.fires + 1
            holdoff := if e.holdoff = 0 then none else some (e.holdoff * 1000) }) := by
  unfold WatchEntry.after
  refine ⟨fun hn => ?_, fun hh hf => ?_, fun hf => ?_⟩
  · have hf : ¬ e.fires l p ws = true := fun hf => hn (Bool.and_eq_true_iff.mp hf).1
    rw [if_neg hf, if_neg hn]
  · rw [if_neg hf, if_pos hh]
  · rw [if_pos hf]

theorem watchedLine_pair (s : State) (l : LineNo) (b : Byte) (u : Line) (i : EntryNo) :
    (s.watchedLine l b u).pair i = (s.entry i).after l (u.pair i) (windowAfter u.matchWindow b) := by
  unfold State.watchedLine Line.pair
  rw [Vector.getElem_ofFn]

/-- A session's record once a byte is captured: its cursor passed by where a full ring lost its oldest byte (R117). -/
theorem passes_eq (u : Line) (l : LineNo) (b : Byte) (r : Session) :
    u.passes l b r =
      let full := u.record.ringKiB * 1024 ≤ u.ring.newest - u.ring.oldest
      let oldest := if full then u.ring.oldest + 1 else u.ring.oldest
      if full ∧ r.isOpen = true ∧ r.line = l ∧ r.cursor < oldest then
        { r with
          cursor := oldest
          gap := min (r.gap + (oldest - r.cursor)) (2 ^ 32 - 1)
          lost := min (r.lost + (oldest - r.cursor)) (2 ^ 32 - 1) }
      else r := by
  unfold Line.passes Session.passedBy Ring.held LineRecord.ringBytes
  rw [append_eq]
  simp only [saturate32]
  by_cases h : u.record.ringKiB * 1024 ≤ u.ring.newest - u.ring.oldest
  · simp only [h, true_and, if_true]
  · simp only [h, false_and, if_false]

/-! ### The place of a byte -/

theorem append_ringLaw (hl : u.ringLaw) (hk : 1 ≤ u.record.ringKiB) (hrec : w.record = u.record)
    (hring : w.ring = u.ring.append u.record.ringBytes b) :
    w.ring.held ≤ w.record.ringBytes ∧ 0 < w.record.ringBytes ∧ w.ring.newest = u.ring.newest + 1 := by
  obtain ⟨hle, -, hheld⟩ := hl
  rw [hring, hrec, append_eq]
  unfold Ring.held LineRecord.ringBytes at *
  simp only
  refine ⟨?_, by omega, trivial⟩
  split <;> omega

/-- Every byte held stands at its offset modulo the ring size, the new one included (R44). -/
theorem append_storedAt (hl : u.ringLaw) (hk : 1 ≤ u.record.ringKiB) (hrec : w.record = u.record)
    (hring : w.ring = u.ring.append u.record.ringBytes b) {o : Nat} (ho : w.ring.oldest ≤ o) (hn : o ≤ u.ring.newest) :
    w.storedAt (o % (u.record.ringKiB * 1024)) = w.ring.byteAt o := by
  obtain ⟨hheld, hsize, hnew⟩ := append_ringLaw hl hk hrec hring
  have hplace := storedAt_byteAt hsize hheld ho (by omega)
  rw [hrec] at hplace
  exact hplace

theorem append_newest (hl : u.ringLaw) (hk : 1 ≤ u.record.ringKiB) (hrec : w.record = u.record)
    (hring : w.ring = u.ring.append u.record.ringBytes b) :
    w.storedAt (u.ring.newest % (u.record.ringKiB * 1024)) = some b := by
  obtain ⟨hle, hlen, hheld⟩ := hl
  have hold : w.ring.oldest ≤ u.ring.newest := by
    rw [hring, append_eq]
    unfold LineRecord.ringBytes
    simp only
    split <;> omega
  rw [append_storedAt ⟨hle, hlen, hheld⟩ hk hrec hring hold le_rfl]
  unfold Ring.byteAt
  rw [if_pos hold, hring, append_eq]
  unfold Ring.held LineRecord.ringBytes at *
  simp only
  split
  · rw [List.getElem?_append_right (by simp only [List.length_tail]; omega), List.length_tail,
      show u.ring.newest - (u.ring.oldest + 1) - (u.ring.bytes.length - 1) = 0 by omega]
    rfl
  · rw [List.getElem?_append_right (by omega), hlen, Nat.sub_self]
    rfl

/-! ### The part after the byte -/

theorem captured_acts (s : State) (l : LineNo) (b : Byte) (wrong bad : Bool) :
    State.Acts l (grantData (s.took l b wrong bad)) (captureByte l b wrong bad s) := by
  rw [captureByte_caught]
  exact (caught_alerts s l b wrong bad).toActs.trans (watchActions_acts l _ _)

/-- Of the line, a captured byte leaves what it took, watched, the actions of the entries that fire on top. -/
theorem captured_line (s : State) (l : LineNo) (b : Byte) (wrong bad : Bool) : ∃ ms loss m h f,
    (captureByte l b wrong bad s).line l =
      { s.watchedLine l b ((s.line l).took b wrong bad) with
        marks := ms, markLoss := loss, summary := m, hold := h, floor := f } := by
  obtain ⟨t, ms, loss, m, h, f, d, e, -⟩ := watchActions_effect l (s.firedBy l b) (s.caught l b wrong bad)
  obtain ⟨m', e'⟩ := caught_line s l b wrong bad
  rw [captureByte_caught, e, told_line, setLine_line_same, e']
  exact ⟨ms, loss, m, h, f, rfl⟩

theorem captured_line_ne {j : LineNo} (hj : j ≠ l) : (captureByte l b wrong bad s).line j = s.line j := by
  rw [(captured_acts s l b wrong bad).line_ne j hj, grantData_line, took_line_ne hj]

theorem captured_busy (h : s.upFree = false) (l : LineNo) (b : Byte) (wrong bad : Bool) :
    (captureByte l b wrong bad s).upTx = s.upTx ∧ (captureByte l b wrong bad s).lastMember = s.lastMember := by
  have hr := took_rest s l b wrong bad
  have hfree : (s.took l b wrong bad).upFree = false := by
    rw [← h, hr, State.upFree, State.upFree]
  have ha := captured_acts s l b wrong bad
  rw [grantData_busy hfree] at ha
  obtain ⟨hu, hm⟩ := ha.busy hfree
  rw [hu, hm, hr]
  exact ⟨rfl, rfl⟩

theorem captured_rest (s : State) (l : LineNo) (b : Byte) (wrong bad : Bool) :
    captureByte l b wrong bad s =
      { s with
        lines := (captureByte l b wrong bad s).lines, sessions := (captureByte l b wrong bad s).sessions
        slots := (captureByte l b wrong bad s).slots, responses := (captureByte l b wrong bad s).responses
        unitSummary := (captureByte l b wrong bad s).unitSummary, upTx := (captureByte l b wrong bad s).upTx
        lastMember := (captureByte l b wrong bad s).lastMember
        lastSession := (grantData (s.took l b wrong bad)).lastSession
        counters := { s.counters with responseDrops := (captureByte l b wrong bad s).counters.responseDrops } } := by
  have ha := captured_acts s l b wrong bad
  obtain ⟨-, -, -, hss, -⟩ := ha.same
  have h := ha.rest
  have hr := took_rest s l b wrong bad
  obtain ⟨tx, m, i, ss, e, -⟩ := grantData_effect (s.took l b wrong bad)
  generalize captureByte l b wrong bad s = t at *
  rw [e, hr] at h hss
  rw [e]
  rw [hss]
  exact h

end Sys2Proof.Machine
end

section
/-! SUPPORT. What the entries that fire at a captured byte leave, seen from the part before the byte (R85 to R90). -/

namespace Sys2Proof.Machine

variable {s : State} {l : LineNo} {b : Byte} {wrong bad : Bool} {i : EntryNo}

/-- The line at the Watch Unit, in what the actions read of it. -/
theorem caught_fields (s : State) (l : LineNo) (b : Byte) (wrong bad : Bool) :
    ((s.caught l b wrong bad).line l).ring = (s.line l).ring.append (s.line l).record.ringBytes b
      ∧ ((s.caught l b wrong bad).line l).marks = ((s.line l).took b wrong bad).marks
      ∧ ((s.caught l b wrong bad).line l).markLoss = (s.line l).markLoss
      ∧ ((s.caught l b wrong bad).line l).hold = (s.line l).hold
      ∧ ((s.caught l b wrong bad).line l).floor = (s.line l).floor
      ∧ ((s.caught l b wrong bad).line l).record = (s.line l).record := by
  obtain ⟨m, e⟩ := caught_line s l b wrong bad
  rw [e]
  exact ⟨rfl, rfl, rfl, rfl, rfl, rfl⟩

theorem captured_noted (hi : i ∈ s.firedBy l b) (hn : (s.entry i).note = true) :
    ((captureByte l b wrong bad s).line l).summary.has .watchFired = true
      ∧ ((captureByte l b wrong bad s).line l).summary.watches.getLsbD i.val = true := by
  obtain ⟨-, -, hentry, -⟩ := caught_same s l b wrong bad
  rw [captureByte_caught]
  exact watchActions_noted hi (by rw [hentry, hn])

theorem captured_hold {n : Nat} (hi : i ∈ s.firedBy l b) (hn : (s.entry i).holdType = some n)
    (hmax : ∀ j ∈ s.firedBy l b, ∀ m, (s.entry j).holdType = some m → m ≤ n) :
    ((captureByte l b wrong bad s).line l).hold = ((extendHold l n s).line l).hold := by
  obtain ⟨-, htime, hentry, -⟩ := caught_same s l b wrong bad
  obtain ⟨-, -, -, hhold, -⟩ := caught_fields s l b wrong bad
  rw [captureByte_caught, watchActions_hold hi (by rw [hentry, hn]) fun j hj m hm => hmax j hj m (by rw [← hentry, hm]),
    extendHold_hold, extendHold_hold, htime, hhold]

theorem captured_unheld (h : ∀ i ∈ s.firedBy l b, (s.entry i).holdType = none) :
    ((captureByte l b wrong bad s).line l).hold = (s.line l).hold := by
  obtain ⟨-, -, hentry, -⟩ := caught_same s l b wrong bad
  obtain ⟨-, -, -, hhold, -⟩ := caught_fields s l b wrong bad
  rw [captureByte_caught, watchActions_unheld fun i hi => by rw [hentry, h i hi], hhold]

theorem captured_undropped (h : ∀ i ∈ s.firedBy l b, (s.entry i).dropFloor = false) :
    ((captureByte l b wrong bad s).line l).floor = (s.line l).floor := by
  obtain ⟨-, -, hentry, -⟩ := caught_same s l b wrong bad
  obtain ⟨-, -, -, -, hfloor, -⟩ := caught_fields s l b wrong bad
  rw [captureByte_caught, watchActions_undropped fun i hi => by rw [hentry, h i hi], hfloor]

/-! ### The floor that is dropped -/

/-- The part before its floor is dropped. -/
def State.undropped (s : State) (l : LineNo) (b : Byte) (wrong bad : Bool) : State :=
  beforeDrop l (s.firedBy l b) (s.caught l b wrong bad)

theorem undropped_same (s : State) (l : LineNo) (b : Byte) (wrong bad : Bool) :
    ((s.undropped l b wrong bad).line l).floor = (s.line l).floor
      ∧ ((s.undropped l b wrong bad).line l).record = (s.line l).record
      ∧ (∀ ws, (s.undropped l b wrong bad).nextWaiter? ws = s.nextWaiter? ws)
      ∧ (s.unit.collector = 0 → (s.undropped l b wrong bad).responses = s.responses
          ∧ (s.undropped l b wrong bad).upTx = (grantData (s.took l b wrong bad)).upTx) := by
  obtain ⟨hf, hrec⟩ := beforeDrop_floor l (s.firedBy l b) (s.caught l b wrong bad)
  obtain ⟨-, -, -, -, hfloor, hrecord⟩ := caught_fields s l b wrong bad
  have ha := (caught_alerts s l b wrong bad).trans (beforeDrop_alerts l (s.firedBy l b) _)
  obtain ⟨-, -, -, hss, -⟩ := ha.same
  have hr := took_rest s l b wrong bad
  refine ⟨hf.trans hfloor, hrec.trans hrecord, nextWaiter?_congr fun i => ?_, fun hc => ?_⟩
  · obtain ⟨tx, m, j, ss, e, hrecs⟩ := grantData_effect (s.took l b wrong bad)
    obtain ⟨c, k, n, hrec⟩ := hrecs i
    rw [State.undropped, State.session, hss, e, hrec, took_session]
    unfold Line.passes Session.passedBy
    split
    · split <;> rfl
    · rfl
  · obtain ⟨h1, h2⟩ := ha.silent (by rw [grantData_unit, hr]; exact hc)
    rw [grantData_responses, hr] at h1
    exact ⟨h1, h2⟩

theorem captured_dropped (hi : i ∈ s.firedBy l b) (hd : (s.entry i).dropFloor = true) :
    captureByte l b wrong bad s = releaseFloor l (some .watch) (s.undropped l b wrong bad) := by
  obtain ⟨-, -, hentry, -⟩ := caught_same s l b wrong bad
  rw [captureByte_caught]
  exact watchActions_dropped hi (by rw [hentry, hd])

theorem captured_floor_free (hi : i ∈ s.firedBy l b) (hd : (s.entry i).dropFloor = true)
    (hf : (s.line l).floor.state = .free) : ((captureByte l b wrong bad s).line l).floor = (s.line l).floor := by
  obtain ⟨hfloor, -⟩ := undropped_same s l b wrong bad
  rw [captured_dropped hi hd, releaseFloor_free (by rw [hfloor, hf]), hfloor]

/-- The floor served or left FREE, and the notices that tell of it (R132, R133, R137). -/
theorem captured_released (hi : i ∈ s.firedBy l b) (hd : (s.entry i).dropFloor = true) :
    ∃ x : State, (s.unit.collector = 0 →
        x.responses = s.responses ∧ x.upTx = (grantData (s.took l b wrong bad)).upTx)
      ∧ (∀ p, ((s.line l).floor.state = .parked p
            ∨ (s.line l).floor.state = .held p ∧ (s.line l).floor.waiting = []) →
          (x.line l).floor = { (s.line l).floor with state := .free, idle := .stopped }
          ∧ captureByte l b wrong bad s = placeNotice (x.noticeFrame l p (some .watch)) x)
      ∧ ∀ h v, (s.line l).floor.state = .held h → s.nextWaiter? (s.line l).floor.waiting = some v →
          (x.line l).floor =
            { (s.line l).floor with
              state := .held v, waiting := (s.line l).floor.waiting.erase v, idle := (s.line l).idleFull }
          ∧ captureByte l b wrong bad s =
              placeNotice (x.noticeFrame l v none) (placeNotice (x.noticeFrame l h (some .watch)) x) := by
  obtain ⟨hfloor, hrec, hnext, hquiet⟩ := undropped_same s l b wrong bad
  obtain ⟨x, hresp, htx, hempty, hserved⟩ := releaseFloor_released l .watch (s.undropped l b wrong bad)
  have hidle : ((s.undropped l b wrong bad).line l).idleFull = (s.line l).idleFull := by
    unfold Line.idleFull
    rw [hrec, hfloor]
  rw [hfloor] at hempty
  rw [hfloor, hidle] at hserved
  simp only [hnext] at hserved
  rw [captured_dropped hi hd]
  refine ⟨x, fun hc => ?_, hempty, hserved⟩
  obtain ⟨h1, h2⟩ := hquiet hc
  exact ⟨hresp.trans h1, htx.trans h2⟩

theorem captured_floor_emptied {h : SessionNo} (hi : i ∈ s.firedBy l b) (hd : (s.entry i).dropFloor = true)
    (hf : (s.line l).floor.state = .held h) (hw : (s.line l).floor.waiting = []) :
    ((captureByte l b wrong bad s).line l).floor = { (s.line l).floor with state := .free, idle := .stopped } := by
  obtain ⟨x, -, hempty, -⟩ := captured_released (wrong := wrong) (bad := bad) hi hd
  obtain ⟨hx, e⟩ := hempty h (.inr ⟨hf, hw⟩)
  obtain ⟨d, e', -⟩ := placeNotice_effect (x.noticeFrame l h (some .watch)) x
  rw [e, e', told_line, hx]

end Sys2Proof.Machine
end

section
/-! SUPPORT. The slots and marks that a captured byte leaves, and CHARACTER_CAPTURED. -/

namespace Sys2Proof.Machine

variable {s : State} {l : LineNo} {b : Byte} {wrong bad : Bool} {i : EntryNo}

/-! ### Slots and marks -/

/-- The marks that a captured byte keeps (R46). -/
def Line.keptMarks (u : Line) : List Mark :=
  u.marks.filter fun m =>
    decide ((if u.record.ringKiB * 1024 ≤ u.ring.newest - u.ring.oldest then u.ring.oldest + 1 else u.ring.oldest)
      ≤ m.offset)

/-- The WATCH_HIT marks that a captured byte places (R86). -/
def State.hitMarks (s : State) (l : LineNo) (b : Byte) : List Mark :=
  ((s.firedBy l b).filter fun i => (s.entry i).mark).map fun i =>
    { offset := (s.line l).ring.newest + 1, stamp := s.unitTime, kind := .watchHit, arg := i.val }

/-- A line holds, of marks, those kept and then some new ones, the lost ones counted (R53, R55). -/
def Line.marksWith (t v : Line) (new : List Mark) : Prop :=
  t.marks = marksAfter v.keptMarks new
    ∧ t.markLoss = v.markLoss + BitVec.ofNat 32 (v.keptMarks.length + new.length - 32)

theorem caught_marks (s : State) (l : LineNo) (b : Byte) (wrong bad : Bool) :
    ((s.caught l b wrong bad).line l).marks = (s.line l).keptMarks := by
  obtain ⟨-, hmarks, -⟩ := caught_fields s l b wrong bad
  rw [hmarks, Line.took, append_eq]
  rfl

theorem marksWith_of_marksOf {t : Line} {new : List Mark}
    (h : t.marksOf (((s.caught l b wrong bad).line l).marked new)) : t.marksWith (s.line l) new := by
  obtain ⟨-, -, hloss, -⟩ := caught_fields s l b wrong bad
  obtain ⟨hm, hl⟩ := h
  rw [Line.marked, caught_marks] at hm hl
  rw [hloss] at hl
  exact ⟨hm, hl⟩

theorem caught_newest (s : State) (l : LineNo) (b : Byte) (wrong bad : Bool) :
    ((s.caught l b wrong bad).line l).ring.newest = (s.line l).ring.newest + 1 := by
  obtain ⟨hring, -⟩ := caught_fields s l b wrong bad
  rw [hring, append_eq]

theorem caught_hitMarks (s : State) (l : LineNo) (b : Byte) (wrong bad : Bool) :
    ((s.caught l b wrong bad).line l).hitMarks (s.caught l b wrong bad).unitTime
        ((s.firedBy l b).filter fun i => ((s.caught l b wrong bad).entry i).mark) = s.hitMarks l b := by
  obtain ⟨-, htime, hentry, -⟩ := caught_same s l b wrong bad
  simp only [Line.hitMarks, State.hitMarks, htime, hentry, caught_newest]

theorem caught_few (h : (s.line l).marks.length ≤ 32) : ((s.caught l b wrong bad).line l).marks.length ≤ 32 := by
  rw [caught_marks]
  exact (List.length_filter_le ..).trans h

/-- The entries that trigger a snapshot at a captured byte (R88). -/
def State.triggering (s : State) (l : LineNo) (b : Byte) : List EntryNo :=
  (s.firedBy l b).filter fun i => (s.entry i).snapshot.isSome

theorem caught_triggering (s : State) (l : LineNo) (b : Byte) (wrong bad : Bool) :
    ((s.firedBy l b).filter fun i => ((s.caught l b wrong bad).entry i).snapshot.isSome) = s.triggering l b := by
  obtain ⟨-, -, hentry, -⟩ := caught_same s l b wrong bad
  simp only [State.triggering, hentry]

theorem captured_untriggered (h : s.triggering l b = []) :
    (∀ k, (captureByte l b wrong bad s).slot k = s.byteSlot l b k)
      ∧ ((s.line l).marks.length ≤ 32 →
          ((captureByte l b wrong bad s).line l).marksWith (s.line l) (s.hitMarks l b)) := by
  obtain ⟨hslots, hmarks⟩ := watchActions_untriggered (l := l) ((caught_triggering s l b wrong bad).trans h)
  obtain ⟨-, -, -, -, hslot⟩ := caught_same s l b wrong bad
  rw [caught_hitMarks] at hmarks
  rw [captureByte_caught]
  refine ⟨fun k => ?_, fun hlen => marksWith_of_marksOf (hmarks (caught_few hlen))⟩
  rw [State.slot, hslots]
  exact hslot k

theorem captured_triggered {rest : List EntryNo} {o : SnapshotLengths} (h : s.triggering l b = i :: rest)
    (ho : (s.entry i).snapshot = some o) :
    ∃ how : Settled,
      Trigger.settles { line := l, cause := .watch i, pre := o.pre, post := o.post, others := rest.length } s
        ((captureByte l b wrong bad s).line l) (s.byteSlot l b) (captureByte l b wrong bad s).slot how
      ∧ ((s.line l).marks.length ≤ 32 → ((captureByte l b wrong bad s).line l).marksWith (s.line l)
          (s.hitMarks l b ++ how.marks ((s.line l).ring.newest + 1) s.unitTime))
      ∧ (how = .missed → (captureByte l b wrong bad s).unitSummary.has .snapshotMissed = true)
      ∧ (∀ k, how = .taken k → min o.post (8192 - o.pre) = 0 →
          ((captureByte l b wrong bad s).line l).summary.has .snapshotDone = true) := by
  obtain ⟨hunit, htime, hentry, -, hslot⟩ := caught_same s l b wrong bad
  obtain ⟨how, hsettles, hmarks, hmissed, hdone⟩ := watchActions_triggered (l := l)
    ((caught_triggering s l b wrong bad).trans h) ((congrArg WatchEntry.snapshot (hentry i)).trans ho)
  obtain ⟨hring, -⟩ := caught_fields s l b wrong bad
  obtain ⟨ms, loss, m, hh, f, hline⟩ := captured_line s l b wrong bad
  have hbefore : (s.caught l b wrong bad).slot = s.byteSlot l b := funext hslot
  have hringT : ((captureByte l b wrong bad s).line l).ring = ((s.caught l b wrong bad).line l).ring := by
    rw [hline, hring]
    rfl
  rw [← captureByte_caught] at hsettles hmarks hmissed hdone
  rw [caught_hitMarks, caught_newest, htime] at hmarks
  rw [hbefore] at hsettles
  exact ⟨how, (settles_congr htime.symm hunit.symm hringT).mpr hsettles,
    fun hlen => marksWith_of_marksOf (hmarks (caught_few hlen)), hmissed, hdone⟩

/-- A slot that the byte completes is in the line's summary (R100). -/
theorem captured_done {k : SlotNo} (h : s.fillingSlot? l = some k)
    (hd : (s.slot k).postTarget ≤ (s.slot k).postHeld + 1) :
    ((captureByte l b wrong bad s).line l).summary.has .snapshotDone = true := by
  rw [captureByte_caught]
  obtain ⟨-, hdone⟩ := caught_summary s l b wrong bad
  exact (watchActions_acts l _ _).grows.1 _ (hdone k h hd)

theorem captured_quiet (h : s.firedBy l b = []) : captureByte l b wrong bad s = s.caught l b wrong bad := by
  rw [captureByte_caught, h, watchActions_nil]

end Sys2Proof.Machine
end

section
/-! SUPPORT. CHARACTER_CAPTURED: a byte captured on a LIVE line, and all that it does. -/

namespace Sys2Proof.Machine

variable {s : State} {l : LineNo} {b : Byte} {wrong bad : Bool} {i : EntryNo}

theorem capture_exec {f : Framing} (h : (s.line l).state = .live)
    (hf : (s.line l).rx = .waiting ∧ f = (s.line l).record.framing ∨ (s.line l).rx = .assembling f) (data : Byte)
    (p bad : Bool) :
    exec (if bad then .framingErrorCapture l data p else .characterCapture l data p) s =
      .next (upGrant (captureByte l (f.capturedByte data) (f.parityError data p) bad s)) := by
  have hframing : (s.line l).captureFraming = some f := by
    rcases hf with ⟨hr, rfl⟩ | hr <;> simp only [Line.captureFraming, hr]
  have hcapture : captureCharacter l data p bad s =
      captureByte l (f.capturedByte data) (f.parityError data p) bad s := by
    simp only [captureCharacter, if_pos h, hframing]
  rw [← hcapture]
  cases bad <;> rfl

/-! ### The clauses, as the claim writes them -/

/-- What the line and its ring are after the byte. -/
theorem captured_ring (s : State) (l : LineNo) (b : Byte) (wrong bad : Bool) :
    ((captureByte l b wrong bad s).line l).ring = (s.line l).ring.append ((s.line l).record.ringKiB * 1024) b
      ∧ ((captureByte l b wrong bad s).line l).record = (s.line l).record := by
  obtain ⟨ms, loss, m, h, fl, hline⟩ := captured_line s l b wrong bad
  rw [hline]
  exact ⟨rfl, rfl⟩

theorem captured_pair (s : State) (l : LineNo) (b : Byte) (wrong bad : Bool) (i : EntryNo) :
    ((captureByte l b wrong bad s).line l).pair i =
      (s.entry i).after l ((s.line l).pair i) (windowAfter (s.line l).matchWindow b) := by
  obtain ⟨ms, loss, m, h, fl, hline⟩ := captured_line s l b wrong bad
  rw [hline]
  exact watchedLine_pair s l b ((s.line l).took b wrong bad) i

theorem byteSlot_filling {k : SlotNo} (h : s.fillingSlot? l = some k) (b : Byte) :
    s.byteSlot l b k =
        { s.slot k with
          postHeld := (s.slot k).postHeld + 1
          data := (s.slot k).data ++ [b]
          state := if (s.slot k).postTarget ≤ (s.slot k).postHeld + 1 then .complete else (s.slot k).state
          truncated := if (s.slot k).postTarget ≤ (s.slot k).postHeld + 1 then false else (s.slot k).truncated
          fillLeft := if (s.slot k).postTarget ≤ (s.slot k).postHeld + 1 then none else (s.slot k).fillLeft }
      ∧ ∀ j, j ≠ k → s.byteSlot l b j = s.slot j := by
  unfold State.byteSlot
  rw [h]
  refine ⟨?_, fun j hj => ?_⟩
  · by_cases hd : (s.slot k).postTarget ≤ (s.slot k).postHeld + 1
    · simp only [if_neg (not_not_intro rfl), if_pos hd]
    · simp only [if_neg (not_not_intro rfl), if_neg hd]
  · exact if_pos fun hk => hj (Option.some.inj hk).symm

/-- Where no entry fires, the marks are those kept, and beside the slot that takes the byte nothing changes. -/
theorem captured_quietly (h : s.firedBy l b = []) :
    ((captureByte l b wrong bad s).line l).marks = (s.line l).keptMarks
      ∧ (s.fillingSlot? l = none → (captureByte l b wrong bad s).slots = s.slots
          ∧ ((captureByte l b wrong bad s).line l).summary = (s.line l).summary)
      ∧ ∀ k, (captureByte l b wrong bad s).slot k = s.byteSlot l b k := by
  rw [captured_quiet h]
  obtain ⟨hnone, -⟩ := caught_summary s l b wrong bad
  obtain ⟨-, -, -, -, hslot⟩ := caught_same s l b wrong bad
  exact ⟨caught_marks s l b wrong bad, fun hn => (hnone hn).symm, hslot⟩

/-- Settles O47: the byte goes through ring, sessions, slot and watch in turn, and the actions of the entries that fire follow
in the order of R85. -/
theorem characterCaptured : Obligations.CharacterCaptured := by
  refine ⟨fun pattern window => ?_, fun s l data p bad f hlive hf => ?_⟩
  · intro sameLetter' agrees
    have hagrees : ∀ e c, agrees e c ↔ e.agrees c = true := fun e c => by
      cases e with
      | any => exact ⟨fun _ => rfl, fun _ => trivial⟩
      | literal b fold => rw [literal_agrees, sameLetter_iff]
    simp only [hagrees]
    exact patternMatches_iff pattern window
  intro v b ones wrong full oldest window hit fired kept hitMarks snaps byteSlot
  have hb : f.capturedByte data = b := capturedByte_eq f data
  have hwrong : f.parityError data p = wrong := by
    have h := parityError_eq f data p
    rw [hb] at h
    exact h
  have hexec := capture_exec hlive hf data p bad
  rw [hb, hwrong] at hexec
  refine ⟨s.took l b wrong bad, captureByte l b wrong bad s, hexec, ?_⟩
  clear_value wrong b
  clear hexec hwrong hb ones
  obtain ⟨ms, loss, m, h, fl, hline⟩ := captured_line s l b wrong bad
  obtain ⟨hring, hrecord⟩ := captured_ring s l b wrong bad
  have hfired : ∀ i, fired i = true ↔ i ∈ s.firedBy l b := fun i => mem_firedBy.symm
  have hacting : ∀ q : EntryNo → Bool, (s.firedBy l b).filter q = (List.finRange 64).filter fun i => fired i && q i :=
    fun q => by
      rw [State.firedBy, State.firing, List.filter_filter]
      exact List.filter_congr fun i _ => Bool.and_comm ..
  have hhits : hitMarks = s.hitMarks l b := by
    rw [State.hitMarks, hacting]
  have htrigger : snaps = s.triggering l b := by
    rw [State.triggering, hacting]
  have hslot : byteSlot = s.byteSlot l b := rfl
  refine ⟨?_, ?_, fun j hj => took_line_ne hj, took_rest s l b wrong bad, ?_, fun hstore o ho hn => ?_, fun hstore => ?_, ?_,
    ?_, ?_, ?_, fun rate hrate => ?_, fun i => ?_, fun i => ?_, fun i hi hn => captured_noted ((hfired i).mp hi) hn, fun i n hi hn hv hmax => ?_, fun i n e hi hn hv hmax => ?_, fun hno => ?_, fun hno => ?_,
    fun i holder hi hd hh hw => captured_floor_emptied ((hfired i).mp hi) hd hh hw,
    fun i hi hd => ⟨captured_floor_free ((hfired i).mp hi) hd, captured_released ((hfired i).mp hi) hd⟩,
    fun k hk hd => captured_done hk hd, fun hsnaps => ?_, fun i rest o hsnaps ho => ?_, fun hno => ?_, ?_,
    fun j hj => captured_line_ne hj, fun hu => captured_busy hu l b wrong bad, captured_rest s l b wrong bad⟩
  · rw [took_line, hring]
    rfl
  · rw [took_line]
    rfl
  · obtain ⟨-, -, -, hss, -⟩ := (captured_acts s l b wrong bad).same
    exact hss
  · obtain ⟨hlaws, -⟩ := hstore
    obtain ⟨hl, -, hk, -⟩ := hlaws l
    refine append_storedAt hl hk hrecord hring ?_ hn
    rw [hring, append_eq]
    exact ho
  · obtain ⟨hlaws, -⟩ := hstore
    obtain ⟨hl, -, hk, -⟩ := hlaws l
    exact append_newest hl hk hrecord hring
  · rw [hring, append_eq]
  · rw [hline]
    exact counters_captured v.counters wrong bad
  · rw [hline]
    rfl
  · rw [hline]
    rfl
  · rw [hline]
    exact congrArg some (gatherFull_eq hrate)
  · rw [captured_pair]
    exact after_eq (s.entry i) l (v.pair i) window
  · rw [took_session]
    exact passes_eq v l b (s.session i)
  · rw [captured_hold ((hfired i).mp hi) hn fun j hj m hm => hmax j m ((hfired j).mpr hj) hm, extendHold_hold, hv]
  · rw [captured_hold ((hfired i).mp hi) hn fun j hj m hm => hmax j m ((hfired j).mpr hj) hm, extendHold_hold, hv]
  · exact captured_unheld fun i hi => hno i ((hfired i).mpr hi)
  · exact captured_undropped fun i hi => hno i ((hfired i).mpr hi)
  · obtain ⟨hslots, hmarks⟩ := captured_untriggered (wrong := wrong) (bad := bad) (htrigger.symm.trans hsnaps)
    rw [hslot, hhits]
    exact ⟨hslots, hmarks⟩
  · rw [hslot, hhits]
    exact captured_triggered (htrigger.symm.trans hsnaps) ho
  · have hnobody : s.firedBy l b = [] := List.eq_nil_iff_forall_not_mem.mpr fun i hi => hno i ((hfired i).mpr hi)
    obtain ⟨hmarks, hnone, hslots⟩ := captured_quietly (wrong := wrong) (bad := bad) hnobody
    refine ⟨hmarks, hnone, fun k hk => ?_⟩
    obtain ⟨htaken, hothers⟩ := byteSlot_filling hk b
    exact ⟨(hslots k).trans htaken, fun j hj => (hslots j).trans (hothers j hj)⟩
  · rw [hline]
    rfl

end Sys2Proof.Machine
end

section
/-! SUPPORT. The tables: RATE TABLE READ and SET (R42, R43), MONITOR SET (R76) and WATCH SET (R91), and what their fields
may be (R75, R78, section 11.3). -/

namespace Sys2Proof.Machine

variable {s t : State} {rq : Request} {rest : List Frame} {b : List Byte}

/-! ### RATE TABLE READ -/

/-- A table's entries are those that an index names, in order. -/
theorem rates_toList (s : State) : s.rates.toList = (List.finRange 16).map s.rateAt := by
  rw [← Vector.ofFn_getElem (xs := s.rates), Vector.toList_ofFn, List.ofFn_eq_map]
  simp [State.rateAt]

/-- Settles O25: the table is read out whole, index by index. -/
theorem rateTableReadReturnsTable : Obligations.RateTableReadReturnsTable := by
  intro s rq rest ho
  have hadmits : s.admits .rateTableRead rq rest := ⟨ho, rfl⟩
  have hown : rateTableRead rq (s.taken rq rest) = Answer.of .ok
      ((List.finRange 16).flatMap (fun i => beBytes 4 (s.rateAt i)) ++ beBytes 1 s.unit.tolerance) (s.taken rq rest) := by
    simp only [rateTableRead, taken_rates, taken_unit, rates_toList, List.flatMap_map]
  exact congrArg _ (serve_answer hadmits (by decide) hown)

/-! ### Fields -/

/-- Bytes that follow a number spell a number below the next power of 256. -/
theorem beNat_foldl_lt (bs : List Byte) (acc : Nat) :
    bs.foldl (fun n x => n * 256 + x.toNat) acc < (acc + 1) * 256 ^ bs.length := by
  induction bs generalizing acc with
  | nil => simp
  | cons x xs ih =>
    have hx : acc * 256 + x.toNat + 1 ≤ (acc + 1) * 256 := by
      have := x.isLt
      omega
    calc
      _ < (acc * 256 + x.toNat + 1) * 256 ^ xs.length := ih _
      _ ≤ (acc + 1) * 256 * 256 ^ xs.length := Nat.mul_le_mul_right _ hx
      _ = (acc + 1) * 256 ^ (x :: xs).length := by rw [List.length_cons, pow_succ', Nat.mul_assoc]

/-- A field of `n` bytes holds no number that `n` bytes cannot spell. -/
theorem numAt_lt (b : List Byte) (i n : Nat) : numAt b i n < 256 ^ n := by
  have h := beNat_foldl_lt (slice b i n) 0
  rw [Nat.zero_add, Nat.one_mul] at h
  exact h.trans_le (Nat.pow_le_pow_right (by decide) (List.length_take_le ..))

theorem numAt_drop (b : List Byte) (k i n : Nat) : numAt (b.drop k) i n = numAt b (k + i) n := by
  simp only [numAt, slice, List.drop_drop]

theorem clamp_zero (hi n : Nat) : clamp 0 hi n = { val := min hi n, clamped := decide (hi < n) } := by
  simp [clamp]

/-- A field that cannot exceed its range is not clamped. -/
theorem clamp_within {hi n : Nat} (h : n ≤ hi) : clamp 0 hi n = { val := n, clamped := false } := by
  simp [clamp, h]

theorem clamp_one (hi n : Nat) :
    clamp 1 hi n = { val := max 1 (min hi n), clamped := decide (n = 0 ∨ hi < n) } := by
  simp [clamp]

theorem byte_le (b : List Byte) (i : Nat) : numAt b i 1 ≤ 255 := Nat.le_of_lt_succ (numAt_lt b i 1)

theorem word_le (b : List Byte) (i : Nat) : numAt b i 2 ≤ 65535 := Nat.le_of_lt_succ (numAt_lt b i 2)

/-- Every monitor parameter is clamped into its range (R75, R76). -/
theorem readMonitorParams_eq (b : List Byte) :
    readMonitorParams b =
      { val :=
          { bf := min 7 (numAt b 0 1), bl := min 15 (numAt b 1 1), te := numAt b 2 1, th := numAt b 3 1
            dfloor := numAt b 4 2, ce := max 1 (min 15 (numAt b 6 1)), cx := max 1 (min 15 (numAt b 7 1))
            tb := numAt b 8 1, group := min 3 (numAt b 9 1) }
        clamped := decide (7 < numAt b 0 1 ∨ 15 < numAt b 1 1 ∨ numAt b 6 1 = 0 ∨ 15 < numAt b 6 1
          ∨ numAt b 7 1 = 0 ∨ 15 < numAt b 7 1 ∨ 3 < numAt b 9 1) } := by
  simp only [readMonitorParams, clamp_within (byte_le b _), clamp_within (word_le b _), clamp_zero, clamp_one,
    Bool.or_false, Bool.decide_or, Bool.or_assoc]

/-! ### The block of a watch entry -/

theorem flagOf_eq_some {n : Nat} {x : Bool} : flagOf n = some x ↔ n ≤ 1 ∧ decide (n = 1) = x := by
  match n with
  | 0 => cases x <;> simp [flagOf]
  | 1 => cases x <;> simp [flagOf]
  | n + 2 => simp [flagOf]

theorem readLineSet_eq_some {n : Nat} {ls : BitVec 24} :
    readLineSet n = some ls ↔ n < 2 ^ 24 ∧ BitVec.ofNat 24 n = ls := by
  simp [readLineSet]

/-- The pattern element that a kind of 0–2 and a byte name (R79). -/
def patternElement (kind : Nat) (x : Byte) : PatternElement :=
  match kind with
  | 0 => .literal x false
  | 1 => .literal x true
  | _ => .any

theorem ofCodes_eq_some {kind : Nat} {x : Byte} {e : PatternElement} :
    PatternElement.ofCodes kind x = some e ↔ kind ≤ 2 ∧ patternElement kind x = e := by
  match kind with
  | 0 | 1 | 2 => simp [PatternElement.ofCodes, patternElement]
  | k + 3 => simp [PatternElement.ofCodes]

/-- Elements are read where each has a kind of 0–2. -/
theorem readElements_eq_some {n : Nat} {b : List Byte} {es : List PatternElement} :
    readElements n b = some es ↔ (∀ i, i < n → numAt b (2 * i) 1 ≤ 2)
      ∧ (List.range n).map (fun i => patternElement (numAt b (2 * i) 1) (BitVec.ofNat 8 (numAt b (2 * i + 1) 1))) = es := by
  induction n generalizing b es with
  | zero => simp [readElements]
  | succ n ih =>
    simp only [readElements, Option.bind_eq_bind, Option.bind_eq_some_iff, ofCodes_eq_some, ih, numAt_drop,
      Option.some.injEq]
    have hstep : ∀ i, 2 + 2 * i = 2 * (i + 1) := fun i => by omega
    have hnext : ∀ i, 2 + (2 * i + 1) = 2 * (i + 1) + 1 := fun i => by omega
    simp only [hstep, hnext, List.range_succ_eq_map, List.map_cons, List.map_map]
    constructor
    · rintro ⟨e, ⟨h0, rfl⟩, es', ⟨hs, rfl⟩, rfl⟩
      refine ⟨fun i hi => ?_, rfl⟩
      cases i with
      | zero => exact h0
      | succ i => exact hs i (by omega)
    · rintro ⟨h, rfl⟩
      exact ⟨_, ⟨h 0 (by omega), rfl⟩, _, ⟨fun i hi => h (i + 1) (by omega), rfl⟩, rfl⟩

/-- The fields that R91 refuses are of their sets (R78, section 11.3). -/
def entryFits (b : List Byte) : Prop :=
  numAt b 0 1 ≤ 1 ∧ 1 ≤ numAt b 1 1 ∧ numAt b 1 1 ≤ 24 ∧ numAt b 2 4 < 2 ^ 24 ∧ 1 ≤ numAt b 6 1 ∧ numAt b 6 1 ≤ 15
    ∧ numAt b 9 1 ≤ 31 ∧ ∀ i, i < numAt b 1 1 → numAt b (15 + 2 * i) 1 ≤ 2

/-- The entry that a block whose fields fit names, and whether a field was clamped (R78, R91). -/
def entryOf (b : List Byte) : Clamped WatchEntry :=
  let snaps : Bool := (numAt b 9 1).testBit 2
  let holds : Bool := (numAt b 9 1).testBit 4
  { val :=
      { enabled := decide (numAt b 0 1 = 1)
        pattern := (List.range (numAt b 1 1)).map fun i =>
          patternElement (numAt b (15 + 2 * i) 1) (BitVec.ofNat 8 (numAt b (16 + 2 * i) 1))
        lines := BitVec.ofNat 24 (numAt b 2 4), hitsNeeded := numAt b 6 1, holdoff := min 255 (numAt b 7 2)
        mark := (numAt b 9 1).testBit 0, note := (numAt b 9 1).testBit 1
        snapshot := if snaps then some { pre := min 8192 (numAt b 10 2), post := min 8192 (numAt b 12 2) } else none
        dropFloor := (numAt b 9 1).testBit 3
        holdType := if holds then some (max 1 (min 60 (numAt b 14 1))) else none }
    clamped := decide (255 < numAt b 7 2 ∨ snaps = true ∧ (8192 < numAt b 10 2 ∨ 8192 < numAt b 12 2)
      ∨ holds = true ∧ (numAt b 14 1 = 0 ∨ 60 < numAt b 14 1)) }

theorem readWatchEntry_eq_some {c : Clamped WatchEntry} :
    readWatchEntry b = some c ↔ entryFits b ∧ entryOf b = c := by
  have hodd : ∀ i, 15 + (2 * i + 1) = 16 + 2 * i := fun i => by omega
  simp only [readWatchEntry, Option.bind_eq_bind, Option.bind_eq_some_iff, flagOf_eq_some, inRange?_eq_some,
    readLineSet_eq_some, readElements_eq_some, numAt_drop, hodd, clamp_zero, clamp_one, Config.slotBytes]
  constructor
  · rintro ⟨_, ⟨h0, rfl⟩, _, ⟨⟨h1, h1'⟩, rfl⟩, _, ⟨h2, rfl⟩, _, ⟨⟨h6, h6'⟩, rfl⟩, _, ⟨⟨-, h9⟩, rfl⟩, _, ⟨h15, rfl⟩, h⟩
    refine ⟨⟨h0, h1, h1', h2, h6, h6', h9, h15⟩, ?_⟩
    rw [← Option.some.inj h]
    simp [entryOf, Bool.decide_or, Bool.decide_and, Bool.or_assoc]
  · rintro ⟨⟨h0, h1, h1', h2, h6, h6', h9, h15⟩, rfl⟩
    refine ⟨_, ⟨h0, rfl⟩, _, ⟨⟨h1, h1'⟩, rfl⟩, _, ⟨h2, rfl⟩, _, ⟨⟨h6, h6'⟩, rfl⟩, _, ⟨⟨Nat.zero_le _, h9⟩, rfl⟩, _,
      ⟨h15, rfl⟩, ?_⟩
    simp [entryOf, Bool.decide_or, Bool.decide_and, Bool.or_assoc]

/-! ### RATE TABLE SET -/

theorem rateGood_iff {n : Nat} : rateGood n = true ↔ n = 0 ∨ 300 ≤ n ∧ n ≤ 230400 := by simp [rateGood]

/-- The table of a body passes R43's range check when each of its entries does. -/
theorem readRates_good : (readRates b).toList.all rateGood = true ↔
    ∀ i : RateIndex, numAt b (4 * i.val) 4 = 0 ∨ 300 ≤ numAt b (4 * i.val) 4 ∧ numAt b (4 * i.val) 4 ≤ 230400 := by
  simp only [readRates, Vector.toList_ofFn, List.all_eq_true, List.mem_ofFn, rateGood_iff]
  exact ⟨fun h i => h _ ⟨i, rfl⟩, fun h x ⟨i, hi⟩ => hi ▸ h i⟩

/-- A table may not be empty at an index that a line record names (R43). -/
theorem emptiesNamed_iff : s.emptiesNamed (readRates b) = true ↔ ∃ i : RateIndex, numAt b (4 * i.val) 4 = 0
    ∧ ∃ l, (s.line l).record.fixedIndex = i ∨ (s.line l).record.fallbackIndex = i := by
  simp only [State.emptiesNamed, readRates, List.any_eq_true, List.mem_finRange, true_and, Vector.getElem_ofFn,
    Bool.or_eq_true, decide_eq_true_eq]
  constructor
  · rintro ⟨l, h | h⟩
    · exact ⟨_, h, l, .inl rfl⟩
    · exact ⟨_, h, l, .inr rfl⟩
  · rintro ⟨i, h, l, rfl | rfl⟩
    · exact ⟨l, .inl h⟩
    · exact ⟨l, .inr h⟩

/-- RATE TABLE SET by R43's checks. -/
theorem rateTableSet_cases (s : State) (rq : Request) (rest : List Frame) (h : s.admits .rateTableSet rq rest) :
    let value (i : RateIndex) := numAt rq.body (4 * i.val) 4
    let good (n : Nat) := n = 0 ∨ (300 ≤ n ∧ n ≤ 230400)
    let named (i : RateIndex) := ∃ l, (s.line l).record.fixedIndex = i ∨ (s.line l).record.fallbackIndex = i
    ((∃ i, ¬ good (value i)) →
      exec .rateTableSet s = .next (upGrant ((s.taken rq rest).answered rq .outOfRange [])))
    ∧ ((∀ i, good (value i)) → (∃ i, value i = 0 ∧ named i) →
      exec .rateTableSet s = .next (upGrant ((s.taken rq rest).answered rq .busy [])))
    ∧ ((∀ i, good (value i)) → (∀ i, named i → value i ≠ 0) →
      exec .rateTableSet s = .next (upGrant
        (State.answered { s.taken rq rest with rates := Vector.ofFn value } rq .ok []))) := by
  intro value good named
  have hgood : (readRates rq.body).toList.all rateGood = true ↔ ∀ i, good (value i) := readRates_good
  have hnamed : (s.taken rq rest).emptiesNamed (readRates rq.body) = true ↔ ∃ i, value i = 0 ∧ named i := by
    simp only [emptiesNamed_iff, taken_line]
    rfl
  refine ⟨fun ⟨i, hi⟩ => ?_, fun hg he => ?_, fun hg hn => ?_⟩
  · have hbad : (readRates rq.body).toList.all rateGood = false :=
      Bool.eq_false_iff.mpr fun ht => hi (hgood.mp ht i)
    exact congrArg _ (serve_refuse (own := rateTableSet) h (by decide) (if_pos hbad))
  · refine congrArg _ (serve_refuse (own := rateTableSet) h (by decide) ?_)
    simp only [rateTableSet, hgood.mpr hg, hnamed.mpr he, Bool.true_eq_false, if_false, if_true]
  · have hfree : (s.taken rq rest).emptiesNamed (readRates rq.body) = false :=
      Bool.eq_false_iff.mpr fun ht => by
        obtain ⟨i, h0, hi⟩ := hnamed.mp ht
        exact hn i hi h0
    refine congrArg _ (serve_answer (own := rateTableSet) h (by decide) ?_)
    simp only [rateTableSet, hgood.mpr hg, hfree, Bool.true_eq_false, Bool.false_eq_true, if_false]
    rfl

/-! ### MONITOR SET and WATCH SET -/

/-- A change of the lines alone. -/
theorem mapLines_eq (s : State) (f : LineNo → Line → Line) :
    s.mapLines f = { s with lines := (s.mapLines f).lines } := rfl

theorem readLineSet_none {n : Nat} (h : 2 ^ 24 ≤ n) : readLineSet n = none := if_neg (by omega)

theorem readLineSet_of {n : Nat} (h : n < 2 ^ 24) : readLineSet n = some (BitVec.ofNat 24 n) := if_pos h

theorem monitorSet_refused (h : 2 ^ 24 ≤ numAt rq.body 0 4) : monitorSet rq s = refuse .monitorSet rq .outOfRange s := by
  simp only [monitorSet, readLineSet_none h]

/-- MONITOR SET of a set of lines (R76). -/
theorem monitorSet_of (h : numAt rq.body 0 4 < 2 ^ 24) :
    monitorSet rq s = Answer.of
      (if numAt rq.body 0 4 ≠ 0 ∧ (readMonitorParams (rq.body.drop 4)).clamped = true then .adjusted else .ok) []
      (s.mapLines fun l u =>
        if (numAt rq.body 0 4).testBit l.val then { u with params := (readMonitorParams (rq.body.drop 4)).val } else u) := by
  have hzero : BitVec.ofNat 24 (numAt rq.body 0 4) = 0 ↔ numAt rq.body 0 4 = 0 := by
    rw [← BitVec.toNat_inj, BitVec.toNat_ofNat, Nat.mod_eq_of_lt h]
    rfl
  have hbit : ∀ l : LineNo, (BitVec.ofNat 24 (numAt rq.body 0 4)).getLsbD l.val = (numAt rq.body 0 4).testBit l.val :=
    fun l => by rw [BitVec.getLsbD_ofNat, decide_eq_true l.isLt, Bool.true_and]
  simp only [monitorSet, readLineSet_of h, hzero, hbit, okOr]
  by_cases hn : numAt rq.body 0 4 = 0
  · simp only [hn, ne_eq, not_true_eq_false, false_and, if_true, if_false]
  · simp only [hn, ne_eq, not_false_eq_true, true_and, if_false]

theorem watchSet_refused (h : 64 ≤ numAt rq.body 0 1 ∨ readWatchEntry (rq.body.drop 1) = none) :
    watchSet rq s = refuse .watchSet rq .outOfRange s := by
  unfold watchSet
  cases hi : entryOf? (numAt rq.body 0 1) with
  | none => rfl
  | some i =>
    have hlt : ¬ 64 ≤ numAt rq.body 0 1 := fun hge => by
      have hnone : entryOf? (numAt rq.body 0 1) = none := dif_neg (by omega)
      rw [hnone] at hi
      cases hi
    rw [h.resolve_left hlt]

theorem watchSet_of {i : EntryNo} {c : Clamped WatchEntry} (hi : numAt rq.body 0 1 = i.val)
    (hc : readWatchEntry (rq.body.drop 1) = some c) :
    watchSet rq s = Answer.of (if c.clamped then .adjusted else .ok) [] (replaceEntry i c.val s) := by
  simp only [watchSet, entryOf?_of hi, hc, okOr]

theorem replaceEntry_entry (i j : EntryNo) (e : WatchEntry) (s : State) :
    (replaceEntry i e s).entry j = if j = i then e else s.entry j := by
  rw [replaceEntry, mapLines_entry]
  split
  · next h => rw [h, setEntry_entry_same]
  · next h => exact setEntry_entry_ne s e h

/-- A replaced entry starts anew on every line (R91). -/
theorem replaceEntry_line (i : EntryNo) (e : WatchEntry) (s : State) (l : LineNo) :
    (replaceEntry i e s).line l = (s.line l).setPair i .reset := by
  rw [replaceEntry, mapLines_line]
  rfl

/-- Settles O37: what each block names, then each request by its checks. -/
theorem tableSetsReplace : Obligations.TableSetsReplace := by
  refine ⟨readMonitorParams_eq, fun b => ?_, rateTableSet_cases, fun s rq rest h => ⟨fun hn => ?_, fun hn => ?_⟩,
    fun s rq rest h => ⟨fun hn => ?_, fun i c hi hc => ?_⟩⟩
  · refine ⟨fun hbad => ?_, fun hfits => readWatchEntry_eq_some.mpr ⟨hfits, rfl⟩⟩
    exact Option.eq_none_iff_forall_ne_some.mpr fun c hc => hbad (readWatchEntry_eq_some.mp hc).1
  · exact congrArg _ (serve_refuse h (by decide) (monitorSet_refused hn))
  · refine ⟨_, congrArg _ (serve_answer h (by decide) (monitorSet_of hn)), fun l => ?_, mapLines_eq _ _⟩
    rw [mapLines_line, taken_line]
  · exact congrArg _ (serve_refuse h (by decide) (watchSet_refused hn))
  · refine ⟨_, congrArg _ (serve_answer h (by decide) (watchSet_of hi hc)), ?_, fun j hj => ?_, fun l => ?_, rfl⟩
    · rw [replaceEntry_entry, if_pos rfl]
    · rw [replaceEntry_entry, if_neg hj, taken_entry]
    · rw [replaceEntry_line, taken_line]
      exact ⟨setPair_pair_same _ i _, fun j hj => setPair_pair_ne _ _ hj, rfl⟩

end Sys2Proof.Machine
end

section
/-! SUPPORT. Edges of a measurement (R30, R32, R33) and how an attempt fails (R35, R36): one equation for each case, and
the edges before the S-th. -/

namespace Sys2Proof.Machine

variable {s t : State} {m : Measurement} {l : LineNo} {n periods : Nat} {why : FailureReason}

/-! ### Attempts that fail -/

/-- The part between two measurements of a line's round: the engine idle, the line's probe character cut off and one more
attempt counted (R28, R35). -/
def State.tried (s : State) (l : LineNo) : State :=
  { s.setLine l { s.line l with tx := .idle, attempts := (s.line l).attempts + 1 } with engine := none }

theorem tried_line (s : State) (l : LineNo) :
    (s.tried l).line l = { s.line l with tx := .idle, attempts := (s.line l).attempts + 1 } := setLine_line_same s l _

theorem tried_desk (s : State) (l : LineNo) : s.SameDesk (s.tried l) := .of_eq rfl

theorem failAttempt_eq (m : Measurement) (why : FailureReason) (s : State) :
    failAttempt m why s = probeTake
      (if (s.line m.line).attempts + 1 < (s.line m.line).record.attempts.num then requeueProbe m.line (s.tried m.line)
      else finalFailure m.line why (s.tried m.line)) := by
  have htried : (endMeasurement m.line s).modLine m.line (fun u => { u with attempts := u.attempts + 1 })
      = s.tried m.line := by
    rw [modLine_eq, endMeasurement_line]
    exact congrArg (fun t : State => { t with engine := none }) (setLine_setLine s m.line _ _)
  unfold failAttempt
  simp only [htried, tried_line]

/-- A final failure changes one line, and the Rate Probe not at all. -/
theorem State.OnlyLine.finalFailure (l : LineNo) (why : FailureReason) (s : State) :
    State.OnlyLine l s (finalFailure l why s) := by
  have hraise := State.OnlyLine.raiseLine l .rateFail 0 why.mask why.code s
  unfold Machine.finalFailure
  simp only
  split
  · exact hraise.trans (.enterLive l _ _)
  · exact hraise.trans (.enterLive l _ _)
  · exact ((hraise.trans (.setLine l _ _)).trans (.clearFloor l .dark _)).trans (.raiseLine l .dark 0 0 0 _)

/-- A measurement that an idle engine began has seen no edge (R27). -/
theorem probeTake_fresh (he : s.engine = none) (h : (probeTake s).engine = some m) : m.edgeCount = 0 := by
  rcases probeTake_effect s with ⟨hstill, -⟩ | ⟨l, rest, tx, ms, loss, x, -, -, e, -, -, -, hc, -⟩
  · rw [hstill, he] at h
    cases h
  · rw [e] at h
    cases h
    exact hc

/-- What the engine measures after an attempt failed is a new measurement. -/
theorem failAttempt_fresh {x : Measurement} (h : (failAttempt m why s).engine = some x) : x.edgeCount = 0 := by
  rw [failAttempt_eq] at h
  refine probeTake_fresh ?_ h
  split
  · rfl
  · exact (State.OnlyLine.finalFailure m.line why (s.tried m.line)).engine

/-! ### Edges -/

theorem measuredBy?_own (he : s.engine = some m) : s.measuredBy? ⟨m.line, m.number, periods⟩ = some m := by
  simp only [State.measuredBy?, he, and_self, if_true]

theorem measuredBy?_stray (h : ∀ m, s.engine = some m → m.number ≠ n ∨ m.line ≠ l) :
    s.measuredBy? ⟨l, n, periods⟩ = none := by
  unfold State.measuredBy?
  split
  · rfl
  · next m he => exact if_neg fun ⟨hn, hl⟩ => (h m he).elim (absurd hn) (absurd hl)

theorem measureEdge_own (he : s.engine = some m) :
    exec (.measureEdge ⟨m.line, m.number, periods⟩) s = .next (upGrant (measuredEdge m periods s)) := by
  simp only [exec, execMeasureEdge, measuredBy?_own he]

theorem edgeCountReached_own (he : s.engine = some m) (h : m.edges.num ≤ m.edgeCount + 1) :
    exec (.edgeCountReached ⟨m.line, m.number, periods⟩) s = .next (upGrant (measuredEdge m periods s)) := by
  simp only [exec, execEdgeCountReached, measuredBy?_own he, if_pos h]

theorem flip_eq (x : Level) : x.flip = if x = .mark then .space else .mark := by cases x <;> rfl

/-- An edge that comes after its measurement changes the pin alone (R31, R37). -/
theorem strayEdge_eq (u : Line) : u.strayEdge =
    if u.state = .live then
      if u.rxd = .mark then u else { u with rxd := .mark, rx := if u.rx = .awaitMark then .waiting else u.rx }
    else { u with rxd := if u.rxd = .mark then .space else .mark } := by
  unfold Line.strayEdge Line.atReturnToMark
  cases hs : u.state <;> cases hr : u.rxd <;> rfl

theorem breaksPulse_iff : s.breaksPulse m periods = true ↔
    0 < m.edgeCount ∧ (s.line m.line).rxd = .space ∧ 65535 ≤ m.pulse + periods := by
  simp [State.breaksPulse, pulseAfter]

theorem measuredEdge_counted (h : ¬ (0 < m.edgeCount ∧ (s.line m.line).rxd = .space ∧ 65535 ≤ m.pulse + periods)) :
    measuredEdge m periods s = countEdge m periods s := if_neg (mt breaksPulse_iff.mp h)

theorem measuredEdge_late (h : 0 < m.edgeCount ∧ (s.line m.line).rxd = .space ∧ 65535 ≤ m.pulse + periods) :
    measuredEdge m periods s = lateEdge m periods s := if_pos (breaksPulse_iff.mpr h)

/-- The part as an edge of a measurement finds it, the pin changed. -/
def State.edged (s : State) (l : LineNo) : State :=
  s.setLine l { s.line l with rxd := if (s.line l).rxd = .mark then .space else .mark }

theorem edged_line (s : State) (l : LineNo) : (s.edged l).line l =
    { s.line l with rxd := if (s.line l).rxd = .mark then .space else .mark } := setLine_line_same s l _

theorem modLine_flip (s : State) (l : LineNo) : (s.modLine l fun u => { u with rxd := u.rxd.flip }) = s.edged l := by
  rw [modLine_eq, flip_eq]
  rfl

/-- The first edge starts the count and the pulse counter (R30). -/
theorem countEdge_first (h : m.edgeCount = 0) :
    countEdge m periods s =
      { s.edged m.line with engine := some { m with edgeCount := 1, pulse := 0, phase := m.phase + periods } } := by
  simp only [countEdge, modLine_flip, h, if_true]

/-- The smallest width closed, once the pulse that runs is closed too (R30). -/
def Measurement.closedWidth (m : Measurement) (periods : Nat) : Nat :=
  let width := min 65535 (m.pulse + periods)
  match m.narrowest with | none => width | some w => min w width

/-- A measurement after an edge that closed a pulse (R30). -/
def Measurement.closed (m : Measurement) (periods : Nat) : Measurement :=
  { m with
    edgeCount := m.edgeCount + 1, pulse := 0, phase := m.phase + periods
    narrowest := some (m.closedWidth periods) }

/-- A later edge closes the running pulse, and the S-th ends the attempt (R30, R33). -/
theorem countEdge_later (h : m.edgeCount ≠ 0) :
    countEdge m periods s =
      if m.edges.num ≤ m.edgeCount + 1 then
        finishAttempt (m.closed periods) (m.closedWidth periods)
          { s.edged m.line with engine := some (m.closed periods) }
      else { s.edged m.line with engine := some (m.closed periods) } := by
  have hw : min (pulseAfter m.pulse periods) (m.narrowest.getD (pulseAfter m.pulse periods)) = m.closedWidth periods := by
    unfold Measurement.closedWidth pulseAfter
    cases m.narrowest with
    | none => exact Nat.min_self _
    | some w => exact Nat.min_comm ..
  simp only [countEdge, modLine_flip, if_neg h, hw]
  rfl

/-- An edge that closes a space as long as a break comes after the break; where the engine has taken the same line again, it
is the first edge of the new measurement (R32, R35). -/
theorem lateEdge_eq (m : Measurement) (periods : Nat) (s : State) :
    lateEdge m periods s =
      let t := failAttempt m .brk s
      if t.engine.map (·.line) = some m.line then
        { t.edged m.line with
          engine := t.engine.map fun x => { x with edgeCount := 1, pulse := 0, phase := m.phase + periods } }
      else t.setLine m.line (t.line m.line).strayEdge := by
  simp only [lateEdge]
  cases he : (failAttempt m .brk s).engine with
  | none => rfl
  | some x =>
    simp only [Option.map_some, Option.some.injEq]
    split
    · next hl =>
      have hx : x.edgeCount = 0 := failAttempt_fresh he
      rw [countEdge_first (m := { x with phase := m.phase }) hx]
      dsimp only
      rw [hl]
    · rfl

/-! ### The window, a break, the probe character -/

theorem measureWindowExpiry_early (h : ∀ m, s.engine = some m → m.windowLeft ≠ 0) :
    exec .measureWindowExpiry s = .next s := by
  unfold exec execMeasureWindowExpiry
  cases he : s.engine with
  | none => rfl
  | some m => simp only [if_neg (h m he)]

theorem measureWindowExpiry_over (he : s.engine = some m) (h : m.windowLeft = 0) :
    exec .measureWindowExpiry s = .next (upGrant (failAttempt m .noTraffic s)) := by
  simp only [exec, execMeasureWindowExpiry, he, if_pos h]

/-- A break falls in the present millisecond (R32). -/
theorem breaksPulse_tick : s.breaksPulse m m.periodsToTick = true ↔
    0 < m.edgeCount ∧ (s.line m.line).rxd = .space ∧ 65535 ≤ m.pulse + (periodsInMs m.elapsed - m.phase) :=
  breaksPulse_iff

theorem measureBreak_still (h : ∀ m, s.engine = some m →
      ¬ (0 < m.edgeCount ∧ (s.line m.line).rxd = .space ∧ 65535 ≤ m.pulse + (periodsInMs m.elapsed - m.phase))) :
    exec .measureBreak s = .next s := by
  unfold exec execMeasureBreak
  cases he : s.engine with
  | none => rfl
  | some m => simp only [if_neg (mt breaksPulse_tick.mp (h m he))]

theorem measureBreak_breaks (he : s.engine = some m)
    (h : 0 < m.edgeCount ∧ (s.line m.line).rxd = .space ∧ 65535 ≤ m.pulse + (periodsInMs m.elapsed - m.phase)) :
    exec .measureBreak s = .next (upGrant (failAttempt m .brk s)) := by
  simp only [exec, execMeasureBreak, he, if_pos (breaksPulse_tick.mpr h)]

theorem probeCharacterEnd_idle (he : s.engine = none) : exec .probeCharacterEnd s = .next s := by
  simp only [exec, execProbeCharacterEnd, he]

theorem probeCharacterEnd_sent {f : Framing} {r : Nat} (he : s.engine = some m) (h : (s.line m.line).tx = .probe f r) :
    exec .probeCharacterEnd s = .next (s.setLine m.line { s.line m.line with tx := .idle }) := by
  simp only [exec, execProbeCharacterEnd, he, modLine_eq, h, Transmitter.probeDone]

/-- Settles O52. -/
theorem measurementEdges : Obligations.MeasurementEdges := by
  unfold Obligations.MeasurementEdges
  intro strayed
  have hstray : ∀ u : Line, u.strayEdge = strayed u := strayEdge_eq
  refine ⟨fun s m periods he => ?_, fun s l n periods => ⟨fun h => ⟨?_, ?_⟩, measureWindowExpiry_early,
    fun h => ?_, probeCharacterEnd_idle⟩⟩
  · intro v seen width
    refine ⟨fun h => ?_, fun h hb hs => ?_, fun h hr hw => ⟨fun hp => ?_, ?_⟩, fun f r => probeCharacterEnd_sent he⟩
    · rw [measureEdge_own he, measuredEdge_counted (by omega), countEdge_first h]
      rfl
    · have hno : ¬ (0 < m.edgeCount ∧ (s.line m.line).rxd = .space ∧ 65535 ≤ m.pulse + periods) :=
        fun ⟨_, hr, hw⟩ => hb ⟨hr, min_eq_left hw⟩
      rw [measureEdge_own he, measuredEdge_counted hno, countEdge_later h, if_neg (by omega)]
      rfl
    · exact measureBreak_breaks he ⟨Nat.pos_of_ne_zero h, hr, hp⟩
    · have hlong : 65535 ≤ m.pulse + periods := min_eq_left_iff.mp hw
      rw [measureEdge_own he, measuredEdge_late ⟨Nat.pos_of_ne_zero h, hr, hlong⟩, lateEdge_eq]
      simp only [hstray]
      rfl
  · simp only [exec, execMeasureEdge, measuredBy?_stray h, modLine_eq, hstray]
  · simp only [exec, execEdgeCountReached, measuredBy?_stray h, modLine_eq, hstray]
  · exact measureBreak_still fun m hm hp => absurd (h m hm) hp.1.ne'

end Sys2Proof.Machine
end

section
/-! SUPPORT. The entry of the rate table that a measured width names (R33). -/

namespace Sys2Proof.Machine

variable {s : State} {w : Nat} {i : RateIndex}

theorem rateMatches_iff {tol rate : Nat} : rateMatches tol w rate = true ↔
    rate ≠ 0 ∧ w < 65535 ∧ widthDistance w rate * 1000 ≤ tol * nominalWidth rate := decide_eq_true_iff

/-- The search takes, among the entries that match, the first with the smallest distance. -/
theorem matchWidth_argmin (s : State) (w : Nat) :
    s.matchWidth w = ((List.finRange 16).filter fun i => rateMatches s.unit.tolerance w (s.rateAt i)).argmin
      fun i => widthDistance w (s.rateAt i) := by
  have hstep : (fun (best : Option RateIndex) i =>
      if rateMatches s.unit.tolerance w (s.rateAt i) then
        match best with
        | none => some i
        | some b => if widthDistance w (s.rateAt i) < widthDistance w (s.rateAt b) then some i else some b
      else best)
      = fun best i => if rateMatches s.unit.tolerance w (s.rateAt i) then
          List.argAux (fun b c => widthDistance w (s.rateAt b) < widthDistance w (s.rateAt c)) best i else best := by
    funext best i
    cases best <;> rfl
  rw [List.argmin, List.foldl_filter, ← hstep]
  rfl

theorem matchWidth_none (h : ∀ i, ¬ rateMatches s.unit.tolerance w (s.rateAt i) = true) : s.matchWidth w = none := by
  have hempty : ((List.finRange 16).filter fun i => rateMatches s.unit.tolerance w (s.rateAt i)) = [] :=
    List.filter_eq_nil_iff.mpr fun i _ => h i
  rw [matchWidth_argmin, hempty]
  rfl

/-- In an ascending list a smaller element stands first. -/
theorem idxOf_le_of_sorted {l : List RateIndex} (hl : l.Pairwise (· < ·)) {i j : RateIndex} (hi : i ∈ l) (hj : j ∈ l)
    (h : i ≤ j) : l.idxOf i ≤ l.idxOf j := by
  by_contra hlt
  have hi' := List.idxOf_lt_length_of_mem hi
  have hj' := List.idxOf_lt_length_of_mem hj
  have := List.pairwise_iff_getElem.mp hl _ _ hj' hi' (not_le.mp hlt)
  rw [List.getElem_idxOf, List.getElem_idxOf] at this
  exact absurd h (not_le.mpr this)

/-- The entry that matches with the smallest distance, the lowest index among equals, is taken (R33). -/
theorem matchWidth_some (hi : rateMatches s.unit.tolerance w (s.rateAt i) = true)
    (hmin : ∀ j, rateMatches s.unit.tolerance w (s.rateAt j) = true →
      widthDistance w (s.rateAt i) < widthDistance w (s.rateAt j)
        ∨ widthDistance w (s.rateAt i) = widthDistance w (s.rateAt j) ∧ i ≤ j) : s.matchWidth w = some i := by
  have hsorted := (List.pairwise_lt_finRange 16).filter fun i => rateMatches s.unit.tolerance w (s.rateAt i)
  have hmem : i ∈ (List.finRange 16).filter fun i => rateMatches s.unit.tolerance w (s.rateAt i) :=
    List.mem_filter.mpr ⟨List.mem_finRange i, hi⟩
  rw [matchWidth_argmin, List.argmin_eq_some_iff]
  refine ⟨hmem, fun j hj => ?_, fun j hj hle => idxOf_le_of_sorted hsorted hmem hj ?_⟩
  · rcases hmin j (List.mem_filter.mp hj).2 with h | ⟨h, -⟩ <;> omega
  · rcases hmin j (List.mem_filter.mp hj).2 with h | ⟨-, h⟩
    · omega
    · exact h

end Sys2Proof.Machine
end

section
/-! SUPPORT. The summary of a line after an event, and the floor of a line that goes DARK (R128, R136, R147). -/

namespace Sys2Proof.Machine

variable {s t r e : State} {l : LineNo} {reason : LostReason} {why : FailureReason}

/-! ### Summaries -/

/-- A summary to which a kind was added, its watches and reasons kept. -/
def LineSummary.plus (m : LineSummary) (e : LineEvent) (o : AlertOutcome) : LineSummary :=
  { m with kinds := m.kinds ||| (1#9 <<< e.bit), outcome := o }

theorem plus_has (m : LineSummary) (e : LineEvent) (o : AlertOutcome) (e' : LineEvent) :
    (m.plus e o).has e' = true ↔ m.has e' = true ∨ e' = e := by
  have hbit : (1#9 <<< e.bit).getLsbD e'.bit = decide (e' = e) := by
    cases e <;> cases e' <;> rfl
  simp only [LineSummary.has, LineSummary.plus, BitVec.getLsbD_or, hbit, Bool.or_eq_true, decide_eq_true_eq]

/-- An event joins the summary of its line. -/
theorem raisePlain_line (l : LineNo) (e : LineEvent) (s : State) :
    ∃ o, (raisePlain l e s).line l = { s.line l with summary := (s.line l).summary.plus e o } := by
  obtain ⟨o, d, h, -⟩ := raiseLine_effect l e 0 0 0 s
  refine ⟨o, ?_⟩
  rw [raisePlain, h, told_line, setLine_line_same, LineSummary.plus]
  simp

/-- An event that joins a summary with events in it is told nobody (R148). -/
theorem raisePlain_joins (h : (s.line l).summary.kinds ≠ 0) (e : LineEvent) :
    ∃ v, raisePlain l e s = s.setLine l v := by
  obtain ⟨o, d, h', hq, -⟩ := raiseLine_effect l e 0 0 0 s
  obtain ⟨-, rfl⟩ := hq h
  exact ⟨_, h'.trans (told_same rfl)⟩

theorem has_ne_zero {m : LineSummary} {e : LineEvent} (h : m.has e = true) : m.kinds ≠ 0 := fun hz => by
  rw [LineSummary.has, hz] at h
  simp at h

/-- RATE_FAIL joins the summary of its line with its reason (R36). -/
theorem raiseRateFail_line (l : LineNo) (why : FailureReason) (s : State) :
    ∃ m : LineSummary, (raiseRateFail l why s).line l = { s.line l with summary := m }
      ∧ m.has .rateFail = true ∧ m.reasons.getLsbD (why.code - 1) = true ∧ m.kinds ≠ 0 := by
  obtain ⟨m, d, h, hm, -, -, hreasons, -⟩ := raiseLine_summary l .rateFail 0 why.mask why.code s
  have hmask : why.mask.getLsbD (why.code - 1) = true := by cases why <;> rfl
  refine ⟨m, by rw [raiseRateFail, h, told_line, setLine_line_same], hm, ?_, has_ne_zero hm⟩
  rw [hreasons, hmask, Bool.or_true]

/-- An entry into LIVE adds RATE_SET to the line's summary (R34). -/
theorem enterLive_plus (l : LineNo) (x : TakenRate) (s : State) :
    ∃ o, ((enterLive l x s).line l).summary = (s.line l).summary.plus .rateSet o := by
  rw [enterLive_eq]
  obtain ⟨before, loss, h, -⟩ := appendMark_effect l .rateSet x.index.val (s.setLine l
    { s.line l with
      state := .live, current := some x, last := some x, matchWindow := [], streak := 0, gap := none, tx := .idle
      rx := if (s.line l).rxd = .mark then .waiting else .awaitMark, test := none
      monitor := { state := .quiet, fast := 0, long := 0, count := 0, seedPending := true, burstLeft := none,
                   sampleLeft := some 100, chars := 0, errors := 0 } })
  rw [setLine_line_same, setLine_setLine] at h
  rw [h]
  obtain ⟨o, h'⟩ := raisePlain_line l .rateSet (s.setLine l _)
  exact ⟨o, by rw [h', setLine_line_same]⟩

/-! ### Floors -/

/-- A floor cleared sends LOST to the holder or the parked session, and nothing else (R128, R136). -/
theorem clearFloor_loses (h : r.SameDesk e) (hf : (e.line l).floor.state = (r.line l).floor.state) :
    (clearFloor l reason e).losesFloor l reason r := by
  have hfreed : (r.freed l).SameDesk (e.freed l) := ((freed_desk r l).symm.trans h).trans (freed_desk e l)
  refine ⟨fun hfree => ?_, fun i hi => ?_⟩
  · rw [clearFloor_free (hf.trans hfree)]
    exact ((freed_desk r l).trans hfreed).framesAs
  · rw [clearFloor_noticed (i := i) (by rw [hf]; exact hi)]
    obtain ⟨h1, h2⟩ := freed_floor r l
    obtain ⟨k1, k2⟩ := freed_floor e l
    rw [noticeFrame_congr hfreed (k1.trans h1.symm) (k2.trans h2.symm)]
    exact (hfreed.placeNotice _).framesAs

/-- What is lost shows in the frames alone. -/
theorem losesFloor_frames (h : t.framesAs e) (k : e.losesFloor l reason r) : t.losesFloor l reason r :=
  ⟨fun hf => framesAs_trans h (k.1 hf), fun i hi => framesAs_trans h (k.2 i hi)⟩

/-- What is lost is told by the floor of the line and by the frames that were there before. -/
theorem losesFloor_congr (h : r.SameDesk e) (hf : (e.line l).floor = (r.line l).floor) (k : t.losesFloor l reason e) :
    t.losesFloor l reason r := by
  have hfreed : (r.freed l).SameDesk (e.freed l) := ((freed_desk r l).symm.trans h).trans (freed_desk e l)
  refine ⟨fun hfree => framesAs_trans (k.1 (hf ▸ hfree)) h.framesAs, fun i hi => ?_⟩
  have hlost := k.2 i (hf ▸ hi)
  obtain ⟨h1, h2⟩ := freed_floor r l
  obtain ⟨k1, k2⟩ := freed_floor e l
  have hframe := noticeFrame_congr (i := i) (o := some reason) hfreed (k1.trans h1.symm) (k2.trans h2.symm)
  refine framesAs_trans hlost ?_
  have hplaced := (hfreed.placeNotice ((e.freed l).noticeFrame l i (some reason))).framesAs
  rw [hframe] at hplaced
  exact hframe ▸ hplaced

end Sys2Proof.Machine
end

section
/-! SUPPORT. The end of a measurement round: what an attempt that failed leaves (R35, R36), and a line that enters LIVE at the
rate measured (R34). -/

namespace Sys2Proof.Machine

variable {s t r e : State} {l : LineNo} {why : FailureReason} {m : Measurement}

/-- What the end of a line's round leaves (R36), from the state `s` in which its measurement ends. -/
def State.failsRound (s : State) (l : LineNo) (why : FailureReason) (t : State) : Prop :=
  let v := s.line l
  let fallback : TakenRate := { index := v.record.fallbackIndex, rate := s.rateAt v.record.fallbackIndex }
  (t.line l).summary.has .rateFail = true ∧ (t.line l).summary.reasons.getLsbD (why.code - 1) = true
    ∧ (v.record.failure = .dark →
        (t.line l).state = .dark ∧ (t.line l).summary.has .dark = true ∧ (t.line l).floor.state = .free
        ∧ (t.line l).floor.waiting = []
        ∧ t.losesFloor l .dark (raiseLine l .rateFail 0 (1#3 <<< (why.code - 1)) why.code s))
    ∧ (v.record.failure = .fallback → (t.line l).state = .live ∧ (t.line l).current = some fallback)
    ∧ (v.record.failure = .hold →
        (t.line l).state = .live ∧ (t.line l).current = some (v.last.getD fallback))

/-- The part of a line that an attempt which failed keeps. -/
def Line.triedAs (v u : Line) : Prop := u.attempts = v.attempts + 1 ∧ u.record = v.record ∧ u.ring = v.ring

theorem finalFailure_hold (h : ((raiseRateFail l why s).line l).record.failure = .hold) :
    finalFailure l why s = enterLive l
      (((raiseRateFail l why s).line l).last.getD
        ((raiseRateFail l why s).takeRate ((raiseRateFail l why s).line l).record.fallbackIndex))
      (raiseRateFail l why s) := by
  simp only [finalFailure, h]

theorem finalFailure_fallback (h : ((raiseRateFail l why s).line l).record.failure = .fallback) :
    finalFailure l why s = enterLive l
      ((raiseRateFail l why s).takeRate ((raiseRateFail l why s).line l).record.fallbackIndex)
      (raiseRateFail l why s) := by
  simp only [finalFailure, h]

/-- A line as it goes DARK, before its floor is cleared. -/
def State.darkened (s : State) (l : LineNo) : State := s.setLine l { s.line l with state := .dark }

theorem finalFailure_dark (h : ((raiseRateFail l why s).line l).record.failure = .dark) :
    finalFailure l why s = raisePlain l .dark (clearFloor l .dark ((raiseRateFail l why s).darkened l)) := by
  simp only [finalFailure, h]
  rfl

/-- A line goes DARK: DARK joins its summary, its floor is freed, and only the LOST notice goes out (R36, R136). -/
theorem darkens (hd : r.SameDesk e) (hf : (e.line l).floor.state = (r.line l).floor.state)
    (hk : (e.line l).summary.kinds ≠ 0) :
    ∃ o, (raisePlain l .dark (clearFloor l .dark (e.darkened l))).line l =
        { e.line l with
          state := .dark, floor := { state := .free, waiting := [], idle := .stopped, busy := (e.line l).floor.busy }
          summary := (e.line l).summary.plus .dark o }
      ∧ (raisePlain l .dark (clearFloor l .dark (e.darkened l))).losesFloor l .dark r
      ∧ (raisePlain l .dark (clearFloor l .dark (e.darkened l))).sessions = e.sessions := by
  have hdark : (e.darkened l).line l = { e.line l with state := .dark } := setLine_line_same e l _
  obtain ⟨d, hc, -⟩ := clearFloor_effect l .dark (e.darkened l)
  have hcl : (clearFloor l .dark (e.darkened l)).line l =
      { e.line l with
        state := .dark, floor := { state := .free, waiting := [], idle := .stopped, busy := (e.line l).floor.busy } } := by
    rw [hc, told_line, setLine_line_same, hdark]
  have hloses : (clearFloor l .dark (e.darkened l)).losesFloor l .dark r :=
    clearFloor_loses (hd.trans (.setLine e l _)) (by rw [hdark]; exact hf)
  have hsess : (clearFloor l .dark (e.darkened l)).sessions = e.sessions := by
    rw [hc]
    rfl
  generalize clearFloor l .dark (e.darkened l) = c at hcl hloses hsess
  obtain ⟨o, hline⟩ := raisePlain_line l .dark c
  obtain ⟨v, hjoin⟩ := raisePlain_joins (s := c) (l := l) (by rw [hcl]; exact hk) .dark
  refine ⟨o, by rw [hline, hcl], ?_, ?_⟩
  · refine losesFloor_frames ?_ hloses
    rw [hjoin]
    exact (State.SameDesk.setLine c l v).framesAs
  · rw [hjoin]
    exact hsess

/-- The final failure of a round (R36). -/
theorem finalFailure_failsRound (s : State) (l : LineNo) (why : FailureReason) :
    s.failsRound l why (finalFailure l why (s.tried l)) ∧ (s.line l).triedAs ((finalFailure l why (s.tried l)).line l)
      ∧ (finalFailure l why (s.tried l)).sessions = s.sessions := by
  obtain ⟨m, hline, hfail, hreason, hk⟩ := raiseRateFail_line l why (s.tried l)
  have hdesk : (raiseLine l .rateFail 0 (1#3 <<< (why.code - 1)) why.code s).SameDesk (raiseRateFail l why (s.tried l)) :=
    (tried_desk s l).raiseLine (by rw [tried_line]) (by rw [tried_line]) _ _ _ _
  have hsess : (raiseRateFail l why (s.tried l)).sessions = s.sessions := raiseLine_sessions _ _ _ _ _ _
  have hrates : ∀ i, (raiseRateFail l why (s.tried l)).takeRate i = { index := i, rate := s.rateAt i } := fun i => by
    have h : (raiseRateFail l why (s.tried l)).rates = s.rates := (State.OnlyLine.raiseLine l _ _ _ _ (s.tried l)).rates
    rw [State.takeRate, State.rateAt, h, State.rateAt]
  have hfloor : ((raiseLine l .rateFail 0 (1#3 <<< (why.code - 1)) why.code s).line l).floor = (s.line l).floor := by
    obtain ⟨o, d, h, -⟩ := raiseLine_effect l .rateFail 0 (1#3 <<< (why.code - 1)) why.code s
    rw [h, told_line, setLine_line_same]
  rw [tried_line] at hline
  generalize hraised : raiseRateFail l why (s.tried l) = e at hline hdesk hsess hrates
  have hlive : ∀ x : TakenRate,
      ((enterLive l x e).line l).summary.has .rateFail = true
      ∧ ((enterLive l x e).line l).summary.reasons.getLsbD (why.code - 1) = true
      ∧ ((enterLive l x e).line l).state = .live ∧ ((enterLive l x e).line l).current = some x
      ∧ (s.line l).triedAs ((enterLive l x e).line l) ∧ (enterLive l x e).sessions = s.sessions := fun x => by
    obtain ⟨ms, loss, m', d, henter, -⟩ := enterLive_effect l x e
    obtain ⟨o, hplus⟩ := enterLive_plus l x e
    rw [hline] at hplus
    refine ⟨?_, ?_, ?_, ?_, ?_, ?_⟩
    · rw [hplus, plus_has]
      exact .inl hfail
    · rw [hplus]
      exact hreason
    all_goals rw [henter]
    · rw [told_line, setLine_line_same]
    · rw [told_line, setLine_line_same]
    · rw [told_line, setLine_line_same, hline]
      exact ⟨rfl, rfl, rfl⟩
    · rw [told_sessions, setLine_sessions, hsess]
  cases hopt : (s.line l).record.failure with
  | hold =>
    rw [finalFailure_hold (by rw [hraised, hline]; exact hopt), hraised]
    obtain ⟨h1, h2, h3, h4, h5, h6⟩ := hlive ((e.line l).last.getD (e.takeRate (e.line l).record.fallbackIndex))
    refine ⟨⟨h1, h2, (fun h => by rw [hopt] at h; cases h), (fun h => by rw [hopt] at h; cases h), fun _ => ⟨h3, h4.trans ?_⟩⟩, h5, h6⟩
    rw [hrates, hline]
  | fallback =>
    rw [finalFailure_fallback (by rw [hraised, hline]; exact hopt), hraised]
    obtain ⟨h1, h2, h3, h4, h5, h6⟩ := hlive (e.takeRate (e.line l).record.fallbackIndex)
    refine ⟨⟨h1, h2, (fun h => by rw [hopt] at h; cases h), fun _ => ⟨h3, h4.trans ?_⟩, (fun h => by rw [hopt] at h; cases h)⟩, h5, h6⟩
    rw [hrates, hline]
  | dark =>
    rw [finalFailure_dark (by rw [hraised, hline]; exact hopt), hraised]
    obtain ⟨o, hd, hloses, hs⟩ := darkens (l := l) hdesk (by rw [hline, hfloor]) (by rw [hline]; exact hk)
    refine ⟨⟨?_, ?_, fun _ => ⟨?_, ?_, ?_, ?_, hloses⟩, (fun h => by rw [hopt] at h; cases h), (fun h => by rw [hopt] at h; cases h)⟩, ?_, hs.trans hsess⟩
    all_goals rw [hd, hline]
    · exact (plus_has ..).mpr (.inl hfail)
    · exact hreason
    · exact (plus_has ..).mpr (.inr rfl)
    · exact ⟨rfl, rfl, rfl⟩

end Sys2Proof.Machine
end

section
/-! SUPPORT. How a measurement ends: the attempt that fails, the entry into LIVE at the rate found, and the obligation. -/

namespace Sys2Proof.Machine

variable {s t e : State} {l : LineNo} {why : FailureReason} {m : Measurement} {periods : Nat}

/-- Of each line the engine changes, as it takes the next, the state, the transmitter and the marks (R27). -/
theorem probeTake_line (s : State) (j : LineNo) :
    ∃ st tx ms loss, (probeTake s).line j = { s.line j with state := st, tx := tx, marks := ms, markLoss := loss } := by
  rcases probeTake_effect s with ⟨h, -⟩ | ⟨k, rest, tx, before, loss, m, -, -, h, -⟩
  · rw [h]
    exact ⟨_, _, _, _, rfl⟩
  · rw [h]
    by_cases hj : j = k
    · rw [hj]
      exact ⟨_, _, _, _, setLine_line_same s k _⟩
    · exact ⟨_, _, _, _, setLine_line_ne s _ hj⟩

/-- What an attempt that failed leaves, from the state `s` in which it fails (R35, R36). -/
def State.failsAs (s : State) (l : LineNo) (why : FailureReason) (t : State) : Prop :=
  let v := s.line l
  (t.line l).attempts = v.attempts + 1 ∧ (t.line l).record = v.record ∧ (t.line l).ring = v.ring
  ∧ t.sessions = s.sessions
  ∧ t.engine.map (·.line) = (s.probeQueue ++ if v.attempts + 1 < v.record.attempts.num then [l] else []).head?
  ∧ (v.attempts + 1 < v.record.attempts.num → (t.line l).summary = v.summary
      ∧ (∀ h rest, s.probeQueue = h :: rest → t.probeQueue = rest ++ [l] ∧ (h ≠ l → (t.line l).state = .queued))
      ∧ (s.probeQueue = [] → t.probeQueue = [] ∧ (t.line l).state = .measuring))
  ∧ (v.record.attempts.num ≤ v.attempts + 1 → l ∉ s.probeQueue →
      (t.line l).summary.has .rateFail = true ∧ (t.line l).summary.reasons.getLsbD (why.code - 1) = true
      ∧ t.probeQueue = s.probeQueue.tail
      ∧ (v.record.failure = .dark →
          (t.line l).state = .dark ∧ (t.line l).summary.has .dark = true ∧ (t.line l).floor.state = .free
          ∧ (t.line l).floor.waiting = []
          ∧ t.losesFloor l .dark (raiseLine l .rateFail 0 (1#3 <<< (why.code - 1)) why.code s))
      ∧ (v.record.failure = .fallback →
          (t.line l).state = .live
          ∧ (t.line l).current = some { index := v.record.fallbackIndex, rate := s.rateAt v.record.fallbackIndex })
      ∧ (v.record.failure = .hold →
          (t.line l).state = .live
          ∧ (t.line l).current = some
              (v.last.getD { index := v.record.fallbackIndex, rate := s.rateAt v.record.fallbackIndex })))

theorem failsRound_congr (h : t.framesAs e) (hl : t.line l = e.line l) (k : s.failsRound l why e) :
    s.failsRound l why t := by
  unfold State.failsRound at k ⊢
  simp only [hl]
  obtain ⟨h1, h2, h3, h4, h5⟩ := k
  refine ⟨h1, h2, fun hd => ?_, h4, h5⟩
  obtain ⟨k1, k2, k3, k4, k5⟩ := h3 hd
  exact ⟨k1, k2, k3, k4, losesFloor_frames h k5⟩

/-- An attempt below the limit of its round: the line joins the queue again (R35). -/
theorem failAttempt_requeues (h : (s.line m.line).attempts + 1 < (s.line m.line).record.attempts.num) :
    s.failsAs m.line why (failAttempt m why s) := by
  have hline : (requeueProbe m.line (s.tried m.line)).line m.line =
      { s.line m.line with tx := .idle, attempts := (s.line m.line).attempts + 1, state := .queued } := by
    refine (setLine_line_same (s.tried m.line) m.line _).trans ?_
    rw [tried_line]
  rw [failAttempt_eq, if_pos h]
  have hidle : (requeueProbe m.line (s.tried m.line)).engine = none := rfl
  have hqueue : (requeueProbe m.line (s.tried m.line)).probeQueue = s.probeQueue ++ [m.line] := rfl
  have hsess : (requeueProbe m.line (s.tried m.line)).sessions = s.sessions := rfl
  generalize requeueProbe m.line (s.tried m.line) = w at hline hidle hqueue hsess
  obtain ⟨hnext, hothers, htail⟩ := probeTake_next hidle
  obtain ⟨st, tx, ms, loss, hkept⟩ := probeTake_line w m.line
  rw [hline] at hkept
  rw [hqueue] at hnext hothers htail
  refine ⟨by rw [hkept], by rw [hkept], by rw [hkept], (probeTake_desk w).sessions.trans hsess, ?_,
    fun _ => ⟨by rw [hkept], fun k rest hq => ?_, fun hq => ?_⟩, fun hge => absurd h (not_lt.mpr hge)⟩
  · rw [hnext, if_pos h]
  · rw [htail, hq]
    refine ⟨rfl, fun hk => ?_⟩
    rw [hothers m.line (by rw [hq]; exact fun hh => hk (Option.some.inj hh)), hline]
  · rw [htail, hq]
    obtain ⟨x, -, -, -, -, -, hst, -⟩ := probeTake_head (l := m.line) (rest := []) hidle (by rw [hqueue, hq]; rfl)
    exact ⟨rfl, hst⟩

/-- The last attempt of a round: its failure option decides (R36). -/
theorem failAttempt_ends (h : (s.line m.line).record.attempts.num ≤ (s.line m.line).attempts + 1) :
    s.failsAs m.line why (failAttempt m why s) := by
  have hlt : ¬ (s.line m.line).attempts + 1 < (s.line m.line).record.attempts.num := not_lt.mpr h
  obtain ⟨hround, ⟨hatt, hrec, hring⟩, hsess⟩ := finalFailure_failsRound s m.line why
  have honly := State.OnlyLine.finalFailure m.line why (s.tried m.line)
  have hidle : (finalFailure m.line why (s.tried m.line)).engine = none := honly.engine
  have hqueue : (finalFailure m.line why (s.tried m.line)).probeQueue = s.probeQueue := honly.probeQueue
  rw [failAttempt_eq, if_neg hlt]
  generalize finalFailure m.line why (s.tried m.line) = w at hround hatt hrec hring hsess hidle hqueue
  obtain ⟨hnext, hothers, htail⟩ := probeTake_next hidle
  obtain ⟨st, tx, ms, loss, hkept⟩ := probeTake_line w m.line
  rw [hqueue] at hnext hothers htail
  refine ⟨by rw [hkept]; exact hatt, by rw [hkept]; exact hrec, by rw [hkept]; exact hring,
    (probeTake_desk w).sessions.trans hsess, ?_, fun hlt' => absurd hlt' hlt, fun _ hout => ?_⟩
  · rw [hnext, if_neg hlt, List.append_nil]
  · obtain ⟨h1, h2, h3⟩ := failsRound_congr (probeTake_desk w).framesAs
      (hothers m.line fun hh => hout (List.mem_of_mem_head? hh)) hround
    exact ⟨h1, h2, htail, h3⟩

theorem failAttempt_fails (s : State) (m : Measurement) (why : FailureReason) :
    s.failsAs m.line why (failAttempt m why s) :=
  (Nat.lt_or_ge ((s.line m.line).attempts + 1) (s.line m.line).record.attempts.num).elim failAttempt_requeues
    failAttempt_ends

/-- A failure is told the same of the state before the edge at which it comes. -/
theorem failsAs_edged {x : Option Measurement} (h : State.failsAs { s.edged l with engine := x } l why t) :
    s.failsAs l why t := by
  have hline : State.line { s.edged l with engine := x } l =
      { s.line l with rxd := if (s.line l).rxd = .mark then .space else .mark } := edged_line s l
  have hdesk : s.SameDesk { s.edged l with engine := x } := .of_eq rfl
  have hrates : ∀ i, State.rateAt { s.edged l with engine := x } i = s.rateAt i := fun i => rfl
  have hfloor : ∀ {q : State} (rs : BitVec 3) (a : Nat), ((raiseLine l .rateFail 0 rs a q).line l).floor = (q.line l).floor :=
    fun {q} rs a => by
      obtain ⟨o, d, h, -⟩ := raiseLine_effect l .rateFail 0 rs a q
      rw [h, told_line, setLine_line_same]
  have hraise := hdesk.raiseLine (l := l) (by rw [hline]) (by rw [hline]) .rateFail 0 (1#3 <<< (why.code - 1)) why.code
  have hsame : ((raiseLine l .rateFail 0 (1#3 <<< (why.code - 1)) why.code { s.edged l with engine := x }).line l).floor
      = ((raiseLine l .rateFail 0 (1#3 <<< (why.code - 1)) why.code s).line l).floor := by
    rw [hfloor, hfloor, hline]
  unfold State.failsAs at h ⊢
  simp only [hline, hrates] at h
  obtain ⟨h1, h2, h3, h4, h5, h6, h7⟩ := h
  refine ⟨h1, h2, h3, h4.trans hdesk.sessions, h5, h6, fun hge hout => ?_⟩
  obtain ⟨k1, k2, k3, k4, k5⟩ := h7 hge hout
  refine ⟨k1, k2, k3, fun hd => ?_, k5⟩
  obtain ⟨g1, g2, g3, g4, g5⟩ := k4 hd
  exact ⟨g1, g2, g3, g4, losesFloor_congr hraise hsame g5⟩

/-! ### The S-th edge -/

/-- The S-th edge ends the attempt at the smallest width closed (R33). -/
theorem edge_ends (he : s.engine = some m) (h0 : 0 < m.edgeCount) (hs : m.edges.num = m.edgeCount + 1)
    (hb : (s.line m.line).rxd = .mark ∨ m.pulse + periods < 65535) :
    exec (.measureEdge ⟨m.line, m.number, periods⟩) s = .next (upGrant
        (finishAttempt (m.closed periods) (m.closedWidth periods)
          { s.edged m.line with engine := some (m.closed periods) }))
      ∧ exec (.edgeCountReached ⟨m.line, m.number, periods⟩) s =
        exec (.measureEdge ⟨m.line, m.number, periods⟩) s := by
  have hno : ¬ (0 < m.edgeCount ∧ (s.line m.line).rxd = .space ∧ 65535 ≤ m.pulse + periods) := by
    rintro ⟨-, hr, hw⟩
    rcases hb with hb | hb
    · rw [hr] at hb
      cases hb
    · omega
  rw [measureEdge_own he, edgeCountReached_own he hs.le, measuredEdge_counted hno, countEdge_later h0.ne', if_pos hs.le]
  exact ⟨rfl, rfl⟩

/-- A line that enters LIVE at the rate measured (R34), the engine going on with the head of the queue. -/
theorem finishAttempt_live {w : Nat} {i : RateIndex} (h : s.matchWidth w = some i) (hq : m.line ∉ s.probeQueue) :
    let t := finishAttempt m w s
    let u := t.line m.line
    let v := s.line m.line
    u.state = .live ∧ u.current = some { index := i, rate := s.rateAt i } ∧ u.last = u.current ∧ u.attempts = v.attempts
      ∧ u.record = v.record ∧ u.ring = v.ring ∧ u.floor = v.floor
      ∧ u.marks.getLast? = some { offset := v.ring.newest, stamp := s.unitTime, kind := .rateSet, arg := i.val }
      ∧ u.summary.has .rateSet = true
      ∧ t.engine.map (·.line) = s.probeQueue.head? ∧ t.probeQueue = s.probeQueue.tail := by
  intro t u v
  unfold u t
  have hfinish : finishAttempt m w s =
      probeTake (enterLive m.line { index := i, rate := s.rateAt i } (endMeasurement m.line s)) := by
    simp only [finishAttempt, h]
    rfl
  have honly := State.OnlyLine.enterLive m.line { index := i, rate := s.rateAt i } (endMeasurement m.line s)
  obtain ⟨ms, loss, x, d, henter, -, hset, -⟩ :=
    enterLive_effect m.line { index := i, rate := s.rateAt i } (endMeasurement m.line s)
  have hline := congrArg (State.line · m.line) henter
  dsimp only at hline
  rw [told_line, setLine_line_same, endMeasurement_line] at hline
  have hqueue : (enterLive m.line { index := i, rate := s.rateAt i } (endMeasurement m.line s)).probeQueue = s.probeQueue :=
    honly.probeQueue
  obtain ⟨hnext, hothers, htail⟩ := probeTake_next
    (s := enterLive m.line { index := i, rate := s.rateAt i } (endMeasurement m.line s)) honly.engine
  rw [hqueue] at hnext hothers htail
  rw [hfinish, hothers m.line fun hh => hq (List.mem_of_mem_head? hh), hline]
  exact ⟨rfl, rfl, rfl, rfl, rfl, rfl, rfl, List.getLast?_concat, hset, hnext, htail⟩

/-- Settles O53. -/
theorem measurementEnds : Obligations.MeasurementEnds := by
  unfold Obligations.MeasurementEnds
  refine ⟨fun e => by cases e <;> rfl, fun a => by cases a <;> rfl, fun w => by cases w <;> rfl, fun s m he => ?_⟩
  intro l v failed
  refine ⟨fun hw => ⟨_, measureWindowExpiry_over he hw, failAttempt_fails s m .noTraffic⟩, fun h0 hr hp => ?_, fun h => ?_,
    fun periods h0 hs hb => ?_⟩
  · exact ⟨_, measureBreak_breaks he ⟨h0, hr, hp⟩, failAttempt_fails s m .brk⟩
  · refine measureBreak_still fun m' he' => ?_
    cases he.symm.trans he'
    rintro ⟨h0, hr, hp⟩
    rcases h with h | h | h
    · omega
    · exact absurd (h.symm.trans hr) (by decide)
    · omega
  intro width w nominal off fits
  obtain ⟨hedge, hsame⟩ := edge_ends he h0 hs hb
  rw [hedge] at hsame
  have hw : m.closedWidth periods = w := rfl
  have hfits : ∀ i, fits i ↔ rateMatches s.unit.tolerance w (s.rateAt i) = true := fun i => rateMatches_iff.symm
  rw [hedge, hsame, hw]
  refine ⟨rfl, fun hno => ?_, fun i hi hmin hq => ?_⟩
  · refine ⟨_, rfl, failsAs_edged (x := some (m.closed periods)) ?_⟩
    have hnone : State.matchWidth { s.edged m.line with engine := some (m.closed periods) } w = none :=
      matchWidth_none fun i hi => hno i ((hfits i).mpr hi)
    simp only [finishAttempt, hnone]
    exact failAttempt_fails _ (m.closed periods) .noMatch
  · have hsome : State.matchWidth { s.edged m.line with engine := some (m.closed periods) } w = some i :=
      matchWidth_some ((hfits i).mp hi) fun j hj => hmin j ((hfits j).mpr hj)
    obtain ⟨h1, h2, h3, h4, h5, h6, h7, h8, h9, h10, h11⟩ := finishAttempt_live (m := m.closed periods) hsome hq
    have hline : State.line { s.edged m.line with engine := some (m.closed periods) } m.line =
        { v with rxd := if v.rxd = .mark then .space else .mark } := edged_line s m.line
    rw [show (m.closed periods).line = m.line from rfl, hline] at h4 h5 h6 h7 h8
    exact ⟨_, rfl, h1, h2, h3, h4, h5, h6, h7, h8, h9, h10, h11⟩

end Sys2Proof.Machine
end

section
/-! SUPPORT. A line that joins the probe queue, with the mark of the engine that takes it at once (R25, R27); LINE MEASURE. -/

namespace Sys2Proof.Machine

variable {s t w : State} {rq : Request} {rest : List Frame} {l : LineNo}

/-! ### One mark joins a list -/

/-- A mark joins a line's list, a full list losing its head (R53, R55). -/
def markJoins (ms : List Mark) (m : Mark) : List Mark := if 32 ≤ ms.length then ms.tail ++ [m] else ms ++ [m]

theorem appendMark_line (l : LineNo) (k : MarkKind) (a : Nat) (s : State) :
    ∃ loss, appendMark l k a s = s.setLine l
      { s.line l with
        marks := markJoins (s.line l).marks
          { offset := (s.line l).ring.newest, stamp := s.unitTime, kind := k, arg := a }
        markLoss := loss } := by
  obtain ⟨before, loss, h, hb⟩ := appendMark_effect l k a s
  refine ⟨loss, h.trans ?_⟩
  unfold markJoins
  rcases hb with ⟨rfl, -, hlt⟩ | ⟨rfl, -, hge⟩
  · rw [if_neg (by omega)]
  · rw [if_pos hge]

theorem markJoins_after {ms : List Mark} (h : ms.length ≤ 32) (m : Mark) : markJoins ms m = marksAfter ms [m] := by
  unfold markJoins marksAfter
  rw [List.length_singleton]
  split
  · next hge =>
    have hone : ms.length + 1 - 32 = 1 := by omega
    rw [hone, List.drop_append_of_le_length (by omega), List.drop_one]
  · next hlt =>
    have hz : ms.length + 1 - 32 = 0 := by omega
    rw [hz, List.drop_zero]

theorem markJoins_last (ms : List Mark) (m : Mark) : ∃ before, markJoins ms m = before ++ [m] := by
  unfold markJoins
  split
  · exact ⟨_, rfl⟩
  · exact ⟨_, rfl⟩

/-- The last mark stays as another joins. -/
theorem markJoins_keeps (ms : List Mark) (x m : Mark) : ∃ before, markJoins (ms ++ [x]) m = before ++ [x, m] := by
  unfold markJoins
  split
  · next h =>
    have hne : ms ≠ [] := fun hnil => by
      simp [hnil] at h
    exact ⟨ms.tail, by rw [List.tail_append_of_ne_nil hne, List.append_assoc]; rfl⟩
  · exact ⟨ms, by rw [List.append_assoc]; rfl⟩

/-! ### A line joins the probe queue -/

/-- The MEASURE_BEGIN mark that an idle engine writes to the line it takes (R27). -/
def State.beginMark (s : State) (l : LineNo) : Mark :=
  { offset := (s.line l).ring.newest, stamp := s.unitTime, kind := .measureBegin, arg := 0 }

/-- A line that joins the queue waits at its tail, or is taken by an engine for which nobody waits (R25, R27). -/
structure State.Joined (s : State) (l : LineNo) (t : State) : Prop where
  line : ∃ tx loss, t.line l =
    { s.line l with
      state := if s.engine = none then .measuring else .queued, attempts := 0, test := none, tx := tx
      marks := if s.engine = none then markJoins (s.line l).marks (s.beginMark l) else (s.line l).marks
      markLoss := loss }
  line_ne : ∀ j, j ≠ l → t.line j = s.line j
  desk : s.SameDesk t
  slots : t.slots = s.slots
  waits : s.engine ≠ none → t.probeQueue = s.probeQueue ++ [l] ∧ t.engine = s.engine
  taken : s.engine = none → t.probeQueue = [] ∧ t.engine.map (·.line) = some l

theorem joinProbe_joined (h : s.engineReady) (l : LineNo) : s.Joined l (probeTake (joinProbe l s)) := by
  by_cases he : s.engine = none
  · have hq : (joinProbe l s).probeQueue = [l] := by
      rw [joinProbe_eq]
      exact congrArg (· ++ [l]) (h he)
    rcases probeTake_effect (joinProbe l s) with ⟨-, hr⟩ | ⟨k, rest, tx, before, loss, m, -, hq', e, hb, hm, -⟩
    · rw [hr he] at hq
      cases hq
    rw [hq] at hq'
    obtain ⟨rfl, rfl⟩ := List.cons.inj hq'
    rw [joinProbe_line] at e hb
    have hmarks : before ++ [s.beginMark l] = markJoins (s.line l).marks (s.beginMark l) := by
      unfold markJoins
      rcases hb with ⟨rfl, -, hlt⟩ | ⟨rfl, -, hge⟩
      · rw [if_neg (not_le.mpr hlt)]
      · rw [if_pos hge]
    refine ⟨⟨tx, loss, ?_⟩, fun j hj => ?_, ?_, ?_, fun hn => absurd he hn, fun _ => ?_⟩
    · rw [if_pos he, if_pos he, ← hmarks, e]
      exact setLine_line_same (joinProbe l s) l _
    · rw [e]
      exact (setLine_line_ne (joinProbe l s) _ hj).trans (joinProbe_line_ne hj)
    · exact (State.SameDesk.of_eq rfl : s.SameDesk (joinProbe l s)).trans (probeTake_desk _)
    · exact probeTake_slots _
    · rw [e]
      exact ⟨rfl, congrArg some hm⟩
  · rw [joinProbe_waits l he]
    refine ⟨⟨(s.line l).tx, (s.line l).markLoss, ?_⟩, fun j hj => joinProbe_line_ne hj, .of_eq rfl, rfl,
      fun _ => ⟨rfl, rfl⟩, fun hn => absurd hn he⟩
    rw [if_neg he, if_neg he, joinProbe_line]

/-! ### From LIVE to the probe queue -/

theorem exitLive_ready (h : s.engineReady) (l : LineNo) : (exitLive l s).engineReady := by
  have ho := State.OnlyLine.exitLive l s
  unfold State.engineReady
  rw [ho.engine, ho.probeQueue]
  exact h

theorem truncateFor_alerts (l : LineNo) (s : State) : State.Alerts l s (truncateFor l s) := by
  unfold truncateFor
  cases hk : s.fillingSlot? l with
  | none => exact .refl l s
  | some k => exact .completeSlot (fillingSlot?_eq_some hk).2 true

/-- An exit from LIVE takes no event out of a summary. -/
theorem exitLive_grows (l : LineNo) (s : State) :
    (∀ e, (s.line l).summary.has e = true → ((exitLive l s).line l).summary.has e = true)
      ∧ ∀ e, s.unitSummary.has e = true → (exitLive l s).unitSummary.has e = true := by
  obtain ⟨v, e, hsum, -⟩ := exitLive_truncating l s
  have h := truncateFor_alerts l (monitorExit l (s.cutGranted l))
  rw [← exitLive_eq] at h
  obtain ⟨hgrows, -⟩ := h.grows
  have hevents := h.events
  rw [e, setLine_line_same, hsum] at hgrows
  rw [e, setLine_unitSummary, State.cutGranted, grantData_unitSummary] at hevents
  exact ⟨hgrows, hevents⟩

/-- The floor that an exit from LIVE leaves: a burst reports quiet again (R72, R74). -/
def Line.leftFloor (u : Line) (f : Floor) : Prop :=
  f.state = u.floor.state ∧ f.waiting = u.floor.waiting ∧ (u.monitor.state.bursting = true → f.busy = false)
    ∧ (u.monitor.state.bursting = false → f = u.floor)

theorem exitLive_leftFloor (l : LineNo) (s : State) :
    ∃ f m, (exitLive l s).line l =
        { (s.line l).cutOff with monitor := (s.line l).monitor.left, floor := f, summary := m }
      ∧ (s.line l).leftFloor f := by
  obtain ⟨t, f, m, d, h, -, hf⟩ := exitLive_effect l s
  refine ⟨f, m, by rw [h, told_line, setLine_line_same]; rfl, ?_⟩
  by_cases hb : (s.line l).monitor.state.bursting = true
  · rw [if_pos hb] at hf
    rw [hf]
    exact ⟨rfl, rfl, fun _ => rfl, fun hn => by rw [hb] at hn; cases hn⟩
  · rw [if_neg hb] at hf
    rw [hf]
    exact ⟨rfl, rfl, fun h => absurd h hb, fun _ => rfl⟩

/-- A line that leaves LIVE for the probe queue: `t`, from `s` (R4, R25, R27). -/
structure State.Requeues (s : State) (l : LineNo) (t : State) : Prop where
  line : ∃ tx loss f m, t.line l =
      { (s.line l).cutOff with
        monitor := (s.line l).monitor.left, floor := f, summary := m
        state := if s.engine = none then .measuring else .queued, attempts := 0, test := none, tx := tx
        marks := if s.engine = none then markJoins (s.line l).marks (s.beginMark l) else (s.line l).marks
        markLoss := loss }
    ∧ (s.line l).leftFloor f ∧ ∀ e, (s.line l).summary.has e = true → m.has e = true
  line_ne : ∀ j, j ≠ l → t.line j = s.line j
  truncates : s.truncates l t
  sessions : t.sessions = (grantData (s.setLine l { s.line l with settled := true })).sessions
  events : ∀ e, s.unitSummary.has e = true → t.unitSummary.has e = true
  waits : s.engine ≠ none → t.probeQueue = s.probeQueue ++ [l] ∧ t.engine = s.engine
  taken : s.engine = none → t.probeQueue = [] ∧ t.engine.map (·.line) = some l

theorem exitLive_requeues (h : s.engineReady) (l : LineNo) : s.Requeues l (probeTake (joinProbe l (exitLive l s))) := by
  have honly := State.OnlyLine.exitLive l s
  obtain ⟨f, m, hline, hf⟩ := exitLive_leftFloor l s
  obtain ⟨hgrows, hevents⟩ := exitLive_grows l s
  have htrunc := exitLive_truncates l s
  have hsess := exitLive_sessions l s
  have hj := joinProbe_joined (exitLive_ready h l) l
  generalize probeTake (joinProbe l (exitLive l s)) = t at hj
  generalize exitLive l s = e at honly hline hgrows hevents htrunc hsess hj
  obtain ⟨⟨tx, loss, hjl⟩, hjne, hdesk, hslots, hwaits, htaken⟩ := hj
  rw [honly.engine] at hjl hwaits htaken
  rw [honly.probeQueue] at hwaits
  have hmark : e.beginMark l = s.beginMark l := by
    rw [State.beginMark, hline, honly.unitTime]
    rfl
  rw [hmark, hline] at hjl
  rw [hline] at hgrows
  have hunit : t.unitSummary = e.unitSummary := by
    obtain ⟨-, -, -, -, hu, -⟩ := hdesk.framesAs
    exact hu
  refine ⟨⟨tx, loss, f, m, hjl, hf, hgrows⟩, fun j hj => (hjne j hj).trans (honly.line_ne j hj), ?_,
    hdesk.sessions.trans hsess, fun x hx => hunit ▸ hevents x hx, hwaits, htaken⟩
  exact truncates_congr rfl rfl hslots (by rw [hjl, hline]) htrunc

/-! ### LINE MEASURE -/

theorem lineMeasure_live (hl : numAt rq.body 0 1 = l.val) (h : (s.line l).state = .live) :
    lineMeasure rq s = Answer.of .ok [] (probeTake (joinProbe l (exitLive l s))) := by
  rw [lineMeasure, onLine_of hl, h]

theorem lineMeasure_resting (hl : numAt rq.body 0 1 = l.val) (h : (s.line l).state = .off ∨ (s.line l).state = .dark) :
    lineMeasure rq s = Answer.of .ok [] (probeTake (joinProbe l s)) := by
  rw [lineMeasure, onLine_of hl]
  rcases h with h | h <;> rw [h]

theorem lineMeasure_busy (hl : numAt rq.body 0 1 = l.val)
    (h : (s.line l).state = .queued ∨ (s.line l).state = .measuring ∨ (s.line l).state = .loop) :
    lineMeasure rq s = refuse .lineMeasure rq .busy s := by
  rw [lineMeasure, onLine_of hl]
  rcases h with h | h | h <;> rw [h]

/-- Settles O34, by the state of the line. -/
theorem lineMeasureQueuesLine : Obligations.LineMeasureQueuesLine := by
  intro s rq rest l ha hl hready u v
  have hv : u.line l = v := taken_line s rq rest l
  have hengine : u.engine = s.engine := taken_engine s rq rest
  have hqueue : u.probeQueue = s.probeQueue := taken_probeQueue s rq rest
  have hu : u.engineReady := engineReady_taken hready
  refine ⟨fun hst => ?_, fun hst => congrArg _ (serve_refuse ha (by decide) (lineMeasure_busy hl (hv ▸ hst)))⟩
  by_cases hlive : v.state = .live
  · refine ⟨_, congrArg _ (serve_answer ha (by decide) (lineMeasure_live hl (hv ▸ hlive))), ?_⟩
    obtain ⟨⟨tx, loss, f, m, hline, ⟨hfs, hfw, -⟩, -⟩, hne, htrunc, hsess, -, hwaits, htaken⟩ := exitLive_requeues hu l
    generalize probeTake (joinProbe l (exitLive l u)) = t at hline hne htrunc hsess hwaits htaken
    rw [hengine] at hline hwaits htaken
    rw [hqueue] at hwaits
    rw [hv] at hfs hfw hsess hline
    have htrunc' : s.truncates l t :=
      truncates_congr (taken_slots s rq rest).symm (congrArg (·.summary.has .snapshotDone) hv.symm) rfl rfl htrunc
    rw [hline]
    refine ⟨rfl, rfl, rfl, hfs, hfw, fun j hj => (hne j hj).trans (taken_line s rq rest j), ?_,
      fun he => ⟨if_neg he, hwaits he⟩, fun he => ⟨if_pos he, htaken he⟩, fun _ => ⟨htrunc', rfl, rfl, rfl, rfl, rfl⟩,
      fun hn => absurd hlive hn⟩
    rw [if_pos hlive]
    exact hsess
  · refine ⟨_, congrArg _ (serve_answer ha (by decide)
      (lineMeasure_resting hl (hv ▸ hst.resolve_left hlive))), ?_⟩
    obtain ⟨⟨tx, loss, hline⟩, hne, hdesk, hslots, hwaits, htaken⟩ := joinProbe_joined hu l
    generalize probeTake (joinProbe l u) = t at hline hne hdesk hslots hwaits htaken
    rw [hengine, hv] at hline
    rw [hengine] at hwaits htaken
    rw [hqueue] at hwaits
    rw [hline]
    refine ⟨rfl, rfl, rfl, rfl, rfl, fun j hj => (hne j hj).trans (taken_line s rq rest j), ?_,
      fun he => ⟨if_neg he, hwaits he⟩, fun he => ⟨if_pos he, htaken he⟩, fun h => absurd h hlive,
      fun _ => hslots.trans (taken_slots s rq rest)⟩
    rw [if_neg hlive]
    exact hdesk.sessions

end Sys2Proof.Machine
end

section
/-! SUPPORT. What a trigger leaves in its line, and what the beginning and the end of a burst do (R67, R68, R97 to R99). -/

namespace Sys2Proof.Machine

variable {s t : State} {l : LineNo} {o : SnapshotLengths}

/-! ### A trigger and its line -/

theorem completeSlot_line {k : SlotNo} (h : (s.slot k).line = l) (truncated : Bool) :
    ∃ x, (completeSlot k truncated s).line l =
      { s.line l with summary := (s.line l).summary.plus .snapshotDone x } := by
  subst h
  exact raisePlain_line (s.slot k).line .snapshotDone (s.setSlot k _)

/-- A trigger changes marks and summary of its line: the last mark stays, and SNAPSHOT_DONE joins where the slot taken wants
no post byte (R99, R100). -/
theorem fireTrigger_line (g : Trigger) (s : State) :
    ∃ ms loss m, (fireTrigger g s).line g.line = { s.line g.line with marks := ms, markLoss := loss, summary := m }
      ∧ (∀ before x, (s.line g.line).marks = before ++ [x] → x ∈ ms)
      ∧ (m.has .snapshotDone = true ↔ (s.line g.line).summary.has .snapshotDone = true
          ∨ ∃ k, s.settleTrigger g = .taken k ∧ g.reducedPost = 0) := by
  have still : ∀ h : ∀ k, s.settleTrigger g ≠ .taken k, (fireTrigger g s).line g.line = s.line g.line →
      ∃ ms loss m, (fireTrigger g s).line g.line = { s.line g.line with marks := ms, markLoss := loss, summary := m }
        ∧ (∀ before x, (s.line g.line).marks = before ++ [x] → x ∈ ms)
        ∧ (m.has .snapshotDone = true ↔ (s.line g.line).summary.has .snapshotDone = true
            ∨ ∃ k, s.settleTrigger g = .taken k ∧ g.reducedPost = 0) := fun h e =>
    ⟨(s.line g.line).marks, _, _, e, fun before x hx => hx ▸ List.mem_append_right before (List.mem_singleton_self x),
      (or_iff_left fun ⟨k, hk, _⟩ => h k hk).symm⟩
  cases hs : s.settleTrigger g with
  | filling k =>
    rw [← hs]
    exact still (fun k => by rw [hs]; exact nofun) (by rw [fireTrigger_filling hs, setSlot_line])
  | missed =>
    obtain ⟨d, e, -⟩ := raiseUnit_effect .snapshotMissed s
    rw [← hs]
    exact still (fun k => by rw [hs]; exact nofun) (by rw [fireTrigger_missed hs, e, told_line])
  | taken k =>
    rw [fireTrigger_taken hs]
    obtain ⟨loss, hmark⟩ := appendMark_line g.line .snapshot k.val (s.setSlot k (s.triggeredSlot g))
    rw [setSlot_line] at hmark
    have hkeeps : ∀ before x, (s.line g.line).marks = before ++ [x] → ∀ y, x ∈ markJoins (s.line g.line).marks y :=
      fun before x hx y => by
        obtain ⟨b, hb⟩ := markJoins_keeps before x y
        rw [hx, hb]
        exact List.mem_append_right _ List.mem_cons_self
    by_cases hz : g.reducedPost = 0
    · simp only [takeSlot, if_pos hz]
      obtain ⟨x, hx⟩ := completeSlot_line (s := appendMark g.line .snapshot k.val (s.setSlot k (s.triggeredSlot g)))
        (k := k) (l := g.line) (by rw [hmark, setLine_slot, setSlot_slot_same]; rfl) false
      rw [hx, hmark, setLine_line_same]
      exact ⟨_, _, _, rfl, fun before y hy => hkeeps before y hy _,
        by rw [plus_has]; exact or_congr_right ⟨fun _ => ⟨k, rfl, hz⟩, fun _ => rfl⟩⟩
    · simp only [takeSlot, if_neg hz]
      rw [hmark, setLine_line_same]
      exact ⟨_, _, _, rfl, fun before y hy => hkeeps before y hy _, (or_iff_left fun ⟨_, _, h⟩ => hz h).symm⟩

/-! ### A burst begins -/

/-- The mark that a burst, or the loss of a rate, leaves at a line's `newest` (R39, R67, R68). -/
def State.markNow (s : State) (l : LineNo) (k : MarkKind) : Mark :=
  { offset := (s.line l).ring.newest, stamp := s.unitTime, kind := k, arg := 0 }

/-- The part between the report of a burst that begins and its trigger (R67). -/
def State.burstTold (s : State) (l : LineNo) : State :=
  (raisePlain l .burstBegin (appendMark l .burstBegin 0 s)).modLine l fun u =>
    { u with monitor := { u.monitor with burstLeft := if u.params.tb = 0 then none else some (u.params.tb * 1000) } }

theorem burstTold_line (s : State) (l : LineNo) :
    ∃ loss x, (s.burstTold l).line l =
      { s.line l with
        marks := markJoins (s.line l).marks (s.markNow l .burstBegin), markLoss := loss
        summary := (s.line l).summary.plus .burstBegin x
        monitor := { (s.line l).monitor with
          burstLeft := if (s.line l).params.tb = 0 then none else some ((s.line l).params.tb * 1000) } } := by
  obtain ⟨loss, hmark⟩ := appendMark_line l .burstBegin 0 s
  obtain ⟨x, hx⟩ := raisePlain_line l .burstBegin (appendMark l .burstBegin 0 s)
  refine ⟨loss, x, ?_⟩
  rw [State.burstTold, modLine_eq, setLine_line_same, hx, hmark, setLine_line_same]
  rfl

theorem burstTold_alerts (s : State) (l : LineNo) : State.Alerts l s (s.burstTold l) :=
  ((State.Alerts.appendMark l .burstBegin 0 s).trans (.raiseLine l .burstBegin 0 0 0 _)).trans (.setLine (grows_refl _))

theorem burstTold_slots (s : State) (l : LineNo) : (s.burstTold l).slots = s.slots := by
  obtain ⟨loss, hmark⟩ := appendMark_line l .burstBegin 0 s
  obtain ⟨x, d, h, -⟩ := raiseLine_effect l .burstBegin 0 0 0 (appendMark l .burstBegin 0 s)
  rw [State.burstTold, modLine_eq, setLine_slots, raisePlain, h, told_slots, setLine_slots, hmark, setLine_slots]

/-- A floor that hears that its line is busy (R139). -/
def Floor.heldBusy (f : Floor) : Floor :=
  { f with busy := true, idle := match f.idle with | .running _ => .heldStill | x => x }

theorem burstBegins_eq (l : LineNo) (s : State) :
    ∃ t, t = optionTrigger l .burst (s.line l).record.burstSnapshot (s.burstTold l)
      ∧ burstBegins l s = t.setLine l { t.line l with floor := (t.line l).floor.heldBusy } := by
  obtain ⟨loss, x, h⟩ := burstTold_line s l
  have hrec : ((s.burstTold l).line l).record = (s.line l).record := by rw [h]
  refine ⟨_, rfl, ?_⟩
  rw [← hrec]
  rfl

/-- What the beginning of a burst leaves, from `s` to `t`, whatever its snapshot option says (R67). -/
structure State.BurstBegun (s : State) (l : LineNo) (t : State) : Prop where
  alerts : State.Alerts l s t
  line : ∃ ms loss m f, t.line l = (s.line l).reported ms loss
      { (s.line l).monitor with
        burstLeft := if (s.line l).params.tb = 0 then none else some ((s.line l).params.tb * 1000) } m f
    ∧ s.markNow l .burstBegin ∈ ms ∧ m.has .burstBegin = true ∧ f.busy = true

/-- The burst snapshot option is off (R97). -/
theorem burstBegins_plain (h : (s.line l).record.burstSnapshot = none) :
    s.BurstBegun l (burstBegins l s) ∧ (burstBegins l s).slots = s.slots
      ∧ ((s.line l).marks.length ≤ 32 →
          ((burstBegins l s).line l).marks = marksAfter (s.line l).marks [s.markNow l .burstBegin])
      ∧ (((burstBegins l s).line l).summary.has .snapshotDone = true ↔ (s.line l).summary.has .snapshotDone = true) := by
  obtain ⟨t, ht, hb⟩ := burstBegins_eq l s
  have htold : t = s.burstTold l := by rw [ht, h]; rfl
  obtain ⟨loss, x, hline⟩ := burstTold_line s l
  rw [← htold] at hline
  obtain ⟨before, hlast⟩ := markJoins_last (s.line l).marks (s.markNow l .burstBegin)
  have halerts : State.Alerts l s t := htold ▸ burstTold_alerts s l
  rw [hb]
  refine ⟨⟨halerts.trans (.setLine (grows_refl _)), ?_⟩, ?_, fun hlen => ?_, ?_⟩
  · rw [setLine_line_same, hline]
    refine ⟨_, _, _, _, rfl, ?_, (plus_has ..).mpr (.inr rfl), rfl⟩
    rw [hlast]
    exact List.mem_append_right _ (List.mem_singleton_self _)
  · rw [setLine_slots, htold, burstTold_slots]
  · rw [setLine_line_same, hline]
    exact markJoins_after hlen _
  · rw [setLine_line_same, hline]
    exact (plus_has ..).trans (or_iff_left nofun)

/-- The burst snapshot option is on: a trigger (R97 to R99). -/
theorem burstBegins_triggers (h : (s.line l).record.burstSnapshot = some o) :
    s.BurstBegun l (burstBegins l s) ∧ ∃ how : Settled,
      Trigger.settles { line := l, cause := .burst, pre := o.pre, post := o.post, others := 0 } s (s.line l)
        s.slot (burstBegins l s).slot how
      ∧ ((s.line l).marks.length ≤ 32 → ((burstBegins l s).line l).marks = marksAfter (s.line l).marks
          (s.markNow l .burstBegin :: how.marks (s.line l).ring.newest s.unitTime))
      ∧ (how = .missed → (burstBegins l s).unitSummary.has .snapshotMissed = true)
      ∧ (((burstBegins l s).line l).summary.has .snapshotDone = true ↔
          (s.line l).summary.has .snapshotDone = true ∨ ∃ k, how = .taken k ∧ min o.post (8192 - o.pre) = 0) := by
  generalize hg : ({ line := l, cause := .burst, pre := o.pre, post := o.post, others := 0 } : Trigger) = g
  have hpost : min o.post (8192 - o.pre) = g.reducedPost := by rw [reducedPost_eq, ← hg]
  obtain rfl : g.line = l := by rw [← hg]
  obtain ⟨t, ht, hb⟩ := burstBegins_eq g.line s
  obtain ⟨loss, x, hline⟩ := burstTold_line s g.line
  have htold := burstTold_alerts s g.line
  have hslots := burstTold_slots s g.line
  obtain ⟨hunit, htime, -⟩ := htold.same
  generalize s.burstTold g.line = b at ht hline htold hslots hunit htime
  have hfired : t = fireTrigger g b := by
    rw [ht, h, ← hg]
    rfl
  obtain ⟨before, hlast⟩ := markJoins_last (s.line g.line).marks (s.markNow g.line .burstBegin)
  obtain ⟨ms, loss', m, htl, hkeeps, hdone⟩ := fireTrigger_line g b
  have hmarks := fireTrigger_marks g b
  have hsettles := fireTrigger_settles_from (u := s.line g.line) hslots htime hunit (by rw [hline])
  have htrigger := State.Alerts.fireTrigger g b
  have hmissed := fireTrigger_missed_told (s := b) (g := g)
  have hburst := htrigger.grows.1 .burstBegin (by rw [hline]; exact (plus_has ..).mpr (.inr rfl))
  rw [← hfired] at htl hmarks hsettles htrigger hmissed hburst
  rw [hline] at htl hkeeps hdone hmarks
  rw [htl] at hburst hmarks
  rw [hb]
  refine ⟨⟨(htold.trans htrigger).trans (.setLine (grows_refl _)), ?_⟩, _, hsettles, fun hlen => ?_, hmissed, ?_⟩ <;>
    rw [setLine_line_same, htl]
  · exact ⟨_, _, _, _, rfl, hkeeps _ _ hlast, hburst, rfl⟩
  · have hjoined := markJoins_after hlen (s.markNow g.line .burstBegin)
    have hms := hmarks (by rw [hjoined]; exact marksAfter_length _ _)
    rw [hjoined, marksAfter_append, htime] at hms
    exact hms
  · rw [hpost]
    exact hdone.trans (or_congr_left ((plus_has ..).trans (or_iff_left nofun)))

/-! ### A burst ends -/

/-- What the end of a burst by decay leaves, from `s` to `t` (R68). -/
structure State.BurstOver (s : State) (l : LineNo) (t : State) : Prop where
  alerts : State.Alerts l s t
  line : ∃ loss x f, t.line l = (s.line l).reported (markJoins (s.line l).marks (s.markNow l .burstEnd)) loss
      { (s.line l).monitor with burstLeft := none } ((s.line l).summary.plus .burstEnd x) f
    ∧ f.busy = false
  slots : t.slots = s.slots

theorem burstDecays_over (l : LineNo) (s : State) : s.BurstOver l (burstDecays l s) := by
  obtain ⟨loss, hmark⟩ := appendMark_line l .burstEnd 0 s
  obtain ⟨x, hx⟩ := raisePlain_line l .burstEnd (appendMark l .burstEnd 0 s)
  have halerts : State.Alerts l s (burstEnds l 0 s) :=
    (State.Alerts.appendMark l .burstEnd 0 s).trans (.raiseLine l .burstEnd 0 0 0 _)
  have hslots : (burstEnds l 0 s).slots = s.slots := by
    obtain ⟨o, d, h, -⟩ := raiseLine_effect l .burstEnd 0 0 0 (appendMark l .burstEnd 0 s)
    rw [burstEnds, raisePlain, h, told_slots, setLine_slots, hmark, setLine_slots]
  rw [← burstEnds, hmark, setLine_line_same] at hx
  unfold burstDecays
  rw [floorQuiet_effect, modLine_eq, setLine_line_same, setLine_setLine]
  refine ⟨halerts.trans (.setLine (grows_refl _)), ?_, ?_⟩
  · rw [setLine_line_same, hx]
    exact ⟨loss, x, _, rfl, rfl⟩
  · rw [setLine_slots, hslots]

end Sys2Proof.Machine
end

section
/-! SUPPORT. What a sample expiry makes of the monitor (R61, R64 to R66, R69), and of the part before the error streak is
judged. -/

namespace Sys2Proof.Machine

variable {s b t : State} {l : LineNo} {p : MonitorParams} {st : MonitorState} {k : Nat}

/-! ### The step of the monitor state -/

theorem bursting_iff : st.bursting = true ↔ st = .burst ∨ st = .falling := by cases st <;> simp [MonitorState.bursting]

/-- From QUIET or RISING no line comes to FALLING (R66). -/
theorem next_ne_falling (h : st.bursting = false) (x y : Bool) : (p.next st k x y).1 ≠ .falling := by
  cases st with
  | quiet | rising => simp only [MonitorParams.next]; split_ifs <;> simp
  | burst | falling => cases h

/-- From BURST or FALLING no line comes to RISING (R66). -/
theorem next_ne_rising (h : st.bursting = true) (x y : Bool) : (p.next st k x y).1 ≠ .rising := by
  cases st with
  | quiet | rising => cases h
  | burst | falling => simp only [MonitorParams.next]; split_ifs <;> simp

/-- A branch taken on a threshold reached, written with the threshold missed first. -/
theorem ite_missed {α : Type} {c d : Prop} [Decidable c] [Decidable d] (x y z : α) :
    (if c then if ¬ d then x else y else z) = if ¬ c then z else if d then y else x := by
  by_cases hc : c <;> by_cases hd : d <;> simp [hc, hd]

/-- State and debounce count after an expiry, by the two thresholds (R65, R66). -/
theorem next_eq (p : MonitorParams) (st : MonitorState) (k fast long : Nat) :
    p.next st k (p.enters fast long) (p.exits fast long) =
      let enter := max p.dfloor (long * p.te / 16)
      let leave := enter - enter * p.th / 256
      let above := long + enter < fast
      let below := fast < long + leave
      match st with
      | .quiet => if ¬ above then (.quiet, 0) else if 1 < p.ce then (.rising, 1) else (.burst, 0)
      | .rising => if ¬ above then (.quiet, 0) else if k + 1 < p.ce then (.rising, k + 1) else (.burst, 0)
      | .burst => if ¬ below then (.burst, 0) else if 1 < p.cx then (.falling, 1) else (.quiet, 0)
      | .falling => if ¬ below then (.burst, 0) else if k + 1 < p.cx then (.falling, k + 1) else (.quiet, 0) := by
  have henters : p.enters fast long = true ↔ long + max p.dfloor (long * p.te / 16) < fast := decide_eq_true_iff
  have hexits : p.exits fast long = true ↔ fast < long + (max p.dfloor (long * p.te / 16)
      - max p.dfloor (long * p.te / 16) * p.th / 256) := decide_eq_true_iff
  cases st <;> simp only [MonitorParams.next, henters, hexits, ← Nat.not_lt, ite_missed]

/-! ### What an expiry computes -/

/-- F after an expiry that does not seed (R64). -/
def Line.fastNext (u : Line) : Nat := moveToward u.monitor.fast (16 * u.monitor.chars) u.params.bf

/-- State and debounce count after an expiry that does not seed (R66). -/
def Line.stateNext (u : Line) : MonitorState × Nat :=
  u.params.next u.monitor.state u.monitor.count (u.params.enters u.fastNext u.monitor.long)
    (u.params.exits u.fastNext u.monitor.long)

/-- A burst begins at this expiry (R67). -/
def Line.begins (u : Line) : Bool :=
  !u.monitor.seedPending && u.stateNext.1.bursting && !u.monitor.state.bursting

/-- A burst ends by decay at this expiry (R68). -/
def Line.ends (u : Line) : Bool :=
  !u.monitor.seedPending && !u.stateNext.1.bursting && u.monitor.state.bursting

theorem begins_iff : (s.line l).begins = true ↔ (s.line l).monitor.seedPending = false
    ∧ (s.line l).stateNext.1.bursting = true ∧ (s.line l).monitor.state.bursting = false := by
  simp only [Line.begins, Bool.and_eq_true, Bool.not_eq_true', and_assoc]

theorem ends_iff : (s.line l).ends = true ↔ (s.line l).monitor.seedPending = false
    ∧ (s.line l).stateNext.1.bursting = false ∧ (s.line l).monitor.state.bursting = true := by
  simp only [Line.ends, Bool.and_eq_true, Bool.not_eq_true', and_assoc]

theorem not_begins_of_ends (h : (s.line l).ends = true) : ¬ (s.line l).begins = true := fun hb => by
  obtain ⟨-, -, hquiet⟩ := begins_iff.mp hb
  obtain ⟨-, -, hon⟩ := ends_iff.mp h
  rw [hquiet] at hon
  cases hon

/-- A seeding expiry leaves the state, so no burst begins or ends (R61). -/
theorem still_of_seedPending (h : (s.line l).monitor.seedPending = true) :
    ¬ (s.line l).begins = true ∧ ¬ (s.line l).ends = true := by
  simp only [Line.begins, Line.ends, h, Bool.not_true, Bool.false_and, Bool.false_eq_true, not_false_eq_true, and_self]

/-- The monitor with F and the state moved, or seeded (R61, R64, R66). -/
def Line.sampled (u : Line) : Monitor :=
  if u.monitor.seedPending then
    { u.monitor with fast := 16 * u.monitor.chars, long := 16 * u.monitor.chars, seedPending := false }
  else { u.monitor with fast := u.fastNext, state := u.stateNext.1, count := u.stateNext.2 }

/-- L after an expiry (R61, R69). -/
def State.longNext (s : State) (l : LineNo) : Nat :=
  let u := s.line l
  if u.monitor.seedPending then 16 * u.monitor.chars
  else if u.stateNext.1.bursting || s.groupHeld l then u.monitor.long
  else moveToward u.monitor.long u.fastNext u.params.bl

/-- The part once F and the state have moved. -/
def State.sampled (s : State) (l : LineNo) : State := s.setLine l { s.line l with monitor := (s.line l).sampled }

theorem sampled_line (s : State) (l : LineNo) :
    (s.sampled l).line l = { s.line l with monitor := (s.line l).sampled } := setLine_line_same s l _

theorem sampled_alerts (s : State) (l : LineNo) : State.Alerts l s (s.sampled l) := .setLine (grows_refl _)

/-- The part once a burst that begins or ends has been reported (R67, R68). -/
def State.judged (s : State) (l : LineNo) : State :=
  if (s.line l).begins then burstBegins l (s.sampled l)
  else if (s.line l).ends then burstDecays l (s.sampled l)
  else s.sampled l

theorem judged_begins (h : (s.line l).begins = true) : s.judged l = burstBegins l (s.sampled l) := if_pos h

theorem judged_ends (h : (s.line l).ends = true) : s.judged l = burstDecays l (s.sampled l) := by
  rw [State.judged, if_neg (not_begins_of_ends h), if_pos h]

theorem judged_still (hb : ¬ (s.line l).begins = true) (he : ¬ (s.line l).ends = true) : s.judged l = s.sampled l := by
  rw [State.judged, if_neg hb, if_neg he]

/-! ### What the reports of a burst leave -/

theorem burstBegun_sampled (h : (s.sampled l).BurstBegun l b) : State.Alerts l s b ∧ ∃ ms loss left m f,
    b.line l = (s.line l).reported ms loss { (s.line l).sampled with burstLeft := left } m f := by
  obtain ⟨ms, loss, m, f, hline, -⟩ := h.line
  rw [sampled_line] at hline
  exact ⟨(sampled_alerts s l).trans h.alerts, _, _, _, _, _, hline⟩

/-- Whatever is reported, the line keeps all but marks, monitor, summary and floor, and F, L and state are those of the
expiry. -/
theorem judged_line (s : State) (l : LineNo) : State.Alerts l s (s.judged l) ∧ ∃ ms loss left m f,
    (s.judged l).line l = (s.line l).reported ms loss { (s.line l).sampled with burstLeft := left } m f := by
  by_cases hb : (s.line l).begins = true
  · rw [judged_begins hb]
    cases ho : (s.line l).record.burstSnapshot with
    | none => exact burstBegun_sampled (burstBegins_plain (by rw [sampled_line]; exact ho)).1
    | some o => exact burstBegun_sampled (burstBegins_triggers (by rw [sampled_line]; exact ho)).1
  · by_cases he : (s.line l).ends = true
    · rw [judged_ends he]
      have h := burstDecays_over l (s.sampled l)
      obtain ⟨loss, x, f, hline, -⟩ := h.line
      rw [sampled_line] at hline
      exact ⟨(sampled_alerts s l).trans h.alerts, _, _, _, _, _, hline⟩
    · rw [judged_still hb he, sampled_line]
      exact ⟨sampled_alerts s l, _, _, (s.line l).sampled.burstLeft, _, _, rfl⟩

/-! ### L -/

theorem groupHeld_congr (hne : ∀ j, j ≠ l → b.line j = s.line j) (hp : (b.line l).params = (s.line l).params) :
    b.groupHeld l = s.groupHeld l := by
  have heach : (fun j => decide (j ≠ l) && decide ((b.line j).params.group = (s.line l).params.group)
        && (b.line j).monitor.state.bursting)
      = fun j => decide (j ≠ l) && decide ((s.line j).params.group = (s.line l).params.group)
        && (s.line j).monitor.state.bursting := by
    funext j
    by_cases hj : j = l
    · simp only [hj, ne_eq, not_true_eq_false, decide_false, Bool.false_and]
    · simp only [hne j hj]
  simp only [State.groupHeld, hp, heach]

theorem groupHeld_iff : s.groupHeld l = true ↔ (s.line l).params.group ≠ 0 ∧ ∃ j, j ≠ l
    ∧ (s.line j).params.group = (s.line l).params.group
    ∧ ((s.line j).monitor.state = .burst ∨ (s.line j).monitor.state = .falling) := by
  simp only [State.groupHeld, Bool.and_eq_true, decide_eq_true_eq, List.any_eq_true, List.mem_finRange, true_and,
    bursting_iff, and_assoc]

theorem learnLong_eq (l : LineNo) (b : State) :
    learnLong l b = b.setLine l { b.line l with monitor := { (b.line l).monitor with
      long := if (b.line l).monitor.state.bursting || b.groupHeld l then (b.line l).monitor.long
        else moveToward (b.line l).monitor.long (b.line l).monitor.fast (b.line l).params.bl } } := by
  unfold learnLong
  split
  · exact (setLine_self b l).symm
  · rfl

theorem monitorExpiry_seeds (h : (s.line l).monitor.seedPending = true) : monitorExpiry l s = s.sampled l := by
  simp only [monitorExpiry, State.sampled, Line.sampled, h, if_true]

theorem monitorExpiry_moves (h : (s.line l).monitor.seedPending = false) :
    monitorExpiry l s = learnLong l (s.judged l) := by
  have hsampled : s.sampled l = s.setLine l { s.line l with monitor := { (s.line l).monitor with
      fast := (s.line l).fastNext, state := (s.line l).stateNext.1, count := (s.line l).stateNext.2 } } := by
    simp only [State.sampled, Line.sampled, h, Bool.false_eq_true, if_false]
  have hbegins : (s.line l).stateNext.1 = .burst ∧ (s.line l).monitor.state.bursting = false
      ↔ (s.line l).begins = true := by
    rw [begins_iff, bursting_iff]
    exact ⟨fun ⟨h1, h2⟩ => ⟨h, .inl h1, h2⟩, fun ⟨_, h1, h2⟩ => ⟨h1.resolve_right (next_ne_falling h2 _ _), h2⟩⟩
  have hends : (s.line l).stateNext.1 = .quiet ∧ (s.line l).monitor.state.bursting = true
      ↔ (s.line l).ends = true := by
    rw [ends_iff]
    refine ⟨fun ⟨h1, h2⟩ => ⟨h, by rw [h1]; rfl, h2⟩, fun ⟨_, h1, h2⟩ => ⟨?_, h2⟩⟩
    have hr : (s.line l).stateNext.1 ≠ .rising := next_ne_rising h2 _ _
    cases hst : (s.line l).stateNext.1 with
    | quiet => rfl
    | rising => exact absurd hst hr
    | burst | falling => rw [hst] at h1; cases h1
  refine (if_neg (by rw [h]; exact Bool.false_ne_true)).trans ?_
  rw [State.judged, ← if_congr hbegins rfl rfl, ← if_congr hends rfl rfl, hsampled]
  rfl

/-- The monitor's part of an expiry: F and the state move, a burst is reported, L learns. -/
theorem monitorExpiry_eq (l : LineNo) (s : State) :
    monitorExpiry l s = (s.judged l).setLine l { (s.judged l).line l with
      monitor := { ((s.judged l).line l).monitor with long := s.longNext l } } := by
  cases hp : (s.line l).monitor.seedPending with
  | true =>
    obtain ⟨hb, he⟩ := still_of_seedPending hp
    rw [monitorExpiry_seeds hp, judged_still hb he, sampled_line]
    simp only [State.sampled, Line.sampled, State.longNext, hp, if_true, setLine_setLine]
  | false =>
    obtain ⟨halerts, ms, loss, left, m, f, hline⟩ := judged_line s l
    have hgroup := groupHeld_congr halerts.line_ne (by rw [hline]; rfl)
    rw [monitorExpiry_moves hp, learnLong_eq, hgroup, hline]
    simp only [Line.reported, Line.sampled, State.longNext, hp, Bool.false_eq_true, if_false]

end Sys2Proof.Machine
end

section
/-! SUPPORT. The end of a sample expiry: the next interval begins and the error streak is judged (R39, R61). -/

namespace Sys2Proof.Machine

variable {s t b : State} {l : LineNo} {o : SnapshotLengths}

/-! ### A burst, as the expiry reports it -/

theorem markNow_sampled (s : State) (l : LineNo) (k : MarkKind) : (s.sampled l).markNow l k = s.markNow l k := by
  rw [State.markNow, sampled_line]
  rfl

/-- The line once the beginning of a burst is reported (R67). -/
theorem judged_begun (h : (s.line l).begins = true) : ∃ ms loss m f,
    (s.judged l).line l = (s.line l).reported ms loss
      { (s.line l).sampled with
        burstLeft := if (s.line l).params.tb = 0 then none else some ((s.line l).params.tb * 1000) } m f
    ∧ s.markNow l .burstBegin ∈ ms ∧ m.has .burstBegin = true ∧ f.busy = true := by
  have hb : (s.sampled l).BurstBegun l (s.judged l) := by
    rw [judged_begins h]
    cases ho : (s.line l).record.burstSnapshot with
    | none => exact (burstBegins_plain (by rw [sampled_line]; exact ho)).1
    | some o => exact (burstBegins_triggers (by rw [sampled_line]; exact ho)).1
  obtain ⟨ms, loss, m, f, hline, hmark, hm, hf⟩ := hb.line
  rw [sampled_line] at hline
  rw [markNow_sampled] at hmark
  exact ⟨ms, loss, m, f, hline, hmark, hm, hf⟩

theorem judged_plain (h : (s.line l).begins = true) (ho : (s.line l).record.burstSnapshot = none) :
    (s.judged l).slots = s.slots
      ∧ ((s.line l).marks.length ≤ 32 →
          ((s.judged l).line l).marks = marksAfter (s.line l).marks [s.markNow l .burstBegin])
      ∧ (((s.judged l).line l).summary.has .snapshotDone = true ↔ (s.line l).summary.has .snapshotDone = true) := by
  obtain ⟨-, hslots, hmarks, hdone⟩ := burstBegins_plain (s := s.sampled l) (by rw [sampled_line]; exact ho)
  rw [sampled_line, markNow_sampled] at hmarks
  rw [sampled_line] at hdone
  rw [judged_begins h]
  exact ⟨hslots, hmarks, hdone⟩

theorem judged_triggers (h : (s.line l).begins = true) (ho : (s.line l).record.burstSnapshot = some o) :
    ∃ how : Settled,
      Trigger.settles { line := l, cause := .burst, pre := o.pre, post := o.post, others := 0 } s (s.line l)
        s.slot (s.judged l).slot how
      ∧ ((s.line l).marks.length ≤ 32 → ((s.judged l).line l).marks = marksAfter (s.line l).marks
          (s.markNow l .burstBegin :: how.marks (s.line l).ring.newest s.unitTime))
      ∧ (how = .missed → (s.judged l).unitSummary.has .snapshotMissed = true)
      ∧ (((s.judged l).line l).summary.has .snapshotDone = true ↔
          (s.line l).summary.has .snapshotDone = true ∨ ∃ k, how = .taken k ∧ min o.post (8192 - o.pre) = 0) := by
  obtain ⟨-, how, hsettles, hmarks, hmissed, hdone⟩ :=
    burstBegins_triggers (s := s.sampled l) (by rw [sampled_line]; exact ho)
  rw [sampled_line, markNow_sampled] at hmarks
  rw [sampled_line] at hdone
  have hfrom := (settles_congr (s := s) (u := s.line l) rfl rfl (by rw [sampled_line])).mp hsettles
  rw [judged_begins h]
  exact ⟨how, hfrom, hmarks, hmissed, hdone⟩

/-- The line once the end of a burst by decay is reported (R68). -/
theorem judged_over (h : (s.line l).ends = true) : (s.judged l).slots = s.slots ∧ ∃ loss x f,
    (s.judged l).line l = (s.line l).reported (markJoins (s.line l).marks (s.markNow l .burstEnd)) loss
      { (s.line l).sampled with burstLeft := none } ((s.line l).summary.plus .burstEnd x) f
    ∧ f.busy = false := by
  rw [judged_ends h]
  obtain ⟨-, ⟨loss, x, f, hline, hf⟩, hslots⟩ := burstDecays_over l (s.sampled l)
  rw [sampled_line, markNow_sampled] at hline
  exact ⟨hslots, loss, x, f, hline, hf⟩

/-! ### The next interval and the streak -/

/-- The error streak after the expiry (R39). -/
def Line.streakNext (u : Line) : Nat := u.judgedStreak u.monitor.chars u.monitor.errors

/-- A line whose streak is judged, L settled and next interval begun (R39, R61, R69). -/
def Line.restarted (u : Line) (streak long : Nat) : Line :=
  { u with
    streak := streak
    monitor := { u.monitor with long := long, chars := 0, errors := 0, sampleLeft := some 100 } }

/-- The part after the expiry, a streak at its limit not yet acted upon. -/
def State.expired (s : State) (l : LineNo) : State :=
  (s.judged l).setLine l (((s.judged l).line l).restarted (s.line l).streakNext (s.longNext l))

theorem expired_line (s : State) (l : LineNo) :
    (s.expired l).line l = ((s.judged l).line l).restarted (s.line l).streakNext (s.longNext l) :=
  setLine_line_same _ l _

theorem expired_alerts (s : State) (l : LineNo) : State.Alerts l s (s.expired l) :=
  (judged_line s l).1.trans (.setLine (grows_refl _))

theorem sampleLine_expired (l : LineNo) (s : State) : sampleLine l s =
    if 0 < (s.line l).streakNext ∧ (s.line l).record.streakLimit ≤ (s.line l).streakNext then loseRate l (s.expired l)
    else s.expired l := by
  obtain ⟨-, ms, loss, left, m, f, hline⟩ := judged_line s l
  have hnext : nextInterval l (monitorExpiry l s) = (s.judged l).setLine l { (s.judged l).line l with
      monitor := { ((s.judged l).line l).monitor with
        long := s.longNext l, chars := 0, errors := 0, sampleLeft := some 100 } } := by
    rw [monitorExpiry_eq, nextInterval, modLine_eq, setLine_line_same, setLine_setLine]
  unfold sampleLine judgeStreak
  rw [hnext]
  simp only [modLine_eq, setLine_line_same, setLine_setLine]
  rw [State.expired, hline]
  rfl

/-- Between two expiries of the monitor nothing but it and the streak changes where no burst begins or ends. -/
theorem expired_still (hb : ¬ (s.line l).begins = true) (he : ¬ (s.line l).ends = true) :
    s.expired l = s.setLine l
      ({ s.line l with monitor := (s.line l).sampled }.restarted (s.line l).streakNext (s.longNext l)) := by
  rw [State.expired, judged_still hb he, sampled_line, State.sampled, setLine_setLine]

/-! ### L and the grouped lines -/

theorem sampled_moves (h : (s.line l).monitor.seedPending = false) : (s.line l).sampled =
    { (s.line l).monitor with
      fast := (s.line l).fastNext, state := (s.line l).stateNext.1, count := (s.line l).stateNext.2 } := by
  rw [Line.sampled, h, if_neg Bool.false_ne_true]

theorem sampled_seeds (h : (s.line l).monitor.seedPending = true) :
    (s.line l).sampled.fast = 16 * (s.line l).monitor.chars ∧ s.longNext l = 16 * (s.line l).monitor.chars := by
  simp only [Line.sampled, State.longNext, h, if_true, and_self]

theorem longNext_held (h : (s.line l).monitor.seedPending = false)
    (hh : (s.line l).stateNext.1.bursting = true ∨ s.groupHeld l = true) :
    s.longNext l = (s.line l).monitor.long := by
  simp only [State.longNext, h, Bool.false_eq_true, if_false, Bool.or_eq_true, if_pos hh]

theorem longNext_moves (h : (s.line l).monitor.seedPending = false)
    (hh : ¬ ((s.line l).stateNext.1.bursting = true ∨ s.groupHeld l = true)) :
    s.longNext l = moveToward (s.line l).monitor.long (s.line l).fastNext (s.line l).params.bl := by
  simp only [State.longNext, h, Bool.false_eq_true, if_false, Bool.or_eq_true, if_neg hh]

/-! ### A grant of DATA and what it looks at -/

theorem grantData_sessions_congr (hsess : t.sessions = s.sessions) (hlast : t.lastSession = s.lastSession)
    (hfree : t.upFree = s.upFree) (hr : ∀ j, (t.line j).ring = (s.line j).ring)
    (hs : ∀ j, (t.line j).settled = (s.line j).settled) : (grantData t).sessions = (grantData s).sessions := by
  have hsession (i : SessionNo) : t.session i = s.session i := by rw [State.session, hsess, State.session]
  have havail (i : SessionNo) : t.available i = s.available i := by simp only [State.available, hsession, hr]
  have hready (i : SessionNo) : t.ready i = s.ready i := by simp only [State.ready, hsession, havail, hs]
  have hlen (i : SessionNo) : t.dataLength i = s.dataLength i := by simp only [State.dataLength, hsession, havail]
  have hnext : t.nextReady? = s.nextReady? := by rw [State.nextReady?, funext hready, hlast, State.nextReady?]
  have hform (i : SessionNo) (x y : State) (hx : x.sessions = t.sessions) (hy : y.sessions = s.sessions)
      (hlx : x.dataLength i = t.dataLength i) (hly : y.dataLength i = s.dataLength i) :
      (formData i x).sessions = (formData i y).sessions := by
    simp only [formData, State.modSession, State.setSession, State.session, hx, hy, hlx, hly, hlen, hsess]
  unfold grantData
  rw [hfree]
  split
  · simp only [grantMember, hnext]
    split
    · exact hsess
    · exact hform _ _ _ rfl rfl rfl rfl
  · exact hsess

/-! ### The rate is lost -/

/-- The part once the loss of the rate is marked and raised (R39). -/
def State.rateLost (s : State) (l : LineNo) : State := raisePlain l .rateLost (appendMark l .rateLost 0 s)

theorem rateLost_alerts (s : State) (l : LineNo) : State.Alerts l s (s.rateLost l) :=
  (State.Alerts.appendMark l .rateLost 0 s).trans (.raiseLine l .rateLost 0 0 0 _)

theorem rateLost_line (s : State) (l : LineNo) : ∃ loss x, (s.rateLost l).line l =
    { s.line l with
      marks := markJoins (s.line l).marks (s.markNow l .rateLost), markLoss := loss
      summary := (s.line l).summary.plus .rateLost x } := by
  obtain ⟨loss, hmark⟩ := appendMark_line l .rateLost 0 s
  obtain ⟨x, hx⟩ := raisePlain_line l .rateLost (appendMark l .rateLost 0 s)
  rw [hmark, setLine_line_same] at hx
  exact ⟨loss, x, by rw [State.rateLost, hmark]; exact hx⟩

theorem rateLost_slots (s : State) (l : LineNo) : (s.rateLost l).slots = s.slots := by
  obtain ⟨loss, hmark⟩ := appendMark_line l .rateLost 0 s
  obtain ⟨x, d, h, -⟩ := raiseLine_effect l .rateLost 0 0 0 (appendMark l .rateLost 0 s)
  rw [State.rateLost, raisePlain, h, told_slots, setLine_slots, hmark, setLine_slots]

theorem alerts_engine (h : State.Alerts l s t) :
    t.engine = s.engine ∧ t.probeQueue = s.probeQueue ∧ t.lastSession = s.lastSession := by
  rw [h.rest]
  exact ⟨rfl, rfl, rfl⟩

/-- Without a collector no ALERT takes the transmitter (R149). -/
theorem alerts_upFree (h : State.Alerts l s t) (hc : s.unit.collector = 0) : t.upFree = s.upFree := by
  obtain ⟨-, htx⟩ := h.silent hc
  rw [State.upFree, htx, h.rest]
  rfl

theorem alerts_grantData (h : State.Alerts l s t) (hc : s.unit.collector = 0)
    (hr : (t.line l).ring = (s.line l).ring) :
    (grantData (t.setLine l { t.line l with settled := true })).sessions
      = (grantData (s.setLine l { s.line l with settled := true })).sessions := by
  obtain ⟨-, -, hlast⟩ := alerts_engine h
  obtain ⟨-, -, -, hsess, -⟩ := h.same
  have hfree := alerts_upFree h hc
  refine grantData_sessions_congr hsess hlast hfree (fun j => ?_) (fun j => ?_) <;>
    by_cases hj : j = l
  · rw [hj, setLine_line_same, setLine_line_same]
    exact hr
  · rw [setLine_line_ne _ _ hj, setLine_line_ne _ _ hj, h.line_ne j hj]
  · rw [hj, setLine_line_same, setLine_line_same]
  · rw [setLine_line_ne _ _ hj, setLine_line_ne _ _ hj, h.line_ne j hj]

end Sys2Proof.Machine
end

section
/-! SUPPORT. The sample expiry as a whole: with the rate kept, and with the rate lost (R39, R61 to R69). -/

namespace Sys2Proof.Machine

variable {s t b : State} {l : LineNo} {o : SnapshotLengths}

/-! ### SAMPLE_EXPIRY -/

theorem exec_sampleExpiry_waits (h : (s.line l).state ≠ .live ∨ (s.line l).monitor.sampleLeft ≠ some 0) :
    exec (.sampleExpiry l) s = .next s :=
  congrArg _ (if_neg fun ⟨hlive, hleft⟩ => h.elim (· hlive) (· (ranOut_eq_true.mp hleft)))

theorem exec_sampleExpiry (hlive : (s.line l).state = .live) (hleft : (s.line l).monitor.sampleLeft = some 0) :
    exec (.sampleExpiry l) s = .next (upGrant (sampleLine l s)) :=
  congrArg _ (if_pos ⟨hlive, ranOut_eq_true.mpr hleft⟩)

/-- The streak has come to its limit (R39). -/
def Line.rateGone (u : Line) : Prop := 0 < u.streakNext ∧ u.record.streakLimit ≤ u.streakNext

theorem sampleLine_kept (h : ¬ (s.line l).rateGone) : sampleLine l s = s.expired l :=
  (sampleLine_expired l s).trans (if_neg h)

theorem sampleLine_lost (h : (s.line l).rateGone) :
    sampleLine l s = probeTake (joinProbe l (exitLive l ((s.expired l).rateLost l))) :=
  (sampleLine_expired l s).trans (if_pos h)

/-! ### The rate kept -/

/-- A seeding expiry sets F and L (R61). -/
theorem expired_seeds (h : (s.line l).monitor.seedPending = true) : s.expired l = s.setLine l
    { s.line l with
      streak := (s.line l).streakNext
      monitor := { (s.line l).monitor with
        fast := 16 * (s.line l).monitor.chars, long := 16 * (s.line l).monitor.chars, seedPending := false
        chars := 0, errors := 0, sampleLeft := some 100 } } := by
  obtain ⟨hb, he⟩ := still_of_seedPending h
  rw [expired_still hb he]
  simp only [Line.restarted, Line.sampled, State.longNext, h, if_true]

/-- The line after an expiry, whatever its burst left in marks, summary and floor. -/
theorem expired_line_eq (s : State) (l : LineNo) : ∃ ms loss left m f, (s.expired l).line l =
    ((s.line l).reported ms loss { (s.line l).sampled with burstLeft := left } m f).restarted (s.line l).streakNext
      (s.longNext l) := by
  obtain ⟨-, ms, loss, left, m, f, h⟩ := judged_line s l
  exact ⟨ms, loss, left, m, f, by rw [expired_line, h]⟩

/-- What an expiry that moves F gives streak and monitor (R39, R61, R64, R66, R69). -/
theorem expired_moves (hp : (s.line l).monitor.seedPending = false) : ∃ left,
    ((s.expired l).line l).streak = (s.line l).streakNext ∧ ((s.expired l).line l).ring = (s.line l).ring
    ∧ ((s.expired l).line l).monitor =
      { (s.line l).monitor with
        fast := (s.line l).fastNext, state := (s.line l).stateNext.1, count := (s.line l).stateNext.2
        long := s.longNext l, burstLeft := left, chars := 0, errors := 0, sampleLeft := some 100 } := by
  obtain ⟨ms, loss, left, m, f, hline⟩ := expired_line_eq s l
  rw [hline, sampled_moves hp]
  exact ⟨left, rfl, rfl, rfl⟩

/-- Where the state stays on its side of a burst, nothing but streak and monitor changes. -/
theorem expired_steady (hp : (s.line l).monitor.seedPending = false)
    (h : (s.line l).stateNext.1.bursting = true ↔ (s.line l).monitor.state.bursting = true) :
    s.expired l = s.setLine l
        { s.line l with streak := (s.line l).streakNext, monitor := ((s.expired l).line l).monitor }
      ∧ ((s.expired l).line l).monitor.burstLeft = (s.line l).monitor.burstLeft := by
  have hb : ¬ (s.line l).begins = true := fun hb => by
    obtain ⟨-, ha, hm⟩ := begins_iff.mp hb
    rw [h.mp ha] at hm
    cases hm
  have he : ¬ (s.line l).ends = true := fun he => by
    obtain ⟨-, ha, hm⟩ := ends_iff.mp he
    rw [h.mpr hm] at ha
    cases ha
  rw [expired_still hb he, setLine_line_same, sampled_moves hp]
  exact ⟨rfl, rfl⟩

/-- Marks, summary and slots are those that the reports of a burst left. -/
theorem expired_reports (s : State) (l : LineNo) : ((s.expired l).line l).marks = ((s.judged l).line l).marks
    ∧ ((s.expired l).line l).summary = ((s.judged l).line l).summary
    ∧ (s.expired l).slots = (s.judged l).slots := by
  rw [expired_line]
  exact ⟨rfl, rfl, rfl⟩

/-- What a burst that begins leaves after the expiry (R67). -/
theorem expired_begun (h : (s.line l).begins = true) :
    s.markNow l .burstBegin ∈ ((s.expired l).line l).marks ∧ ((s.expired l).line l).summary.has .burstBegin = true
      ∧ ((s.expired l).line l).floor.busy = true
      ∧ ((s.expired l).line l).monitor.burstLeft =
        (if (s.line l).params.tb = 0 then none else some ((s.line l).params.tb * 1000)) := by
  obtain ⟨ms, loss, m, f, hline, hmark, hm, hf⟩ := judged_begun h
  rw [expired_line, hline]
  exact ⟨hmark, hm, hf, rfl⟩

/-- What a burst that ends by decay leaves after the expiry (R68). -/
theorem expired_over (h : (s.line l).ends = true) :
    ((s.expired l).line l).marks.getLast? = some (s.markNow l .burstEnd)
      ∧ ((s.expired l).line l).summary.has .burstEnd = true ∧ ((s.expired l).line l).floor.busy = false
      ∧ ((s.expired l).line l).monitor.burstLeft = none ∧ (s.expired l).slots = s.slots := by
  obtain ⟨hslots, loss, x, f, hline, hf⟩ := judged_over h
  obtain ⟨before, hlast⟩ := markJoins_last (s.line l).marks (s.markNow l .burstEnd)
  rw [expired_line, hline]
  refine ⟨?_, (plus_has ..).mpr (.inr rfl), hf, rfl, hslots⟩
  exact (congrArg List.getLast? hlast).trans List.getLast?_concat

/-! ### The rate lost -/

/-- The state whose slots and summary the exit from LIVE finds, but for what the loss itself reports: that after a trigger of
the burst snapshot option, or the one before the expiry (R67, R97). -/
def State.snapped (s : State) (l : LineNo) : State :=
  if (s.line l).begins = true ∧ (s.line l).record.burstSnapshot ≠ none then s.judged l else s

theorem snapped_agrees (s : State) (l : LineNo) : (s.snapped l).slots = (s.judged l).slots
    ∧ ((s.snapped l).line l).summary.has .snapshotDone = ((s.judged l).line l).summary.has .snapshotDone := by
  unfold State.snapped
  split
  · exact ⟨rfl, rfl⟩
  · next hn =>
    by_cases hb : (s.line l).begins = true
    · have ho : (s.line l).record.burstSnapshot = none := not_not.mp fun ho => hn ⟨hb, ho⟩
      obtain ⟨hslots, -, hdone⟩ := judged_plain hb ho
      exact ⟨hslots.symm, (Bool.eq_iff_iff.mpr hdone).symm⟩
    · by_cases he : (s.line l).ends = true
      · obtain ⟨hslots, loss, x, f, hline, -⟩ := judged_over he
        refine ⟨hslots.symm, (Bool.eq_iff_iff.mpr ?_).symm⟩
        rw [hline]
        exact (plus_has ..).trans (or_iff_left nofun)
      · rw [judged_still hb he, sampled_line]
        exact ⟨rfl, rfl⟩

theorem lost_alerts (s : State) (l : LineNo) : State.Alerts l s ((s.expired l).rateLost l) :=
  (expired_alerts s l).trans (rateLost_alerts (s.expired l) l)

theorem lost_ready (h : s.engineReady) (l : LineNo) : ((s.expired l).rateLost l).engineReady := by
  obtain ⟨hengine, hqueue, -⟩ := alerts_engine (lost_alerts s l)
  rw [State.engineReady, hengine, hqueue]
  exact h

/-- The line that loses its rate, as its exit from LIVE finds it. -/
theorem lost_line (s : State) (l : LineNo) : ∃ loss x, ((s.expired l).rateLost l).line l =
    { (s.expired l).line l with
      marks := markJoins ((s.judged l).line l).marks (s.markNow l .rateLost), markLoss := loss
      summary := ((s.judged l).line l).summary.plus .rateLost x } := by
  obtain ⟨loss, x, h⟩ := rateLost_line (s.expired l) l
  obtain ⟨-, htime, -⟩ := (expired_alerts s l).same
  obtain ⟨ms, loss', left, m, f, hline⟩ := expired_line_eq s l
  have hmark : (s.expired l).markNow l .rateLost = s.markNow l .rateLost := by
    rw [State.markNow, hline, htime]
    rfl
  rw [hmark] at h
  refine ⟨loss, x, h.trans ?_⟩
  rw [expired_line]
  rfl

theorem lost_truncates (h : ((s.expired l).rateLost l).truncates l t) : (s.snapped l).truncates l t := by
  obtain ⟨hslots, hdone⟩ := snapped_agrees s l
  obtain ⟨loss, x, hline⟩ := lost_line s l
  refine truncates_congr (hslots.trans (rateLost_slots (s.expired l) l).symm) ?_ rfl rfl h
  rw [hdone, hline]
  refine (Bool.eq_iff_iff.mpr ?_).symm
  exact (plus_has ..).trans (or_iff_left nofun)

/-- The marks of a line once two more have joined, the second on a condition. -/
theorem markJoins_then {p : Prop} [Decidable p] (ms : List Mark) (x y : Mark) :
    (∃ before, (if p then markJoins (markJoins ms x) y else markJoins ms x) = before ++ x :: if p then [y] else [])
      ∧ (ms.length ≤ 32 → (if p then markJoins (markJoins ms x) y else markJoins ms x) =
          marksAfter ms (x :: if p then [y] else [])) := by
  split
  · obtain ⟨before, hx⟩ := markJoins_last ms x
    obtain ⟨first, hy⟩ := markJoins_keeps before x y
    refine ⟨⟨first, by rw [hx, hy]⟩, fun hlen => ?_⟩
    rw [markJoins_after hlen, markJoins_after (marksAfter_length ..), marksAfter_append]
    rfl
  · exact ⟨markJoins_last ms x, fun hlen => markJoins_after hlen x⟩

theorem sampled_seedPending (u : Line) : u.sampled.seedPending = false := by
  unfold Line.sampled
  split
  · rfl
  · next h => exact Bool.eq_false_of_not_eq_true h

end Sys2Proof.Machine
end

section
/-! SUPPORT. The line that a sample expiry sends to the probe queue (R39), and the settlement of the sample expiry. -/

namespace Sys2Proof.Machine

variable {s t : State} {l : LineNo}

/-- The mark of a burst that begins or ends at the expiry (R67, R68). -/
def State.burstMarks (s : State) (l : LineNo) : List Mark :=
  if (s.line l).begins = true then [s.markNow l .burstBegin]
  else if (s.line l).ends = true then [s.markNow l .burstEnd]
  else []

theorem burstMarks_begins (h : (s.line l).begins = true) : s.burstMarks l = [s.markNow l .burstBegin] := if_pos h

theorem burstMarks_ends (h : (s.line l).ends = true) : s.burstMarks l = [s.markNow l .burstEnd] := by
  rw [State.burstMarks, if_neg (not_begins_of_ends h), if_pos h]

theorem burstMarks_still (hb : ¬ (s.line l).begins = true) (he : ¬ (s.line l).ends = true) : s.burstMarks l = [] := by
  rw [State.burstMarks, if_neg hb, if_neg he]

/-- The marks that the trigger of a burst snapshot leaves, and what the reports of the burst make of the line's marks
(R53, R67, R68, R99). -/
theorem snapped_marks (s : State) (l : LineNo) : ∃ snap : List Mark,
    (¬ (s.line l).begins = true ∨ (s.line l).record.burstSnapshot = none → s.snapped l = s ∧ snap = [])
    ∧ (∀ o, (s.line l).begins = true → (s.line l).record.burstSnapshot = some o → ∃ how : Settled,
        Trigger.settles { line := l, cause := .burst, pre := o.pre, post := o.post, others := 0 } s (s.line l)
          s.slot (s.snapped l).slot how
        ∧ snap = how.marks (s.line l).ring.newest s.unitTime
        ∧ (how = .missed → (s.judged l).unitSummary.has .snapshotMissed = true)
        ∧ (((s.snapped l).line l).summary.has .snapshotDone = true ↔
            (s.line l).summary.has .snapshotDone = true ∨ ∃ k, how = .taken k ∧ min o.post (8192 - o.pre) = 0))
    ∧ ((s.line l).marks.length ≤ 32 →
        ((s.judged l).line l).marks = marksAfter (s.line l).marks (s.burstMarks l ++ snap)) := by
  by_cases hb : (s.line l).begins = true
  · rw [burstMarks_begins hb]
    cases ho : (s.line l).record.burstSnapshot with
    | none =>
      obtain ⟨-, hmarks, -⟩ := judged_plain hb ho
      exact ⟨[], fun _ => ⟨if_neg fun hn => hn.2 ho, rfl⟩, nofun, hmarks⟩
    | some o =>
      obtain ⟨how, hsettles, hmarks, hmissed, hdone⟩ := judged_triggers hb ho
      have hsnap : s.snapped l = s.judged l := if_pos ⟨hb, by rw [ho]; exact nofun⟩
      rw [hsnap]
      refine ⟨_, fun hn => absurd hb (hn.resolve_right nofun), fun o' _ ho' => ?_, hmarks⟩
      obtain rfl := Option.some.inj ho'
      exact ⟨how, hsettles, rfl, hmissed, hdone⟩
  · refine ⟨[], fun _ => ⟨if_neg fun hn => hb hn.1, rfl⟩, fun o hn => absurd hn hb, fun hlen => ?_⟩
    by_cases he : (s.line l).ends = true
    · obtain ⟨-, loss, x, f, hline, -⟩ := judged_over he
      rw [burstMarks_ends he, hline]
      exact markJoins_after hlen _
    · rw [burstMarks_still hb he, judged_still hb he, sampled_line]
      exact (marksAfter_nil hlen).symm

section Lost

variable (h : ((s.expired l).rateLost l).Requeues l t)

include h

/-- What a line that lost its rate keeps from before the expiry, and what its exit from LIVE gives it (R4, R25, R39). -/
theorem lost_fields : (t.line l).streak = (s.line l).streakNext ∧ (t.line l).record = (s.line l).record
    ∧ (t.line l).ring = (s.line l).ring ∧ (t.line l).injection = [] ∧ (t.line l).hold = none
    ∧ (t.line l).current = none ∧ (t.line l).attempts = 0
    ∧ (t.line l).monitor = { (s.line l).sampled with long := s.longNext l }.left := by
  obtain ⟨⟨tx, loss, f, m, ht, -⟩, -⟩ := h
  obtain ⟨loss', x, hlost⟩ := lost_line s l
  obtain ⟨ms, loss'', left, m', f', hline⟩ := expired_line_eq s l
  rw [hlost, hline] at ht
  rw [ht]
  exact ⟨rfl, rfl, rfl, rfl, rfl, rfl, rfl, rfl⟩

/-- The line waits at the tail of the probe queue, or is measured at once by an engine that was idle (R25, R27). -/
theorem lost_queued : (s.engine ≠ none → (t.line l).state = .queued ∧ t.probeQueue = s.probeQueue ++ [l])
    ∧ (s.engine = none → (t.line l).state = .measuring ∧ t.engine.map (·.line) = some l) := by
  obtain ⟨hengine, hqueue, -⟩ := alerts_engine (lost_alerts s l)
  obtain ⟨⟨tx, loss, f, m, ht, -⟩, -, -, -, -, hwaits, htaken⟩ := h
  rw [hengine] at ht hwaits htaken
  rw [hqueue] at hwaits
  rw [ht]
  exact ⟨fun he => ⟨if_neg he, (hwaits he).1⟩, fun he => ⟨if_pos he, (htaken he).2⟩⟩

/-- RATE_LOST joins the marks that the burst's report left, then MEASURE_BEGIN where the engine takes the line at once. -/
theorem lost_marks :
    (∃ before, (t.line l).marks = before
      ++ s.markNow l .rateLost :: if s.engine = none then [s.markNow l .measureBegin] else [])
    ∧ (((s.judged l).line l).marks.length ≤ 32 → (t.line l).marks = marksAfter ((s.judged l).line l).marks
      (s.markNow l .rateLost :: if s.engine = none then [s.markNow l .measureBegin] else [])) := by
  have halerts := lost_alerts s l
  obtain ⟨hengine, -⟩ := alerts_engine halerts
  obtain ⟨-, htime, -⟩ := halerts.same
  obtain ⟨⟨tx, loss, f, m, ht, -⟩, -⟩ := h
  obtain ⟨loss', x, hlost⟩ := lost_line s l
  obtain ⟨ms, loss'', left, m', f', hline⟩ := expired_line_eq s l
  have hmark : ((s.expired l).rateLost l).beginMark l = s.markNow l .measureBegin := by
    rw [State.beginMark, hlost, hline, htime]
    rfl
  rw [hmark, hengine, hlost] at ht
  rw [ht]
  exact markJoins_then _ _ _

/-- What the expiry put into the summary stays there, and RATE_LOST joins it. -/
theorem lost_events (e : LineEvent) (he : ((s.judged l).line l).summary.has e = true ∨ e = .rateLost) :
    (t.line l).summary.has e = true := by
  obtain ⟨⟨tx, loss, f, m, ht, -, hm⟩, -⟩ := h
  obtain ⟨loss', x, hlost⟩ := lost_line s l
  rw [hlost] at hm
  rw [ht]
  exact hm e ((plus_has ..).mpr he)

theorem lost_burstEvents : ((s.line l).begins = true → (t.line l).summary.has .burstBegin = true)
    ∧ ((s.line l).ends = true → (t.line l).summary.has .burstEnd = true) := by
  refine ⟨fun hb => lost_events h _ (.inl ?_), fun he => lost_events h _ (.inl ?_)⟩
  · obtain ⟨_, _, _, _, hline, -, hev, -⟩ := judged_begun hb
    rw [hline]
    exact hev
  · obtain ⟨-, _, _, _, hline, -⟩ := judged_over he
    rw [hline]
    exact (plus_has ..).mpr (.inr rfl)

/-- A unit event that the trigger raised stays in the unit's summary. -/
theorem lost_unitEvents (e : UnitEvent) (he : (s.judged l).unitSummary.has e = true) : t.unitSummary.has e = true := by
  have hexpired : (s.expired l).unitSummary.has e = true := he
  exact h.events e ((rateLost_alerts (s.expired l) l).events e hexpired)

/-- F and L of the expiry stay, the rest of the monitor is that of a line out of LIVE (R72). -/
theorem lost_monitor : (t.line l).monitor =
    { state := .quiet, fast := (s.line l).sampled.fast, long := s.longNext l, count := 0, seedPending := false
      burstLeft := none, sampleLeft := none, chars := 0, errors := 0 } := by
  obtain ⟨-, -, -, -, -, -, -, hmon⟩ := lost_fields h
  rw [hmon, Monitor.left, sampled_seedPending]

/-- A burst that was on, or has just begun, reports quiet again (R68, R72, R74). -/
theorem lost_quiet (hp : (s.line l).monitor.seedPending = false)
    (hb : (s.line l).stateNext.1.bursting = true ∨ (s.line l).monitor.state.bursting = true) :
    (t.line l).floor.busy = false := by
  obtain ⟨⟨tx, loss, f, m, ht, ⟨-, -, hon, hoff⟩, -⟩, -⟩ := h
  obtain ⟨loss', x, hlost⟩ := lost_line s l
  obtain ⟨ms, loss'', left, m', f', hline⟩ := expired_line_eq s l
  have hstate : (((s.expired l).rateLost l).line l).monitor.state = (s.line l).stateNext.1 := by
    rw [hlost, hline, sampled_moves hp]
    rfl
  rw [hstate] at hon hoff
  rw [ht]
  cases ha : (s.line l).stateNext.1.bursting with
  | true => exact hon ha
  | false =>
    have hends := ends_iff.mpr ⟨hp, ha, hb.resolve_left (by rw [ha]; exact Bool.false_ne_true)⟩
    obtain ⟨-, -, hbusy, -⟩ := expired_over hends
    have hf : f = _ := hoff ha
    rw [hf, hlost]
    exact hbusy

theorem lost_sessions : (s.upFree = false → t.sessions = s.sessions)
    ∧ (s.unit.collector = 0 →
      t.sessions = (grantData (s.setLine l { s.line l with settled := true })).sessions) := by
  have halerts := lost_alerts s l
  obtain ⟨-, -, -, hsess, -⟩ := halerts.same
  obtain ⟨loss, x, hlost⟩ := lost_line s l
  obtain ⟨ms, loss', left, m, f, hline⟩ := expired_line_eq s l
  refine ⟨fun hb => ?_, fun hc => h.sessions.trans (alerts_grantData halerts hc (by rw [hlost, hline]; rfl))⟩
  have hbusy : (((s.expired l).rateLost l).setLine l
      { ((s.expired l).rateLost l).line l with settled := true }).upFree = false := halerts.upFree hb
  rw [h.sessions, grantData_busy hbusy]
  exact hsess

end Lost

/-- Settles O55: the interval not over, then an expiry that seeds, one that moves F and keeps the rate, and one that loses
it. -/
theorem sampleExpirySteps : Obligations.SampleExpirySteps := by
  unfold Obligations.SampleExpirySteps
  refine ⟨fun s l h => exec_sampleExpiry_waits h, fun s l hlive hleft => ?_⟩
  intro v m p x streak fast enter leave above below after bursting grouped lost
  have hexec := exec_sampleExpiry hlive hleft
  have hstreak : v.streakNext = streak := by
    simp only [Line.streakNext, Line.judgedStreak, streakRises, decide_eq_true_eq]
    rfl
  have hafter : (s.line l).stateNext = after := next_eq p m.state m.count fast m.long
  have hburst (a : MonitorState) : bursting a ↔ a.bursting = true := bursting_iff.symm
  have hgrouped : grouped ↔ s.groupHeld l = true := groupHeld_iff.symm
  have hlost : lost ↔ v.rateGone := by rw [Line.rateGone, hstreak]
  refine ⟨fun hp hn => ?_, fun hp hn => ?_, fun hl hready => ?_⟩
  · rw [hexec, sampleLine_kept (hn ∘ hlost.mpr), expired_seeds hp, ← hstreak]
  · simp only [hburst, hgrouped, ← hafter, ← hstreak]
    have halerts := expired_alerts s l
    obtain ⟨-, -, -, hsess, -⟩ := halerts.same
    obtain ⟨left, hst, hring, hmon⟩ := expired_moves hp
    obtain ⟨hms, hsum, hslots⟩ := expired_reports s l
    refine ⟨_, by rw [hexec, sampleLine_kept (hn ∘ hlost.mpr)], hst, congrArg Monitor.fast hmon,
      congrArg Monitor.state hmon, congrArg Monitor.count hmon,
      fun hh => (congrArg Monitor.long hmon).trans (longNext_held hp hh),
      fun hh => (congrArg Monitor.long hmon).trans (longNext_moves hp hh),
      congrArg Monitor.chars hmon, congrArg Monitor.errors hmon, congrArg Monitor.sampleLeft hmon,
      fun ha hm => ?_, fun ha hm => expired_over (ends_iff.mpr ⟨hp, Bool.eq_false_of_not_eq_true ha, hm⟩),
      expired_steady hp, halerts.line_ne, hsess⟩
    have hb := begins_iff.mpr ⟨hp, ha, Bool.eq_false_of_not_eq_true hm⟩
    obtain ⟨hmark, hev, hbusy, htime⟩ := expired_begun hb
    refine ⟨hmark, hev, hbusy, htime, hring, fun ho => ?_, fun o ho => ?_⟩
    · obtain ⟨hsame, hmarks, -⟩ := judged_plain hb ho
      exact ⟨hslots.trans hsame, fun hlen => hms.trans (hmarks hlen)⟩
    · obtain ⟨how, hsettles, hmarks, hmissed, hdone⟩ := judged_triggers hb ho
      refine ⟨how, hsettles, fun hlen => hms.trans (hmarks hlen), hmissed, fun k hk hz => ?_⟩
      rw [hsum]
      exact hdone.mpr (.inr ⟨k, hk, hz⟩)
  · intro begins ends
    have hbegins : begins ↔ (s.line l).begins = true := by
      rw [begins_iff, ← Bool.not_eq_true (s.line l).monitor.state.bursting, hafter, ← hburst, ← hburst]
    have hends : ends ↔ (s.line l).ends = true := by
      rw [ends_iff, ← Bool.not_eq_true (s.line l).stateNext.1.bursting, hafter, ← hburst, ← hburst]
    clear_value begins ends
    simp only [hbegins, hends, hburst, hgrouped, ← hafter, ← hstreak]
    have hr := exitLive_requeues (lost_ready hready l) l
    rw [hexec, sampleLine_lost (hlost.mp hl)]
    generalize probeTake (joinProbe l (exitLive l ((s.expired l).rateLost l))) = t at hr
    obtain ⟨hst, hrec, hring, hinj, hhold, hcur, hatt, -⟩ := lost_fields hr
    have hmon := lost_monitor hr
    obtain ⟨hlast, hmarks⟩ := lost_marks hr
    obtain ⟨hbegin, hend⟩ := lost_burstEvents hr
    obtain ⟨hwaits, htaken⟩ := lost_queued hr
    obtain ⟨hbusy, hfree⟩ := lost_sessions hr
    obtain ⟨snap, hplain, hsnap, hjudged⟩ := snapped_marks s l
    have hmarked (hlen : (s.line l).marks.length ≤ 32) :=
      (hmarks (by rw [hjudged hlen]; exact marksAfter_length ..)).trans (by rw [hjudged hlen, marksAfter_append])
    refine ⟨t, s.snapped l, snap, rfl, hplain, fun o hb ho => ?_, lost_truncates hr.truncates,
      ⟨fun hb => ⟨fun hlen => ?_, hbegin hb⟩, fun he => ⟨fun hlen => ?_, hend he⟩, fun hb he hlen => ?_⟩,
      by rw [hmon], fun hp => ?_, fun hp => ?_, hst, hrec, hring, lost_events hr _ (.inr rfl), hinj, hhold, hcur, hatt,
      congrArg Monitor.state hmon, hwaits, htaken, hlast, fun j hj => ?_, hbusy, hfree⟩
    · obtain ⟨how, hsettles, hhow, hmissed, hdone⟩ := hsnap o hb ho
      exact ⟨how, hsettles, hhow, fun hm => lost_unitEvents hr _ (hmissed hm), hdone⟩
    · rw [hmarked hlen, burstMarks_begins hb]
      rfl
    · rw [hmarked hlen, burstMarks_ends he]
      rfl
    · rw [hmarked hlen, burstMarks_still hb he]
      rfl
    · rw [hmon]
      exact sampled_seeds hp
    · rw [hmon, sampled_moves hp]
      exact ⟨rfl, longNext_held hp, longNext_moves hp, lost_quiet hr hp⟩
    · exact (hr.line_ne j hj).trans ((lost_alerts s l).line_ne j hj)

end Sys2Proof.Machine
end

section
/-! SUPPORT. What goes on from one state to the next: rings and mark lists within their laws, offsets that never fall,
and event summaries that keep what they hold (R44, R49, R53, R148, R149). -/

namespace Sys2Proof.Machine

variable {sums : Prop} {u v w : Line} {s t : State}

/-! ### Summaries that are kept -/

/-- A summary that is not empty keeps its members and what became of its ALERT (R148, R149). -/
def LineSummary.Kept (m n : LineSummary) : Prop := m.kinds ≠ 0 → n.kinds ≠ 0 ∧ n.outcome = m.outcome ∧ m.Grows n

/-- The unit summary alike. -/
def UnitSummary.Kept (m n : UnitSummary) : Prop :=
  m.kinds ≠ 0 → n.kinds ≠ 0 ∧ n.outcome = m.outcome ∧ ∀ e, m.has e = true → n.has e = true

theorem LineSummary.Kept.refl (m : LineSummary) : m.Kept m := fun hm => ⟨hm, rfl, grows_refl m⟩

theorem LineSummary.Kept.trans {m n p : LineSummary} (h : m.Kept n) (k : n.Kept p) : m.Kept p := fun hm => by
  obtain ⟨hn, ho, hk, hw⟩ := h hm
  obtain ⟨hp, ho', hk', hw'⟩ := k hn
  exact ⟨hp, ho'.trans ho, fun e he => hk' e (hk e he), fun i hi => hw' i (hw i hi)⟩

theorem UnitSummary.Kept.refl (m : UnitSummary) : m.Kept m := fun hm => ⟨hm, rfl, fun _ h => h⟩

theorem UnitSummary.Kept.trans {m n p : UnitSummary} (h : m.Kept n) (k : n.Kept p) : m.Kept p := fun hm => by
  obtain ⟨hn, ho, hk⟩ := h hm
  obtain ⟨hp, ho', hk'⟩ := k hn
  exact ⟨hp, ho'.trans ho, fun e he => hk' e (hk e he)⟩

/-! ### One line -/

/-- A line's share of the law of the Capture Store: ring and marks in order, the ring size within 1–64 KiB (R44, R53). -/
def Line.storeLaw (u : Line) : Prop :=
  u.ringLaw ∧ u.markLaw ∧ 1 ≤ u.record.ringKiB ∧ u.record.ringKiB ≤ 64

/-- Two records of a line agree in all that the Capture Store keeps, and in the summary. -/
structure Line.SameHistory (u v : Line) : Prop where
  size : v.record.ringKiB = u.record.ringKiB
  ring : v.ring = u.ring
  marks : v.marks = u.marks
  summary : v.summary = u.summary

/-- The history of a line goes on: the ring size stays, the law of its ring and marks is kept, its offsets do not fall, and
where `sums` asks for it the summary is kept. -/
structure Line.GoesOn (sums : Prop) (u v : Line) : Prop where
  size : v.record.ringKiB = u.record.ringKiB
  law : u.storeLaw → v.storeLaw
  oldest : u.ring.oldest ≤ v.ring.oldest
  newest : u.ring.newest ≤ v.ring.newest
  summary : sums → u.summary.Kept v.summary

theorem Line.SameHistory.goesOn (h : u.SameHistory v) : u.GoesOn sums v where
  size := h.size
  law := fun hu => by
    simpa only [Line.storeLaw, Line.ringLaw, Line.markLaw, LineRecord.ringBytes, h.size, h.ring, h.marks] using hu
  oldest := by rw [h.ring]
  newest := by rw [h.ring]
  summary := fun _ => h.summary ▸ .refl _

theorem Line.GoesOn.refl (u : Line) : u.GoesOn sums u := Line.SameHistory.goesOn ⟨rfl, rfl, rfl, rfl⟩

theorem Line.GoesOn.trans (h : u.GoesOn sums v) (k : v.GoesOn sums w) : u.GoesOn sums w where
  size := k.size.trans h.size
  law := fun hu => k.law (h.law hu)
  oldest := h.oldest.trans k.oldest
  newest := h.newest.trans k.newest
  summary := fun hs => (h.summary hs).trans (k.summary hs)

/-- The summary alone changes, and is kept. -/
theorem Line.GoesOn.summed (u : Line) {m : LineSummary} (h : sums → u.summary.Kept m) :
    u.GoesOn sums { u with summary := m } := ⟨rfl, fun hu => hu, le_rfl, le_rfl, h⟩

/-- A mark at `newest` joins a list in order, of which the oldest may have left (R53). -/
theorem markLaw_append {ms : List Mark} {m : Mark} {loss : Word32} (hu : u.ringLaw ∧ u.markLaw) (hms : ms.Sublist u.marks)
    (hlen : ms.length < Config.markCapacity) (hm : m.offset = u.ring.newest) :
    Line.markLaw { u with marks := ms ++ [m], markLoss := loss } := by
  obtain ⟨⟨hle, -⟩, -, hwithin, hsorted⟩ := hu
  refine ⟨by rw [List.length_append]; exact hlen, fun x hx => ?_, ?_⟩
  · rcases List.mem_append.mp hx with hx | hx
    · exact hwithin x (hms.subset hx)
    · rw [List.mem_singleton.mp hx, hm]
      exact ⟨hle, le_rfl⟩
  · refine List.pairwise_append.mpr ⟨hsorted.sublist hms, List.pairwise_singleton _ _, fun x hx y hy => ?_⟩
    rw [List.mem_singleton.mp hy, hm]
    exact (hwithin x (hms.subset hx)).2

/-! ### The whole part -/

/-- History and summaries of the part go on: the law of the Capture Store is kept and under it no offset falls, and where
`sums` asks for it every summary is kept. -/
structure State.GoesOn (sums : Prop) (s t : State) : Prop where
  law : s.storeLaw → t.storeLaw
  offsets : s.storeLaw → ∀ l,
    (s.line l).ring.oldest ≤ (t.line l).ring.oldest ∧ (s.line l).ring.newest ≤ (t.line l).ring.newest
  summaries : sums → ∀ l, (s.line l).summary.Kept (t.line l).summary
  unitSummary : sums → s.unitSummary.Kept t.unitSummary

namespace State.GoesOn

variable {x : State} {l : LineNo}

theorem trans (h : s.GoesOn sums t) (k : t.GoesOn sums x) : s.GoesOn sums x where
  law := fun hs => k.law (h.law hs)
  offsets := fun hs l => by
    obtain ⟨ho, hn⟩ := h.offsets hs l
    obtain ⟨ho', hn'⟩ := k.offsets (h.law hs) l
    exact ⟨ho.trans ho', hn.trans hn'⟩
  summaries := fun hc l => (h.summaries hc l).trans (k.summaries hc l)
  unitSummary := fun hc => (h.unitSummary hc).trans (k.unitSummary hc)

/-- The lines go on one by one, with no ring size changed, and the unit summary is kept. -/
theorem ofLines (h : ∀ l, (s.line l).GoesOn sums (t.line l)) (hu : sums → s.unitSummary.Kept t.unitSummary) :
    s.GoesOn sums t where
  law := fun ⟨hl, hsum⟩ => by
    refine ⟨fun l => (h l).law (hl l), ?_⟩
    simpa only [LineRecord.ringBytes, (h _).size] using hsum
  offsets := fun _ l => ⟨(h l).oldest, (h l).newest⟩
  summaries := fun hc l => (h l).summary hc
  unitSummary := hu

/-- Nothing changes in the lines or the unit summary. -/
theorem beside (hl : t.lines = s.lines) (hu : t.unitSummary = s.unitSummary) : s.GoesOn sums t :=
  ofLines (fun l => by rw [State.line, State.line, hl]; exact .refl _) fun _ => hu ▸ .refl _

theorem refl (s : State) : s.GoesOn sums s := beside rfl rfl

/-- What goes on after a change beside the lines and the unit summary. -/
theorem after (k : t.GoesOn sums x) (hl : t.lines = s.lines) (hu : t.unitSummary = s.unitSummary) : s.GoesOn sums x :=
  (beside hl hu).trans k

theorem setLine {v : Line} (h : (s.line l).GoesOn sums v) : s.GoesOn sums (s.setLine l v) := by
  refine ofLines (fun j => ?_) fun _ => .refl _
  rw [setLine_line]
  split
  · next hj => exact hj ▸ h
  · exact .refl _

/-- One line changes beside its history. -/
theorem line {v : Line} (h : (s.line l).SameHistory v) : s.GoesOn sums (s.setLine l v) := setLine h.goesOn

/-- Every line changes beside its history. -/
theorem mapLines {f : LineNo → Line → Line} (h : ∀ l, (s.line l).SameHistory (f l (s.line l))) :
    s.GoesOn sums (s.mapLines f) :=
  ofLines (fun l => by rw [mapLines_line]; exact (h l).goesOn) fun _ => by rw [mapLines_unitSummary]; exact .refl _

/-- Something done for lines or slots in turn. -/
theorem foldl {α : Type} {f : State → α → State} (h : ∀ a (t : State), t.GoesOn sums (f t a)) (as : List α) (s : State) :
    s.GoesOn sums (as.foldl f s) := by
  induction as generalizing s with
  | nil => exact refl s
  | cons a as ih => exact (h a s).trans (ih _)

theorem forLines {f : LineNo → State → State} (h : ∀ l (t : State), t.GoesOn sums (f l t)) :
    s.GoesOn sums (s.forLines f) := foldl h _ s

theorem forSlots {f : SlotNo → State → State} (h : ∀ k (t : State), t.GoesOn sums (f k t)) :
    s.GoesOn sums (s.forSlots f) := foldl h _ s

/-- What was told keeps the unit summary. -/
theorem told {d : Told} (h : s.unitSummary.Kept d.summary) : s.GoesOn sums (s.told d) :=
  ofLines (fun _ => .refl _) fun _ => h

end State.GoesOn

end Sys2Proof.Machine
end

section
/-! SUPPORT. The operations of the Alert Unit, the Capture Store, the Snapshot Store, the Floor Arbiter, the Activity
Monitor and the Watch Unit: under each of them history and summaries go on. -/

namespace Sys2Proof.Machine

variable {sums : Prop}

/-! ### Alerts and frames -/

theorem goesOn_raiseUnit (e : UnitEvent) (s : State) : s.GoesOn sums (raiseUnit e s) := by
  obtain ⟨d, h, -, hz, keep, same, -⟩ := raiseUnit_effect e s
  rw [h]
  exact .told fun hs => ⟨hz, (same hs).1, keep⟩

theorem goesOn_pushResponse (f : OutFrame) (s : State) : s.GoesOn sums (s.pushResponse f) := .beside (by simp) (by simp)

theorem goesOn_placeNotice (f : OutFrame) (s : State) : s.GoesOn sums (placeNotice f s) := by
  obtain ⟨d, h, keep, same, -⟩ := placeNotice_effect f s
  rw [h]
  exact .told fun hs => ⟨(same hs).1, (same hs).2, keep⟩

theorem goesOn_noticeLost (l : LineNo) (i : SessionNo) (r : Option LostReason) (s : State) :
    s.GoesOn sums (noticeLost l i r s) := by
  cases r with
  | none => exact .refl s
  | some r => exact goesOn_placeNotice _ s

/-- An event joins the summary of its line, which keeps what it had and the outcome of its ALERT (R148, R149). -/
theorem goesOn_raiseLine (l : LineNo) (e : LineEvent) (ws : BitVec 64) (rs : BitVec 3) (a : Nat) (s : State) :
    s.GoesOn sums (raiseLine l e ws rs a s) := by
  obtain ⟨o, d, h, same, keep, unit, -⟩ := raiseLine_effect l e ws rs a s
  rw [h]
  refine (State.GoesOn.setLine (.summed _ fun _ hs => ⟨lineKinds_added_ne_zero _ e, (same hs).1, fun e' he => ?_,
    fun i hi => ?_⟩)).trans (.told fun hs => ⟨(unit hs).1, (unit hs).2, keep⟩)
  · simp only [LineSummary.has, BitVec.getLsbD_or] at he ⊢
    rw [he, Bool.true_or]
  · simp only [BitVec.getLsbD_or, hi, Bool.true_or]

theorem goesOn_raisePlain (l : LineNo) (e : LineEvent) (s : State) : s.GoesOn sums (raisePlain l e s) :=
  goesOn_raiseLine l e 0 0 0 s

theorem goesOn_grantData (s : State) : s.GoesOn sums (grantData s) := .beside (by simp) (by simp)

theorem goesOn_upGrant (s : State) : s.GoesOn sums (upGrant s) := .beside (by simp) (by simp)

theorem goesOn_mapSessions (f : SessionNo → Session → Session) (s : State) : s.GoesOn sums (s.mapSessions f) :=
  .beside (by simp) (by simp)

theorem goesOn_placeTest (f : OutFrame) (s : State) : s.GoesOn sums (placeTest f s) := by
  unfold placeTest
  split
  · exact goesOn_pushResponse f s
  · exact .beside rfl rfl

/-! ### Marks and rings -/

/-- A mark joins the list of its line at `newest`; a full list loses its oldest (R53). -/
theorem goesOn_appendMark (l : LineNo) (k : MarkKind) (a : Nat) (s : State) : s.GoesOn sums (appendMark l k a s) := by
  obtain ⟨before, loss, h, hb⟩ := appendMark_effect l k a s
  rw [h]
  refine .setLine ⟨rfl, fun ⟨hring, hmarks, hsize⟩ => ⟨hring, ?_, hsize⟩, le_rfl, le_rfl, fun _ => .refl _⟩
  rcases hb with ⟨rfl, -, hlt⟩ | ⟨rfl, -, hge⟩
  · exact markLaw_append ⟨hring, hmarks⟩ (List.Sublist.refl _) hlt rfl
  · refine markLaw_append ⟨hring, hmarks⟩ (List.tail_sublist _) ?_ rfl
    obtain ⟨hlen, -⟩ := hmarks
    rw [List.length_tail]
    omega

/-- A byte in a ring in order leaves it in order (R44, R46). -/
theorem ringLaw_append {u : Line} (hu : u.ringLaw) (hsize : 1 ≤ u.record.ringKiB) (b : Byte) :
    Line.ringLaw { u with ring := u.ring.append u.record.ringBytes b } := by
  obtain ⟨hle, hlen, hheld⟩ := hu
  have hpos : 1024 ≤ u.record.ringBytes := by rw [LineRecord.ringBytes]; omega
  unfold Ring.held at hlen hheld
  rw [append_eq]
  by_cases hfull : u.record.ringBytes ≤ u.ring.newest - u.ring.oldest
  · simp only [if_pos hfull]
    refine ⟨?_, ?_, ?_⟩ <;> simp only [Ring.held, List.length_append, List.length_tail, List.length_singleton] <;> omega
  · simp only [if_neg hfull]
    refine ⟨?_, ?_, ?_⟩ <;> simp only [Ring.held, List.length_append, List.length_singleton] <;> omega

/-- The offsets of a ring that takes a byte do not fall, and `newest` moves on by one (R44, R46). -/
theorem append_offsets (r : Ring) (size : Nat) (b : Byte) :
    r.oldest ≤ (r.append size b).oldest ∧ (r.append size b).newest = r.newest + 1 := by
  rw [append_eq]
  refine ⟨?_, rfl⟩
  dsimp only
  split <;> omega

theorem goesOn_ringAppend (l : LineNo) (b : Byte) (s : State) : s.GoesOn sums (ringAppend l b s) := by
  have hline : (s.line l).GoesOn sums
      { s.line l with
        ring := (s.line l).ring.append (s.line l).record.ringBytes b
        marks := (s.line l).marks.filter fun m =>
          decide (((s.line l).ring.append (s.line l).record.ringBytes b).oldest ≤ m.offset) } := by
    obtain ⟨hold, hnew⟩ := append_offsets (s.line l).ring (s.line l).record.ringBytes b
    refine ⟨rfl, fun ⟨hring, ⟨hlen, hwithin, hsorted⟩, hsize⟩ => ⟨ringLaw_append hring hsize.1 b, ?_, hsize⟩, hold,
      by rw [hnew]; exact Nat.le_succ _, fun _ => .refl _⟩
    refine ⟨(List.length_filter_le _ _).trans hlen, fun m hm => ?_, hsorted.filter _⟩
    obtain ⟨hmem, hold'⟩ := List.mem_filter.mp hm
    refine ⟨of_decide_eq_true hold', ?_⟩
    rw [hnew]
    exact (hwithin m hmem).2.trans (Nat.le_succ _)
  rcases ringAppend_effect l b s with ⟨-, h⟩ | ⟨-, h⟩ <;> rw [h]
  · exact .setLine hline
  · exact (State.GoesOn.setLine hline).trans (goesOn_mapSessions _ _)

/-! ### Slots -/

theorem goesOn_setSlot (k : SlotNo) (q : Slot) (s : State) : s.GoesOn sums (s.setSlot k q) := .beside rfl rfl

theorem goesOn_completeSlot (k : SlotNo) (b : Bool) (s : State) : s.GoesOn sums (completeSlot k b s) :=
  (goesOn_setSlot k _ s).trans (goesOn_raisePlain _ _ _)

theorem goesOn_truncateFor (l : LineNo) (s : State) : s.GoesOn sums (truncateFor l s) := by
  unfold truncateFor
  split
  · exact .refl s
  · exact goesOn_completeSlot _ _ s

theorem goesOn_slotByte (l : LineNo) (b : Byte) (s : State) : s.GoesOn sums (slotByte l b s) := by
  unfold slotByte
  split
  · exact .refl s
  · simp only
    split
    · exact (goesOn_setSlot _ _ s).trans (goesOn_completeSlot _ _ _)
    · exact goesOn_setSlot _ _ s

theorem goesOn_takeSlot (k : SlotNo) (g : Trigger) (s : State) : s.GoesOn sums (takeSlot k g s) := by
  have hmark : s.GoesOn sums (appendMark g.line .snapshot k.val (s.setSlot k (s.triggeredSlot g))) :=
    (goesOn_setSlot k _ s).trans (goesOn_appendMark _ _ _ _)
  unfold takeSlot
  simp only
  split
  · exact hmark.trans (goesOn_completeSlot _ _ _)
  · exact hmark

theorem goesOn_fireTrigger (g : Trigger) (s : State) : s.GoesOn sums (fireTrigger g s) := by
  unfold fireTrigger
  split
  · exact goesOn_setSlot _ _ s
  · exact goesOn_takeSlot _ g s
  · exact goesOn_raiseUnit _ s

theorem goesOn_optionTrigger (l : LineNo) (c : Cause) (o : Option SnapshotLengths) (s : State) :
    s.GoesOn sums (optionTrigger l c o s) := by
  cases o with
  | none => exact .refl s
  | some p => exact goesOn_fireTrigger _ s

/-! ### Floors -/

theorem goesOn_restartIdle (l : LineNo) (s : State) : s.GoesOn sums (restartIdle l s) := by
  rw [restartIdle_effect]
  exact .line (by constructor <;> rfl)

theorem goesOn_floorQuiet (l : LineNo) (s : State) : s.GoesOn sums (floorQuiet l s) := by
  rw [floorQuiet_effect]
  exact .line (by constructor <;> rfl)

theorem goesOn_becomeHolder (l : LineNo) (i : SessionNo) (s : State) : s.GoesOn sums (becomeHolder l i s) :=
  .line (by constructor <;> rfl)

theorem goesOn_releaseHeld (l : LineNo) (h : SessionNo) (r : Option LostReason) (e : FloorState) (s : State) :
    s.GoesOn sums (releaseHeld l h r e s) := by
  unfold releaseHeld
  split
  · exact State.GoesOn.trans (.line (by constructor <;> rfl)) (goesOn_noticeLost l h r _)
  · exact ((goesOn_becomeHolder l _ s).trans (goesOn_noticeLost l h r _)).trans (goesOn_placeNotice _ _)

theorem goesOn_releaseParked (l : LineNo) (p : SessionNo) (r : Option LostReason) (s : State) :
    s.GoesOn sums (releaseParked l p r s) :=
  State.GoesOn.trans (.line (by constructor <;> rfl)) (goesOn_noticeLost l p r _)

theorem goesOn_releaseFloor (l : LineNo) (r : Option LostReason) (s : State) : s.GoesOn sums (releaseFloor l r s) := by
  unfold releaseFloor
  split
  · exact .refl s
  · exact goesOn_releaseHeld l _ r .free s
  · exact goesOn_releaseParked l _ r s

theorem goesOn_clearFloor (l : LineNo) (r : LostReason) (s : State) : s.GoesOn sums (clearFloor l r s) := by
  obtain ⟨d, h, same, keep⟩ := clearFloor_effect l r s
  rw [h]
  exact State.GoesOn.trans (.line (by constructor <;> rfl)) (.told fun hs => ⟨(same hs).1, (same hs).2, keep⟩)

theorem goesOn_leaveFloor (i : SessionNo) (r : Option LostReason) (s : State) : s.GoesOn sums (leaveFloor i r s) := by
  unfold leaveFloor
  simp only
  split
  · exact goesOn_releaseHeld _ i r .free s
  · split
    · exact goesOn_releaseParked _ i r s
    · exact .line (by constructor <;> rfl)

theorem goesOn_closeRecord (i : SessionNo) (r : Option LostReason) (s : State) : s.GoesOn sums (closeRecord i r s) :=
  (goesOn_leaveFloor i r s).trans (.beside rfl rfl)

theorem goesOn_settleRequest (l : LineNo) (i : SessionNo) (b : Bool) (s : State) :
    s.GoesOn sums (settleRequest l i b s).state := by
  have holder := goesOn_becomeHolder (sums := sums) l i s
  have takenOver := fun p => holder.trans (goesOn_noticeLost l p (some .takeover) _)
  unfold settleRequest
  split
  · exact holder
  · split
    · exact holder
    · exact takenOver _
  · split
    · exact .refl s
    · split
      · exact takenOver _
      · split
        · exact .refl s
        · exact .line (by constructor <;> rfl)

/-! ### The Activity Monitor -/

theorem goesOn_floorBusy (l : LineNo) (s : State) : s.GoesOn sums (floorBusy l s) := .line (by constructor <;> rfl)

theorem goesOn_burstBegins (l : LineNo) (s : State) : s.GoesOn sums (burstBegins l s) := by
  have raised := (goesOn_appendMark (sums := sums) l .burstBegin 0 s).trans (goesOn_raisePlain l .burstBegin _)
  have triggered (o : Option SnapshotLengths) (t : State) : t.GoesOn sums (floorBusy l (optionTrigger l .burst o t)) :=
    (goesOn_optionTrigger l _ o t).trans (goesOn_floorBusy l _)
  exact (raised.trans (.line (by constructor <;> rfl))).trans (triggered _ _)

theorem goesOn_burstEnds (l : LineNo) (a : Nat) (s : State) : s.GoesOn sums (burstEnds l a s) :=
  (goesOn_appendMark l _ _ s).trans (goesOn_raisePlain l _ _)

theorem goesOn_burstDecays (l : LineNo) (s : State) : s.GoesOn sums (burstDecays l s) :=
  ((goesOn_burstEnds l 0 s).trans (.line (by constructor <;> rfl))).trans (goesOn_floorQuiet l _)

theorem goesOn_burstTimesOut (l : LineNo) (s : State) : s.GoesOn sums (burstTimesOut l s) :=
  (State.GoesOn.trans (.line (by constructor <;> rfl)) (goesOn_burstEnds l 1 _)).trans (goesOn_floorQuiet l _)

theorem goesOn_learnLong (l : LineNo) (s : State) : s.GoesOn sums (learnLong l s) := by
  unfold learnLong
  split
  · exact .refl s
  · exact .line (by constructor <;> rfl)

theorem goesOn_monitorExpiry (l : LineNo) (s : State) : s.GoesOn sums (monitorExpiry l s) := by
  unfold monitorExpiry
  simp only
  split
  · exact .line (by constructor <;> rfl)
  · refine State.GoesOn.trans ?_ (goesOn_learnLong l _)
    split
    · exact State.GoesOn.trans (.line (by constructor <;> rfl)) (goesOn_burstBegins l _)
    · split
      · exact State.GoesOn.trans (.line (by constructor <;> rfl)) (goesOn_burstDecays l _)
      · exact .line (by constructor <;> rfl)

theorem goesOn_monitorExit (l : LineNo) (s : State) : s.GoesOn sums (monitorExit l s) := by
  unfold monitorExit
  simp only
  split
  · exact State.GoesOn.trans (.line (by constructor <;> rfl)) (goesOn_floorQuiet l _)
  · exact .line (by constructor <;> rfl)

/-! ### The Watch Unit and captures -/

theorem goesOn_watchActions (l : LineNo) (is : List EntryNo) (s : State) : s.GoesOn sums (watchActions l is s) := by
  have marks (s : State) : s.GoesOn sums (markHits l is s) := .foldl (fun i t => goesOn_appendMark l _ _ t) _ s
  have notes (s : State) : s.GoesOn sums (noteHits l is s) := by
    unfold noteHits
    split
    · exact .refl s
    · exact goesOn_raiseLine _ _ _ _ _ s
  have snapshots (s : State) : s.GoesOn sums (snapshotHits l is s) := by
    unfold snapshotHits
    split
    · exact .refl s
    · split
      · exact .refl s
      · exact goesOn_fireTrigger _ s
  have holds (s : State) : s.GoesOn sums (holdHits l is s) := by
    obtain ⟨_, h⟩ := holdHits_effect l is s
    rw [h]
    exact .line (by constructor <;> rfl)
  have drops (s : State) : s.GoesOn sums (dropHits l is s) := by
    unfold dropHits
    split
    · exact goesOn_releaseFloor l _ s
    · exact .refl s
  exact ((((marks s).trans (notes _)).trans (snapshots _)).trans (holds _)).trans (drops _)

theorem goesOn_watchByte (l : LineNo) (b : Byte) (s : State) : s.GoesOn sums (watchByte l b s) :=
  State.GoesOn.trans (.line (by constructor <;> rfl)) (goesOn_watchActions l _ _)

theorem goesOn_restartGather (l : LineNo) (s : State) : s.GoesOn sums (restartGather l s) :=
  .line (by constructor <;> rfl)

theorem goesOn_captureByte (l : LineNo) (b : Byte) (p f : Bool) (s : State) : s.GoesOn sums (captureByte l b p f s) := by
  have stored (t : State) : t.GoesOn sums (restartGather l (ringAppend l b t)) :=
    (goesOn_ringAppend l b t).trans (goesOn_restartGather l _)
  have offered (t : State) : t.GoesOn sums (watchByte l b (slotByte l b (grantData t))) :=
    ((goesOn_grantData t).trans (goesOn_slotByte l b _)).trans (goesOn_watchByte l b _)
  exact (State.GoesOn.trans (.line (by constructor <;> rfl)) (stored _)).trans (offered _)

theorem goesOn_captureCharacter (l : LineNo) (data : Byte) (p f : Bool) (s : State) :
    s.GoesOn sums (captureCharacter l data p f s) := by
  unfold captureCharacter
  split
  · split
    · exact .refl s
    · exact goesOn_captureByte l _ _ _ s
  · exact .refl s

theorem goesOn_detectBreak (l : LineNo) (s : State) : s.GoesOn sums (detectBreak l s) := by
  have raised (t : State) : t.GoesOn sums (raisePlain l .breakIn (appendMark l .breakIn 0 t)) :=
    (goesOn_appendMark l _ _ t).trans (goesOn_raisePlain l _ _)
  exact (State.GoesOn.trans (.line (by constructor <;> rfl)) (raised _)).trans (goesOn_optionTrigger l _ _ _)

end Sys2Proof.Machine
end

section
/-! SUPPORT. The operations of the Line Units, the Rate Probe, the ports and the Attendance Monitor: under each of them
history and summaries go on. -/

namespace Sys2Proof.Machine

variable {sums : Prop}

/-! ### Transmitters and holds -/

theorem goesOn_startElement (l : LineNo) (s : State) : s.GoesOn sums (startElement l s) := by
  unfold startElement
  simp only
  split
  · split
    · exact .refl s
    · exact .line (by constructor <;> rfl)
    · exact State.GoesOn.trans (.line (by constructor <;> rfl)) (goesOn_appendMark l _ _ _)
  · exact .refl s

theorem goesOn_beginGap (l : LineNo) (ms : Nat) (s : State) : s.GoesOn sums (beginGap l ms s) :=
  State.GoesOn.trans (.line (by constructor <;> rfl)) (goesOn_startElement l _)

theorem goesOn_typeInto (l : LineNo) (i : SessionNo) (bytes : List Byte) (s : State) :
    s.GoesOn sums (typeInto l i bytes s) := by
  have held : s.GoesOn sums (if (s.line l).floor.state = .parked i then becomeHolder l i s else s) := by
    split
    · exact goesOn_becomeHolder l i s
    · exact .refl s
  exact ((held.trans (goesOn_restartIdle l _)).trans (.line (by constructor <;> rfl))).trans (goesOn_startElement l _)

theorem goesOn_settleHold (l : LineNo) (s : State) : s.GoesOn sums (settleHold l s) := by
  unfold settleHold
  simp only
  split
  · exact State.GoesOn.trans (.line (by constructor <;> rfl)) (goesOn_startElement l _)
  · exact .refl s

/-! ### In and out of LIVE -/

theorem goesOn_exitLive (l : LineNo) (s : State) : s.GoesOn sums (exitLive l s) := by
  have granted : s.GoesOn sums (grantData (s.setLine l (s.line l).cutOff)) :=
    State.GoesOn.trans (.line (by constructor <;> rfl)) (goesOn_grantData _)
  exact (granted.trans (goesOn_monitorExit l _)).trans (goesOn_truncateFor l _)

theorem goesOn_enterLive (l : LineNo) (r : TakenRate) (s : State) : s.GoesOn sums (enterLive l r s) :=
  (State.GoesOn.trans (.line (by constructor <;> rfl)) (goesOn_appendMark l _ _ _)).trans (goesOn_raisePlain l _ _)

/-! ### The probe queue and the engine -/

/-- One line changes beside its history, and the Rate Probe's registers. -/
theorem State.GoesOn.probing {s : State} {l : LineNo} {v : Line} (q : List LineNo) (n : Nat) (e : Option Measurement)
    (h : (s.line l).SameHistory v) :
    s.GoesOn sums { s.setLine l v with probeQueue := q, begun := n, engine := e } :=
  (State.GoesOn.line h).trans (.beside rfl rfl)

theorem goesOn_joinProbe (l : LineNo) (s : State) : s.GoesOn sums (joinProbe l s) :=
  .probing _ _ _ (by constructor <;> rfl)

theorem goesOn_requeueProbe (l : LineNo) (s : State) : s.GoesOn sums (requeueProbe l s) :=
  .probing _ _ _ (by constructor <;> rfl)

theorem goesOn_leaveProbe (l : LineNo) (s : State) : s.GoesOn sums (leaveProbe l s) := .beside rfl rfl

theorem goesOn_endMeasurement (l : LineNo) (s : State) : s.GoesOn sums (endMeasurement l s) :=
  .probing _ _ _ (by constructor <;> rfl)

theorem goesOn_probeTake (s : State) : s.GoesOn sums (probeTake s) := by
  unfold probeTake
  split
  · exact (State.GoesOn.trans (.line (by constructor <;> rfl)) (goesOn_appendMark _ _ _ _)).trans (.beside rfl rfl)
  · exact .refl s

theorem goesOn_startByRecord (l : LineNo) (s : State) : s.GoesOn sums (startByRecord l s) := by
  unfold startByRecord
  split
  · exact goesOn_enterLive l _ s
  · exact goesOn_joinProbe l s

theorem goesOn_startLines (s : State) : s.GoesOn sums (startLines s) :=
  (State.GoesOn.forLines goesOn_startByRecord).trans (goesOn_probeTake _)

theorem goesOn_finalFailure (l : LineNo) (why : FailureReason) (s : State) : s.GoesOn sums (finalFailure l why s) := by
  have failed : s.GoesOn sums (raiseRateFail l why s) := goesOn_raiseLine l _ _ _ _ s
  unfold finalFailure
  simp only
  split
  · exact failed.trans (goesOn_enterLive l _ _)
  · exact failed.trans (goesOn_enterLive l _ _)
  · exact ((failed.trans (.line (by constructor <;> rfl))).trans (goesOn_clearFloor l _ _)).trans (goesOn_raisePlain l _ _)

theorem goesOn_failAttempt (m : Measurement) (why : FailureReason) (s : State) : s.GoesOn sums (failAttempt m why s) := by
  have counted : s.GoesOn sums ((endMeasurement m.line s).modLine m.line fun u => { u with attempts := u.attempts + 1 }) :=
    (goesOn_endMeasurement m.line s).trans (.line (by constructor <;> rfl))
  unfold failAttempt
  simp only
  refine State.GoesOn.trans ?_ (goesOn_probeTake _)
  split
  · exact counted.trans (goesOn_requeueProbe _ _)
  · exact counted.trans (goesOn_finalFailure _ _ _)

theorem goesOn_finishAttempt (m : Measurement) (w : Nat) (s : State) : s.GoesOn sums (finishAttempt m w s) := by
  unfold finishAttempt
  split
  · exact ((goesOn_endMeasurement _ s).trans (goesOn_enterLive _ _ _)).trans (goesOn_probeTake _)
  · exact goesOn_failAttempt m _ s

theorem goesOn_countEdge (m : Measurement) (n : Nat) (s : State) : s.GoesOn sums (countEdge m n s) := by
  unfold countEdge
  simp only
  split
  · exact .probing _ _ _ (by constructor <;> rfl)
  · split
    · exact State.GoesOn.trans (.probing _ _ _ (by constructor <;> rfl)) (goesOn_finishAttempt _ _ _)
    · exact .probing _ _ _ (by constructor <;> rfl)

/-! ### Pins -/

/-- An edge of RXD moves the pin and the receiver alone. -/
theorem sameHistory_atReturnToMark (u : Line) : u.SameHistory u.atReturnToMark := by
  unfold Line.atReturnToMark
  split <;> exact ⟨rfl, rfl, rfl, rfl⟩

theorem sameHistory_strayEdge (u : Line) : u.SameHistory u.strayEdge := by
  unfold Line.strayEdge
  split
  · exact ⟨rfl, rfl, rfl, rfl⟩
  · exact sameHistory_atReturnToMark u
  · exact ⟨rfl, rfl, rfl, rfl⟩

theorem sameHistory_atStartEdge (u : Line) (b : Bool) : u.SameHistory (u.atStartEdge b) := by
  unfold Line.atStartEdge
  split
  case h_1 => split <;> exact ⟨rfl, rfl, rfl, rfl⟩
  all_goals exact ⟨rfl, rfl, rfl, rfl⟩

theorem goesOn_strayEdge (l : LineNo) (s : State) : s.GoesOn sums (s.modLine l Line.strayEdge) :=
  .line (sameHistory_strayEdge _)

theorem goesOn_measuredEdge (m : Measurement) (n : Nat) (s : State) : s.GoesOn sums (measuredEdge m n s) := by
  have failed := goesOn_failAttempt (sums := sums) m .brk s
  unfold measuredEdge
  split
  · unfold lateEdge
    simp only
    split
    · exact failed.trans (goesOn_strayEdge _ _)
    · split
      · exact failed.trans (goesOn_countEdge _ _ _)
      · exact failed.trans (goesOn_strayEdge _ _)
  · exact goesOn_countEdge m n s

/-! ### Loopback tests -/

theorem goesOn_abortTest (l : LineNo) (s : State) : s.GoesOn sums (abortTest l s) := by
  unfold abortTest
  split
  · exact .refl s
  · exact goesOn_placeTest _ s

theorem goesOn_enterLoop (l : LineNo) (x : LoopTest) (s : State) : s.GoesOn sums (enterLoop l x s) :=
  .line (by constructor <;> rfl)

theorem goesOn_leaveLoop (l : LineNo) (x : LoopTest) (s : State) : s.GoesOn sums (leaveLoop l x s) := by
  unfold leaveLoop
  simp only
  split
  · exact State.GoesOn.trans (.line (by constructor <;> rfl)) (.line (by constructor <;> rfl))
  · split
    · exact (State.GoesOn.trans (.line (by constructor <;> rfl)) (goesOn_startByRecord l _)).trans (goesOn_probeTake _)
    · exact State.GoesOn.trans (.line (by constructor <;> rfl)) (goesOn_enterLive l _ _)

theorem goesOn_completeTest (l : LineNo) (x : LoopTest) (s : State) : s.GoesOn sums (completeTest l x s) :=
  (goesOn_placeTest _ s).trans (goesOn_leaveLoop l x _)

/-! ### Lines started, stopped and requeued -/

theorem goesOn_enableLine (l : LineNo) (s : State) : s.GoesOn sums (enableLine l s) := by
  unfold enableLine
  split
  case h_1 | h_2 => exact (goesOn_startByRecord l s).trans (goesOn_probeTake _)
  all_goals exact .refl s

/-- What a line keeps for the watch entries is no history. -/
theorem sameHistory_mapPairs (u : Line) (f : WatchPair → WatchPair) : u.SameHistory (u.mapPairs f) := by
  constructor <;> simp only [Line.mapPairs]

theorem goesOn_turnOff (l : LineNo) (s : State) : s.GoesOn sums (turnOff l s) := by
  have cleared : s.GoesOn sums
      (clearFloor l .lineOff (s.modLine l fun u => { u with state := .off, test := none, tx := .idle })) :=
    State.GoesOn.trans (.line (by constructor <;> rfl)) (goesOn_clearFloor l _ _)
  exact (cleared.trans (.line (sameHistory_mapPairs _ _))).trans (goesOn_appendMark l _ _ _)

theorem goesOn_disableLine (l : LineNo) (s : State) : s.GoesOn sums (disableLine l s) := by
  have off (t : State) (h : s.GoesOn sums t) : s.GoesOn sums (turnOff l t) := h.trans (goesOn_turnOff l t)
  unfold disableLine
  split
  · exact .refl s
  · exact off _ (goesOn_leaveProbe l s)
  · exact (off _ (goesOn_endMeasurement l s)).trans (goesOn_probeTake _)
  · exact off _ (goesOn_exitLive l s)
  · exact off _ (.refl s)
  · exact off _ (goesOn_abortTest l s)

theorem goesOn_restartLine (l : LineNo) (s : State) : s.GoesOn sums (restartLine l s) := by
  have starts (t : State) (h : s.GoesOn sums t) : s.GoesOn sums (startByRecord l t) := h.trans (goesOn_startByRecord l t)
  unfold restartLine
  simp only
  split
  · exact .refl s
  · split
    · exact starts _ (goesOn_leaveProbe l s)
    · exact .refl s
  · exact (starts _ (goesOn_endMeasurement l s)).trans (goesOn_probeTake _)
  · exact (starts _ (goesOn_exitLive l s)).trans (goesOn_probeTake _)
  · exact (starts _ (.refl s)).trans (goesOn_probeTake _)
  · exact .line (by constructor <;> rfl)

theorem goesOn_loseRate (l : LineNo) (s : State) : s.GoesOn sums (loseRate l s) :=
  ((((goesOn_appendMark l _ _ s).trans (goesOn_raisePlain l _ _)).trans (goesOn_exitLive l _)).trans
    (goesOn_joinProbe l _)).trans (goesOn_probeTake _)

theorem goesOn_sampleLine (l : LineNo) (s : State) : s.GoesOn sums (sampleLine l s) := by
  have judged (n e : Nat) (s : State) : s.GoesOn sums (judgeStreak l n e s) := by
    unfold judgeStreak
    simp only
    split
    · exact State.GoesOn.trans (.line (by constructor <;> rfl)) (goesOn_loseRate l _)
    · exact .line (by constructor <;> rfl)
  exact ((goesOn_monitorExpiry l s).trans (.line (by constructor <;> rfl))).trans (judged _ _ _)

/-! ### Ports and attendance -/

theorem goesOn_validMessage (s : State) : s.GoesOn sums (validMessage s) := by
  unfold validMessage
  split
  · exact .refl s
  · exact .beside rfl rfl

theorem goesOn_consume (f : Frame) (s : State) : s.GoesOn sums (consume f s) := by
  unfold consume
  split
  · exact .beside rfl rfl
  · split
    · exact .after (goesOn_validMessage _) rfl rfl
    · exact .beside rfl rfl

theorem goesOn_downStart (s : State) : s.GoesOn sums (downStart s) := by
  unfold downStart
  split
  · split
    · exact .beside rfl rfl
    · exact .refl s
  · exact .refl s

/-- A loss that is counted and raises CHAIN_LOSS (R157). -/
theorem goesOn_loses (c : UnitCounters) (s : State) : s.GoesOn sums (raiseUnit .chainLoss { s with counters := c }) :=
  .after (goesOn_raiseUnit _ _) rfl rfl

theorem goesOn_dropDown (s : State) : s.GoesOn sums (dropDown s) := goesOn_loses _ s

theorem goesOn_dropUp (s : State) : s.GoesOn sums (dropUp s) := goesOn_loses _ s

theorem goesOn_cutOffUp (f : UpFrame) (s : State) : s.GoesOn sums (cutOffUp f s) := by
  cases f <;> exact goesOn_loses _ s

theorem goesOn_repeated {f : State → State} (hf : ∀ s : State, s.GoesOn sums (f s)) (n : Nat) (s : State) :
    s.GoesOn sums (repeated f n s) := by
  induction n generalizing s with
  | zero => exact .refl s
  | succ n ih => exact (hf s).trans (ih _)

theorem goesOn_joinDown (f : Frame) (s : State) : s.GoesOn sums (joinDown f s) := by
  unfold joinDown
  split
  · exact .after (goesOn_downStart _) rfl rfl
  · exact goesOn_dropDown s

theorem goesOn_joinUp (f : Frame) (s : State) : s.GoesOn sums (joinUp f s) := by
  unfold joinUp
  split
  · exact .beside rfl rfl
  · exact goesOn_dropUp s

theorem goesOn_filterUp (f : Frame) (s : State) : s.GoesOn sums (filterUp f s) := by
  unfold filterUp
  split
  · split
    · exact goesOn_consume f s
    · split
      · exact (goesOn_consume f s).trans (goesOn_joinDown f _)
      · exact goesOn_joinDown f s
  · exact goesOn_joinDown f s

/-- What a lapse flushes is no history. -/
theorem sameHistory_flushed (u : Line) : u.SameHistory u.flushed := by
  unfold Line.flushed
  split <;> exact ⟨rfl, rfl, rfl, rfl⟩

theorem goesOn_lapse (s : State) : s.GoesOn sums (lapse s) := by
  have raised : s.GoesOn sums (raiseUnit .attendLapse
      { s with attendance := { state := .unattended, left := none, lapses := s.attendance.lapses + 1 } }) :=
    .after (goesOn_raiseUnit _ _) rfl rfl
  have freed := raised.trans (.forLines fun l t => goesOn_clearFloor l .attendance t)
  exact freed.trans (.mapLines fun l => sameHistory_flushed _)

theorem goesOn_tick (s : State) : s.GoesOn sums (tick s) := by
  have ticked : s.GoesOn sums (s.mapLines fun _ u => u.tick) :=
    .mapLines fun l => by constructor <;> simp only [Line.tick_eq]
  exact ticked.trans (.beside (by simp [tick]) (by simp [tick]))

end Sys2Proof.Machine
end

section
/-! SUPPORT. The requests: the own part of each, LINE SET with a new ring size (R22, R49, R50) among them, and how the
Message Engine takes and answers one. -/

namespace Sys2Proof.Machine

variable {sums : Prop} {s : State} {l : LineNo}

/-! ### LINE SET -/

/-- The sum that LINE SET checks is that of the ring sizes with the new one in place (R22, R49). -/
theorem ringSum_eq (s : State) (l : LineNo) (new : LineRecord) (v : Line) (hv : v.record = new) :
    s.ringSum l new.ringKiB = ((List.finRange 24).map fun j => ((s.setLine l v).line j).record.ringBytes).sum := by
  have hline (j : LineNo) : ((s.setLine l v).line j).record.ringBytes
      = (if j = l then new.ringKiB else (s.line j).record.ringKiB) * 1024 := by
    rw [setLine_line, LineRecord.ringBytes]
    split
    · rw [hv]
    · rfl
  simp only [hline, State.ringSum, List.sum_eq_foldl, List.foldl_map]

/-- A line with a new record and an emptied ring: both offsets at `newest`, no marks (R50). -/
def Line.resized (u : Line) (new : LineRecord) : Line :=
  { u with
    record := new, ring := { oldest := u.ring.newest, newest := u.ring.newest, bytes := [] }, marks := [] }

theorem resized_storeLaw (u : Line) {new : LineRecord} (h1 : 1 ≤ new.ringKiB) (h64 : new.ringKiB ≤ 64) :
    (u.resized new).storeLaw := by
  refine ⟨⟨le_rfl, (Nat.sub_self _).symm, ?_⟩, ⟨Nat.zero_le _, nofun, List.Pairwise.nil⟩, h1, h64⟩
  exact (Nat.sub_self _).trans_le (Nat.zero_le _)

/-- A ring of a new size that fits into capture memory begins empty at `newest` (R49, R50). -/
theorem goesOn_resized {new : LineRecord} (h1 : 1 ≤ new.ringKiB) (h64 : new.ringKiB ≤ 64)
    (hfits : s.ringSum l new.ringKiB ≤ Config.captureBytes) :
    s.GoesOn sums (s.setLine l ((s.line l).resized new)) where
  law := fun ⟨hl, _⟩ => by
    refine ⟨fun j => ?_, ringSum_eq s l new ((s.line l).resized new) rfl ▸ hfits⟩
    rw [setLine_line]
    split
    · exact resized_storeLaw _ h1 h64
    · exact hl j
  offsets := fun ⟨hl, _⟩ j => by
    obtain ⟨⟨hle, -⟩, -⟩ := hl j
    rw [setLine_line]
    split
    · next hj => exact hj ▸ ⟨hle, le_rfl⟩
    · exact ⟨le_rfl, le_rfl⟩
  summaries := fun _ j => by
    rw [setLine_line]
    split
    · next hj => exact hj ▸ .refl _
    · exact .refl _
  unitSummary := fun _ => .refl _

theorem resizeRing_newRecord (s : State) (l : LineNo) (new : LineRecord) :
    resizeRing l (s.modLine l fun u => { u with record := new }) =
      reportOldest l (s.line l).ring.newest (s.setLine l ((s.line l).resized new)) := by
  simp only [resizeRing, modLine_eq, setLine_line_same, setLine_setLine, Line.resized]

theorem goesOn_applyRecord {new : LineRecord} (h1 : 1 ≤ new.ringKiB) (h64 : new.ringKiB ≤ 64)
    (hfits : s.ringSum l new.ringKiB ≤ Config.captureBytes) : s.GoesOn sums (applyRecord l new s) := by
  have sized : s.GoesOn sums (if new.ringKiB ≠ (s.line l).record.ringKiB
      then resizeRing l (s.modLine l fun u => { u with record := new })
      else s.modLine l fun u => { u with record := new }) := by
    split
    · rw [resizeRing_newRecord]
      exact (goesOn_resized h1 h64 hfits).trans (goesOn_mapSessions _ _)
    · next hsame => exact .line ⟨not_not.mp hsame, rfl, rfl, rfl⟩
  have idled (t : State) (ht : s.GoesOn sums t) :
      s.GoesOn sums (if new.floorIdle ≠ (s.line l).record.floorIdle then restartIdle l t else t) := by
    split
    · exact ht.trans (goesOn_restartIdle l t)
    · exact ht
  unfold applyRecord
  simp only
  split
  · exact (idled _ sized).trans (goesOn_restartLine l _)
  · exact idled _ sized

/-! ### Taking and answering a request -/

theorem goesOn_greet (rq : Request) (s : State) : s.GoesOn sums (greet rq s) := by
  obtain ⟨a, ss, h, -⟩ := greet_effect rq s
  rw [h]
  exact .beside rfl rfl

theorem goesOn_deliver (rq : Request) (a : Answer) : a.state.GoesOn sums (deliver rq a) := by
  unfold deliver
  split
  · exact (goesOn_grantData _).trans (.beside rfl rfl)
  · exact .beside rfl rfl

/-- What a request does by itself lets history and summaries go on. -/
def OwnGoesOn (sums : Prop) (own : Request → State → Answer) : Prop :=
  ∀ (rq : Request) (s : State), s.GoesOn sums (own rq s).state

theorem OwnGoesOn.serve {own : Request → State → Answer} (h : OwnGoesOn sums own) (k : RequestKind) (s : State) :
    s.GoesOn sums (serve k own s) := by
  have carried (rq : Request) (s : State) : s.GoesOn sums (carryOut k own rq s).state := by
    unfold carryOut
    split
    · exact h rq s
    · split
      · exact .beside rfl rfl
      · exact .refl s
  have taken (rq : Request) (rest : List Frame) (n : Nat) :
      s.GoesOn sums (greet rq { s with requests := rest, heldPlaces := n }) := .after (goesOn_greet rq _) rfl rfl
  have answered (rq : Request) (rest : List Frame) (n : Nat) :
      s.GoesOn sums (deliver rq (carryOut k own rq (greet rq { s with requests := rest, heldPlaces := n }))) :=
    ((taken rq rest n).trans (carried rq _)).trans (goesOn_deliver rq _)
  unfold Machine.serve
  split
  · exact .refl s
  · split
    · exact (answered _ _ _).trans (goesOn_upGrant _)
    · exact .refl s

/-- A request that only reads. -/
theorem ownGoesOn_reads {own : Request → State → Answer} (h : ∀ rq s, (own rq s).state = s) : OwnGoesOn sums own :=
  fun rq s => by rw [h]; exact .refl s

theorem goesOn_onLine {k : RequestKind} {rq : Request} {own : LineNo → Answer} (h : ∀ l, s.GoesOn sums (own l).state) :
    s.GoesOn sums (onLine k rq s own).state := by
  unfold onLine
  split
  · exact .refl s
  · exact h _

theorem goesOn_onSession {k : RequestKind} {rq : Request} {own : SessionNo → Answer}
    (h : ∀ i, s.GoesOn sums (own i).state) : s.GoesOn sums (onSession k rq s own).state := by
  unfold onSession
  split
  · exact .refl s
  · exact h _

/-! ### The own parts -/

theorem ownGoesOn_lineSet : OwnGoesOn sums lineSet := fun rq s => goesOn_onLine fun l => by
  split
  · exact .refl s
  · next c hc =>
    split
    · exact .refl s
    · next hfits =>
      obtain ⟨-, -, -, -, -, -, h1, h64, -⟩ := readLineRecord_inRange hc
      exact goesOn_applyRecord h1 h64 (Nat.le_of_not_lt hfits)

theorem ownGoesOn_lineMeasure : OwnGoesOn sums lineMeasure := fun rq s => goesOn_onLine fun l => by
  have joins (t : State) (h : s.GoesOn sums t) : s.GoesOn sums (probeTake (joinProbe l t)) :=
    (h.trans (goesOn_joinProbe l t)).trans (goesOn_probeTake _)
  split
  case h_1 => exact joins _ (goesOn_exitLive l s)
  case h_2 | h_3 => exact joins _ (.refl s)
  all_goals exact .refl s

theorem ownGoesOn_lineTest : OwnGoesOn sums lineTest := fun rq s => goesOn_onLine fun l => by
  simp only
  split
  · exact .refl s
  · split
    case h_1 => exact (goesOn_exitLive l s).trans (goesOn_enterLoop l _ _)
    case h_2 => exact goesOn_enterLoop l _ s
    all_goals exact .refl s

theorem ownGoesOn_rateTableSet : OwnGoesOn sums rateTableSet := fun rq s => by
  have replaced (table : Vector Nat 16) : s.GoesOn sums { s with rates := table } := .beside rfl rfl
  unfold rateTableSet
  simp only
  split
  · exact .refl s
  · split
    · exact .refl s
    · exact replaced _

theorem ownGoesOn_monitorSet : OwnGoesOn sums monitorSet := fun rq s => by
  unfold monitorSet
  split
  · exact .refl s
  · refine .mapLines fun l => ?_
    split <;> exact ⟨rfl, rfl, rfl, rfl⟩

theorem ownGoesOn_watchSet : OwnGoesOn sums watchSet := fun rq s => by
  have replaced (i : EntryNo) (e : WatchEntry) : s.GoesOn sums (replaceEntry i e s) :=
    .after (.mapLines fun _ => ⟨rfl, rfl, rfl, rfl⟩) rfl rfl
  unfold watchSet
  split
  · exact .refl s
  · split
    · exact .refl s
    · exact replaced _ _

theorem ownGoesOn_unitSet : OwnGoesOn sums unitSet := fun rq s => by
  have applied (r : UnitRecord) : s.GoesOn sums (applyUnit r s) := by
    have started : s.GoesOn sums (if r.period ≠ s.unit.period
        then { s with unit := r, attendance := s.attendance.started r.period } else { s with unit := r }) := by
      split <;> exact .beside rfl rfl
    unfold applyUnit
    simp only
    split
    · exact started.trans (goesOn_mapSessions _ _)
    · exact started
  unfold unitSet
  split
  · exact .refl s
  · exact applied _

theorem ownGoesOn_setTime : OwnGoesOn sums setTime := fun rq s => by
  have settled (now : Word32) : s.GoesOn sums (State.forLines { s with unitTime := now } settleHold) :=
    .after (.forLines goesOn_settleHold) rfl rfl
  simpa only [setTime, Answer.of] using settled _

/-- EVENTS READ clears a summary, and leaves history alone (R152). -/
theorem ownGoesOn_eventsRead : OwnGoesOn False eventsRead := fun rq s => by
  unfold eventsRead
  simp only
  split
  · exact .ofLines (fun _ => .refl _) False.elim
  · split
    · exact .refl s
    · exact .setLine (.summed _ False.elim)

theorem ownGoesOn_snapshotFree : OwnGoesOn sums snapshotFree := fun rq s => by
  unfold snapshotFree
  split
  · exact .refl s
  · split
    · exact goesOn_setSlot _ _ s
    · exact .refl s
    · exact .refl s

theorem ownGoesOn_snapshotTake : OwnGoesOn sums snapshotTake := fun rq s => goesOn_onLine fun l => by
  split
  case h_6 =>
    unfold takeSnapshot
    simp only
    split <;> exact goesOn_fireTrigger _ s
  all_goals exact .refl s

theorem ownGoesOn_openSession : OwnGoesOn sums openSession := fun rq s => by
  unfold openSession
  split
  · exact .refl s
  · split
    · exact .refl s
    · split
      · exact .refl s
      · exact .beside rfl rfl

theorem ownGoesOn_seek : OwnGoesOn sums seek := fun rq s => goesOn_onSession fun i => by
  split
  · exact .refl s
  · exact .beside rfl rfl

theorem ownGoesOn_credit : OwnGoesOn sums credit := fun rq s => by
  unfold credit
  split <;> exact .beside rfl rfl

theorem ownGoesOn_floorRequest : OwnGoesOn sums floorRequest := fun rq s => goesOn_onSession fun i => by
  simp only
  split
  · exact .refl s
  · split
    · exact .refl s
    · split
      · exact .refl s
      · exact goesOn_settleRequest _ _ _ s

theorem ownGoesOn_typeBytes : OwnGoesOn sums typeBytes := fun rq s => goesOn_onSession fun i => by
  simp only
  split
  · exact .refl s
  · split
    · exact .refl s
    · split
      · exact .refl s
      · exact goesOn_typeInto _ i _ s

theorem ownGoesOn_sendBreak : OwnGoesOn sums sendBreak := fun rq s => goesOn_onSession fun i => by
  simp only
  split
  · exact .refl s
  · split
    · exact .refl s
    · split
      · exact .refl s
      · split
        · exact .refl s
        · exact ((goesOn_restartIdle _ s).trans (.line (by constructor <;> rfl))).trans (goesOn_startElement _ _)

end Sys2Proof.Machine
end

section
/-! SUPPORT. The commands: all but the two resets let the history of the part go on, and all but those and EVENTS READ
keep the summaries. -/

namespace Sys2Proof.Machine

variable {sums : Prop} {s t : State} {l : LineNo}

/-! ### Guards and grants -/

namespace State.GoesOn

theorem granted (h : s.GoesOn sums t) : s.GoesOn sums (upGrant t) := h.trans (goesOn_upGrant t)

/-- An event that cannot occur changes nothing (assumption log 1). -/
theorem guarded {c : Prop} [Decidable c] (h : s.GoesOn sums t) : s.GoesOn sums (if c then t else s) := by
  split
  · exact h
  · exact .refl s

end State.GoesOn

/-! ### Ports -/

theorem goesOn_upLinkDown (h : execUpLinkDown s = .next t) : s.GoesOn sums t := by
  have down : s.GoesOn sums { s with upLink := false, upTx := none, upQueue := [] } := .beside rfl rfl
  have cut (f : UpFrame) (p : ResetPhase) :
      s.GoesOn sums (cutOffUp f { s with upLink := false, upTx := none, upQueue := [], resetPhase := p }) :=
    .after (goesOn_cutOffUp f _) rfl rfl
  cases h
  refine .guarded (.trans ?_ (goesOn_repeated goesOn_dropUp _ _))
  split
  · exact down
  · exact cut _ _

theorem goesOn_downLinkDown (h : execDownLinkDown s = .next t) : s.GoesOn sums t := by
  have dropped (n : Nat) :
      s.GoesOn sums (repeated dropDown n { s with downLink := false, downTx := none, downQueue := [] }) :=
    .after (goesOn_repeated goesOn_dropDown n _) rfl rfl
  cases h
  exact .guarded (dropped _).granted

theorem goesOn_linkComesUp {port : Port} (h : execLinkComesUp port s = .next t) : s.GoesOn sums t := by
  have started : s.GoesOn sums (downStart { s with downLink := true }) := .after (goesOn_downStart _) rfl rfl
  have up : s.GoesOn sums { s with upLink := true } := .beside rfl rfl
  cases h
  cases port with
  | up =>
    dsimp only
    split
    · exact .refl s
    · exact up.granted
  | down =>
    dsimp only
    split
    · exact .refl s
    · exact started

theorem goesOn_upTransmitComplete (h : execUpTransmitComplete s = .next t) : s.GoesOn sums t := by
  have idle : s.GoesOn sums { s with upTx := none } := .beside rfl rfl
  cases h
  split
  · exact .refl s
  · split
    · exact .beside rfl rfl
    · exact idle.granted

theorem goesOn_downTransmitComplete (h : execDownTransmitComplete s = .next t) : s.GoesOn sums t := by
  have started : s.GoesOn sums (downStart { s with downTx := none }) := .after (goesOn_downStart _) rfl rfl
  cases h
  split
  · exact .refl s
  · exact started

theorem goesOn_unknownKindRequest (h : execUnknownKindRequest s = .next t) : s.GoesOn sums t := by
  have taken (rq : Request) (rest : List Frame) :
      s.GoesOn sums (greet rq { s with requests := rest, heldPlaces := 1 }) := .after (goesOn_greet rq _) rfl rfl
  have answered (rq : Request) (rest : List Frame) : s.GoesOn sums
      (deliver rq (Answer.of .unknownKind [] (greet rq { s with requests := rest, heldPlaces := 1 }))) :=
    (taken rq rest).trans (goesOn_deliver rq (.of .unknownKind [] _))
  cases h
  split
  · exact .refl s
  · exact .guarded (answered _ _).granted

/-! ### Receivers and transmitters -/

theorem goesOn_loopCharacterReceived {data : Byte} {p f : Bool} (h : execLoopCharacterReceived l data p f s = .next t) :
    s.GoesOn sums t := by
  cases h
  split
  · exact .refl s
  · refine .guarded ?_
    unfold loopReceive
    simp only
    split
    · exact (goesOn_completeTest _ _ s).granted
    · exact .line (by constructor <;> rfl)

theorem goesOn_loopTestTimeout (h : execLoopTestTimeout l s = .next t) : s.GoesOn sums t := by
  cases h
  split
  · exact .refl s
  · exact .guarded (goesOn_completeTest _ _ s).granted

theorem goesOn_patternByteSent (h : execPatternByteSent l s = .next t) : s.GoesOn sums t := by
  cases h
  split
  · unfold patternSent
    simp only
    split
    · exact .line (by constructor <;> rfl)
    · split
      · exact (goesOn_completeTest _ _ s).granted
      · exact .line (by constructor <;> rfl)
  · exact .refl s

theorem goesOn_byteTransmitted (h : execByteTransmitted l s = .next t) : s.GoesOn sums t := by
  have done (b : Byte) : s.GoesOn sums (byteDone l b s) :=
    State.GoesOn.trans (.line (by constructor <;> rfl)) (goesOn_beginGap l _ _)
  cases h
  split
  case h_1 => exact done _
  all_goals exact .refl s

theorem goesOn_breakSpaceEnd (h : execBreakSpaceEnd l s = .next t) : s.GoesOn sums t := by
  cases h
  split
  case h_1 => exact .guarded (.line (by constructor <;> rfl))
  all_goals exact .refl s

theorem goesOn_breakOutEnd (h : execBreakOutEnd l s = .next t) : s.GoesOn sums t := by
  cases h
  split
  case h_1 => exact .guarded (goesOn_beginGap l _ s)
  all_goals exact .refl s

theorem goesOn_pacingGapExpiry (h : execPacingGapExpiry l s = .next t) : s.GoesOn sums t := by
  cases h
  exact .guarded (State.GoesOn.trans (.line (by constructor <;> rfl)) (goesOn_startElement l _))

theorem goesOn_holdExpiry (h : execHoldExpiry l s = .next t) : s.GoesOn sums t := by
  cases h
  exact .guarded (State.GoesOn.trans (.line (by constructor <;> rfl)) (goesOn_startElement l _))

/-! ### The Rate Probe -/

theorem goesOn_measureEdge {e : MeasuredEdge} (h : execMeasureEdge e s = .next t) : s.GoesOn sums t := by
  cases h
  split
  · exact goesOn_strayEdge _ s
  · exact (goesOn_measuredEdge _ _ s).granted

theorem goesOn_edgeCountReached {e : MeasuredEdge} (h : execEdgeCountReached e s = .next t) : s.GoesOn sums t := by
  cases h
  split
  · exact goesOn_strayEdge _ s
  · exact .guarded (goesOn_measuredEdge _ _ s).granted

theorem goesOn_measureWindowExpiry (h : execMeasureWindowExpiry s = .next t) : s.GoesOn sums t := by
  cases h
  split
  · exact .refl s
  · exact .guarded (goesOn_failAttempt _ _ s).granted

theorem goesOn_measureBreak (h : execMeasureBreak s = .next t) : s.GoesOn sums t := by
  cases h
  split
  · exact .refl s
  · exact .guarded (goesOn_failAttempt _ _ s).granted

theorem goesOn_probeCharacterEnd (h : execProbeCharacterEnd s = .next t) : s.GoesOn sums t := by
  cases h
  split
  · exact .refl s
  · exact .line (by constructor <;> rfl)

/-! ### Timers -/

theorem goesOn_holdoffExpiry {i : EntryNo} (h : execHoldoffExpiry i l s = .next t) : s.GoesOn sums t := by
  cases h
  exact .guarded (.line (by constructor <;> rfl))

theorem goesOn_gatherTimerExpiry (h : execGatherTimerExpiry l s = .next t) : s.GoesOn sums t := by
  cases h
  exact .guarded (State.GoesOn.granted (.line (by constructor <;> rfl)))

theorem goesOn_idleExpiry (h : execIdleExpiry l s = .next t) : s.GoesOn sums t := by
  cases h
  split
  · exact (goesOn_releaseHeld l _ _ _ s).granted
  · exact .refl s

theorem goesOn_attendanceExpiry (h : execAttendanceExpiry s = .next t) : s.GoesOn sums t := by
  have lapsed : s.GoesOn sums (lapse s) := goesOn_lapse s
  unfold execAttendanceExpiry at h
  generalize lapse s = w at lapsed h
  cases h
  exact .guarded lapsed.granted

/-! ### Every command -/

/-- Whatever command but the two resets runs, history goes on; summaries do where it is not EVENTS READ. -/
theorem goesOn_exec (c : Instr) (hp : ∀ straps, c ≠ .powerOn straps) (hr : c ≠ .unitResetApplied)
    (hc : sums → c ≠ .eventsRead) (h : exec c s = .next t) : s.GoesOn sums t := by
  have own (k : RequestKind) {f : Request → State → Answer} (hf : OwnGoesOn sums f) : s.GoesOn sums (serve k f s) :=
    hf.serve k s
  cases c with
  | powerOn straps => exact absurd rfl (hp straps)
  | upLinkDown => exact goesOn_upLinkDown h
  | downLinkDown => exact goesOn_downLinkDown h
  | linkComesUp => exact goesOn_linkComesUp h
  | upFrameArrival => cases h; exact .guarded (goesOn_filterUp _ s).granted
  | downFrameArrival => cases h; exact .guarded (goesOn_joinUp _ s).granted
  | upTransmitComplete => exact goesOn_upTransmitComplete h
  | downTransmitComplete => exact goesOn_downTransmitComplete h
  | unitResetApplied => exact absurd rfl hr
  | unitStatus => cases h; exact own _ (ownGoesOn_reads fun _ _ => rfl)
  | unitSet => cases h; exact own _ ownGoesOn_unitSet
  | setTime => cases h; exact own _ ownGoesOn_setTime
  | unitReset => cases h; exact own _ fun _ _ => .beside rfl rfl
  | lineRead => cases h; exact own _ fun _ s => goesOn_onLine fun _ => .refl s
  | lineSet => cases h; exact own _ ownGoesOn_lineSet
  | lineEnable => cases h; exact own _ fun _ s => goesOn_onLine fun l => goesOn_enableLine l s
  | lineDisable => cases h; exact own _ fun _ s => goesOn_onLine fun l => goesOn_disableLine l s
  | lineMeasure => cases h; exact own _ ownGoesOn_lineMeasure
  | lineTest => cases h; exact own _ ownGoesOn_lineTest
  | rateTableRead => cases h; exact own _ (ownGoesOn_reads fun _ _ => rfl)
  | rateTableSet => cases h; exact own _ ownGoesOn_rateTableSet
  | monitorRead => cases h; exact own _ fun _ s => goesOn_onLine fun _ => .refl s
  | monitorSet => cases h; exact own _ ownGoesOn_monitorSet
  | marksRead => cases h; exact own _ fun _ s => goesOn_onLine fun _ => .refl s
  | eventsRead =>
    have hno : ¬ sums := fun hs => hc hs rfl
    cases h
    exact own _ (eq_false hno ▸ ownGoesOn_eventsRead)
  | watchRead => cases h; exact own _ (ownGoesOn_reads fun _ _ => by unfold watchRead; split <;> rfl)
  | watchSet => cases h; exact own _ ownGoesOn_watchSet
  | snapshotList => cases h; exact own _ (ownGoesOn_reads fun _ _ => rfl)
  | snapshotRead => cases h; exact own _ (ownGoesOn_reads fun _ _ => by unfold snapshotRead; split <;> rfl)
  | snapshotFree => cases h; exact own _ ownGoesOn_snapshotFree
  | snapshotTake => cases h; exact own _ ownGoesOn_snapshotTake
  | openSession => cases h; exact own _ ownGoesOn_openSession
  | closeSession => cases h; exact own _ fun _ s => goesOn_onSession fun i => goesOn_closeRecord i _ s
  | seek => cases h; exact own _ ownGoesOn_seek
  | credit => cases h; exact own _ ownGoesOn_credit
  | floorRequest => cases h; exact own _ ownGoesOn_floorRequest
  | floorRelease => cases h; exact own _ fun _ s => goesOn_onSession fun i => goesOn_leaveFloor i _ s
  | typeBytes => cases h; exact own _ ownGoesOn_typeBytes
  | sendBreak => cases h; exact own _ ownGoesOn_sendBreak
  | unknownKindRequest => exact goesOn_unknownKindRequest h
  | characterCapture => cases h; exact (goesOn_captureCharacter _ _ _ _ s).granted
  | framingErrorCapture => cases h; exact (goesOn_captureCharacter _ _ _ _ s).granted
  | breakIn => cases h; exact .guarded (goesOn_detectBreak _ s).granted
  | loopCharacterReceived => exact goesOn_loopCharacterReceived h
  | loopTestTimeout => exact goesOn_loopTestTimeout h
  | byteTransmitted => exact goesOn_byteTransmitted h
  | breakOutEnd => exact goesOn_breakOutEnd h
  | pacingGapExpiry => exact goesOn_pacingGapExpiry h
  | holdExpiry => exact goesOn_holdExpiry h
  | edgeCountReached => exact goesOn_edgeCountReached h
  | measureWindowExpiry => exact goesOn_measureWindowExpiry h
  | measureBreak => exact goesOn_measureBreak h
  | sampleExpiry => cases h; exact .guarded (goesOn_sampleLine _ s).granted
  | burstTimeout => cases h; exact .guarded (goesOn_burstTimesOut _ s).granted
  | holdoffExpiry => exact goesOn_holdoffExpiry h
  | fillLimitExpiry => cases h; exact .guarded (goesOn_completeSlot _ _ s).granted
  | gatherTimerExpiry => exact goesOn_gatherTimerExpiry h
  | keepTimerExpiry => cases h; exact .guarded (goesOn_closeRecord _ _ s).granted
  | idleExpiry => exact goesOn_idleExpiry h
  | attendanceExpiry => exact goesOn_attendanceExpiry h
  | measureEdge => exact goesOn_measureEdge h
  | startEdge => cases h; exact .line (sameHistory_atStartEdge _ _)
  | rxdReturnToMark => cases h; exact .line (sameHistory_atReturnToMark _)
  | probeCharacterEnd => exact goesOn_probeCharacterEnd h
  | patternByteSent => exact goesOn_patternByteSent h
  | breakSpaceEnd => exact goesOn_breakSpaceEnd h

/-- Settles O60: what goes on, by whether the command is EVENTS READ. -/
theorem historyAndSummariesOnlyGrow : Obligations.HistoryAndSummariesOnlyGrow := by
  intro s t c hs hp hr h
  refine ⟨(goesOn_exec (sums := False) c hp hr False.elim h).offsets hs, fun hc => ?_⟩
  have on : s.GoesOn True t := goesOn_exec c hp hr (fun _ => hc) h
  refine ⟨fun l hk => ?_, fun hk => ?_⟩
  · obtain ⟨-, outcome, has, watches⟩ := on.summaries trivial l hk
    exact ⟨outcome, has, fun i => watches i.val⟩
  · obtain ⟨-, outcome, has⟩ := on.unitSummary trivial hk
    exact ⟨outcome, has⟩

end Sys2Proof.Machine
end

section
/-! SUPPORT. The law of the Capture Store through the two resets (R40, R57), and so through every step. -/

namespace Sys2Proof.Machine

variable {s t : State}

/-! ### Blank lines -/

theorem blankLine_record (r : LineRecord) (p : MonitorParams) (x : Level) (m : LineSummary) :
    (blankLine r p x m).record = r := rfl

/-- A line with an empty ring and no marks is in order (R57, R58). -/
theorem blankLine_storeLaw {r : LineRecord} (h1 : 1 ≤ r.ringKiB) (h64 : r.ringKiB ≤ 64) (p : MonitorParams) (x : Level)
    (m : LineSummary) : (blankLine r p x m).storeLaw :=
  ⟨⟨le_rfl, rfl, Nat.zero_le _⟩, ⟨Nat.zero_le _, nofun, List.Pairwise.nil⟩, h1, h64⟩

/-- At power-on the twenty-four rings of 16 KiB take all of capture memory (R21, R49). -/
theorem storeLaw_powered (straps : Straps) (s : State) : (powered straps s).storeLaw := by
  have size : (strappedRecord straps).ringKiB = 16 := rfl
  refine ⟨fun l => ?_, ?_⟩
  · rw [powered_line]
    exact blankLine_storeLaw (by rw [size]; decide) (by rw [size]; decide) _ _ _
  · have bytes (l : LineNo) : ((powered straps s).line l).record.ringBytes = 16384 := by
      rw [powered_line, blankLine_record, LineRecord.ringBytes, size]
    simp only [bytes]
    decide

/-- UNIT RESET keeps the records, and with them the ring sizes, and empties the rings (R40, R58). -/
theorem storeLaw_resetActivity (h : s.storeLaw) : (resetActivity s).storeLaw := by
  obtain ⟨hl, hsum⟩ := h
  refine ⟨fun l => ?_, ?_⟩
  · obtain ⟨-, -, h1, h64⟩ := hl l
    rw [resetActivity_line]
    exact blankLine_storeLaw h1 h64 _ _ _
  · have bytes (l : LineNo) : ((resetActivity s).line l).record.ringBytes = (s.line l).record.ringBytes := by
      rw [resetActivity_line, blankLine_record]
    simpa only [bytes] using hsum

/-! ### The resets -/

theorem storeLaw_startLines (h : s.storeLaw) : (startLines s).storeLaw := (goesOn_startLines (sums := False) s).law h

theorem storeLaw_powerOn {straps : Straps} (h : execPowerOn straps s = .next t) : t.storeLaw := by
  have raised := (goesOn_raiseUnit (sums := False) .resetDone _).law (storeLaw_powered straps s)
  have started := storeLaw_startLines raised
  unfold execPowerOn at h
  generalize startLines (raiseUnit .resetDone (powered straps s)) = w at started h
  cases h
  exact started

/-- The resets of the queues, the summaries and the slots let history go on. -/
theorem goesOn_resetParts (s : State) : s.GoesOn False (resetSlots (resetAlerts (resetQueues s))) := by
  have queues (t : State) (hl : t.lines = s.lines) (hu : t.unitSummary = s.unitSummary) :
      s.GoesOn False (upGrant (placeWaiting t)) := by
    obtain ⟨_, h, -⟩ := placeWaiting_effect t
    rw [h]
    exact State.GoesOn.granted (.beside hl hu)
  have emptied (t : State) : t.GoesOn False (t.mapLines fun _ u => { u with summary := .reset }) :=
    .ofLines (fun l => by rw [mapLines_line]; exact .summed _ False.elim) False.elim
  have forgotten (t : State) (m : UnitSummary) : t.GoesOn False { t with unitSummary := m } :=
    .ofLines (fun _ => .refl _) False.elim
  have alerts (t : State) : t.GoesOn False (resetAlerts t) := by
    have cleared := (emptied t).trans (forgotten _ { kinds := 0, outcome := .none })
    exact cleared.trans (goesOn_raiseUnit .resetDone _)
  have slots (t : State) : t.GoesOn False (resetSlots t) :=
    .forSlots fun k w => .guarded (goesOn_completeSlot k true w)
  have queued : s.GoesOn False (resetQueues s) := queues _ rfl rfl
  exact (queued.trans (alerts _)).trans (slots _)

theorem storeLaw_unitResetApplied (hs : s.storeLaw) (h : execUnitResetApplied s = .next t) : t.storeLaw := by
  have started := storeLaw_startLines (storeLaw_resetActivity ((goesOn_resetParts s).law hs))
  cases h
  split
  · exact (goesOn_upGrant (sums := False) _).law started
  · exact hs

/-! ### The step -/

/-- Settles O4: a reset starts from empty rings, and under every other command history goes on. -/
theorem storeLawKept : Obligations.StoreLawKept := by
  intro s t hs h
  unfold step at h
  split at h
  · cases h
    exact (goesOn_tick (sums := False) s).law hs
  · next c rest _ =>
    have hw : (s.withPending rest).storeLaw := hs
    by_cases hp : ∃ straps, c = .powerOn straps
    · obtain ⟨straps, rfl⟩ := hp
      exact storeLaw_powerOn h
    · by_cases hr : c = .unitResetApplied
      · subst hr
        exact storeLaw_unitResetApplied hw h
      · exact (goesOn_exec (sums := False) c (not_exists.mp hp) hr False.elim h).law hw

end Sys2Proof.Machine
end

section
/-! SUPPORT. How an event joins its summary and an ALERT or a notice is placed, each case by itself (R148 to R150, R157, R162),
and how a mark is placed (R53, R55). -/

namespace Sys2Proof.Machine

variable {s : State} {l : LineNo}

/-! ### Room for a response -/

theorem responseRoom_iff : s.responseRoom = true ↔ ¬ 16 ≤ s.responses.length + s.heldPlaces := by
  rw [State.responseRoom, decide_eq_true_eq, Nat.not_le]
  rfl

/-- A full response queue, places held counted, has no room (R162). -/
theorem responseRoom_full (h : 16 ≤ s.responses.length + s.heldPlaces) : s.responseRoom = false :=
  Bool.eq_false_of_not_eq_true fun hr => responseRoom_iff.mp hr h

/-! ### The unit summary -/

/-- The first kind to join an empty unit summary stands there alone. -/
theorem zero_or_unitBit (e : UnitEvent) : (0 : BitVec 4) ||| 1#4 <<< e.bit = 1#4 <<< e.bit :=
  BitVec.zero_or

/-- An event opens the unit summary where nobody collects (R149). -/
theorem raiseUnit_silent (e : UnitEvent) (hk : s.unitSummary.kinds = 0) (hc : s.unit.collector = 0) :
    raiseUnit e s = { s with unitSummary := { kinds := 1#4 <<< e.bit, outcome := .none } } := by
  rw [raiseUnit, if_neg (not_not.mpr hk), if_pos hc, hk, zero_or_unitBit]

/-- An event opens the unit summary, and its ALERT finds room (R149, R150). -/
theorem raiseUnit_sends (e : UnitEvent) (hk : s.unitSummary.kinds = 0) (hc : s.unit.collector ≠ 0)
    (hr : s.responseRoom = true) :
    raiseUnit e s = State.pushResponse { s with unitSummary := { kinds := 1#4 <<< e.bit, outcome := .sent } }
      (s.alertFrame unitScope e.bit 0) := by
  rw [raiseUnit, if_neg (not_not.mpr hk), if_neg hc, if_pos hr, hk, zero_or_unitBit]

/-- An event opens the unit summary, and its ALERT finds no room: CHAIN_LOSS joins (R150, R157). -/
theorem raiseUnit_loses (e : UnitEvent) (hk : s.unitSummary.kinds = 0) (hc : s.unit.collector ≠ 0)
    (hr : s.responseRoom = false) :
    raiseUnit e s =
      { s with
        unitSummary := { kinds := (1#4 <<< e.bit) ||| 8#4, outcome := .lost }
        counters := { s.counters with responseDrops := s.counters.responseDrops + 1 } } := by
  rw [raiseUnit, if_neg (not_not.mpr hk), if_neg hc, if_neg (by rw [hr]; exact Bool.false_ne_true), hk, zero_or_unitBit]
  rfl

/-! ### The summary of a line -/

/-- A line's summary that an event joined, with what became of the ALERT. -/
def LineSummary.joined (m : LineSummary) (e : LineEvent) (ws : BitVec 64) (rs : BitVec 3) (o : AlertOutcome) :
    LineSummary :=
  { kinds := m.kinds ||| (1#9 <<< e.bit), watches := m.watches ||| ws, reasons := m.reasons ||| rs, outcome := o }

/-- The part with the summary of a line so joined. -/
def State.joined (s : State) (l : LineNo) (e : LineEvent) (ws : BitVec 64) (rs : BitVec 3) (o : AlertOutcome) : State :=
  s.setLine l { s.line l with summary := (s.line l).summary.joined e ws rs o }

variable (e : LineEvent) (ws : BitVec 64) (rs : BitVec 3) (a : Nat)

/-- An event joins a summary that is not empty, and no ALERT is made (R148, R149). -/
theorem raiseLine_joins (hk : (s.line l).summary.kinds ≠ 0) :
    raiseLine l e ws rs a s = s.joined l e ws rs (s.line l).summary.outcome := by
  simp only [raiseLine, if_pos hk]
  rfl

/-- An event opens a summary where nobody collects, or the line's alerts are off (R149). -/
theorem raiseLine_mute (hk : (s.line l).summary.kinds = 0)
    (hc : s.unit.collector = 0 ∨ (s.line l).record.alerts = false) :
    raiseLine l e ws rs a s = s.joined l e ws rs .none := by
  simp only [raiseLine, if_neg (not_not.mpr hk), if_pos hc]
  rfl

/-- An event opens a summary, and its ALERT finds room (R149, R150). -/
theorem raiseLine_sends (hk : (s.line l).summary.kinds = 0)
    (hc : ¬ (s.unit.collector = 0 ∨ (s.line l).record.alerts = false)) (hr : s.responseRoom = true) :
    raiseLine l e ws rs a s = (s.joined l e ws rs .sent).pushResponse (s.alertFrame l.val e.bit a) := by
  simp only [raiseLine, if_neg (not_not.mpr hk), if_neg hc, if_pos hr]
  rfl

/-- An event opens a summary, and its ALERT finds no room: it is lost and raises CHAIN_LOSS (R150, R157). -/
theorem raiseLine_loses (hk : (s.line l).summary.kinds = 0)
    (hc : ¬ (s.unit.collector = 0 ∨ (s.line l).record.alerts = false)) (hr : s.responseRoom = false) :
    raiseLine l e ws rs a s = raiseUnit .chainLoss (s.joined l e ws rs .lost).dropResponse := by
  simp only [raiseLine, if_neg (not_not.mpr hk), if_neg hc, hr, Bool.false_eq_true, if_false]
  rfl

/-- CHAIN_LOSS raised beside a full response queue where somebody collects: it joins the unit summary, or opens it and
loses its own ALERT (R157, assumption log 38). -/
theorem raiseUnit_chainLoss_full (hc : s.unit.collector ≠ 0) (hr : s.responseRoom = false) :
    (raiseUnit .chainLoss s).lines = s.lines ∧ (raiseUnit .chainLoss s).responses = s.responses
    ∧ (raiseUnit .chainLoss s).unitSummary.has .chainLoss = true
    ∧ (s.unitSummary.kinds = 0 → (raiseUnit .chainLoss s).unitSummary.outcome = .lost)
    ∧ (s.unitSummary.kinds ≠ 0 → (raiseUnit .chainLoss s).unitSummary.outcome = s.unitSummary.outcome)
    ∧ (raiseUnit .chainLoss s).counters.responseDrops
      = s.counters.responseDrops + (if s.unitSummary.kinds = 0 then 1 else 0) := by
  by_cases hk : s.unitSummary.kinds = 0
  · rw [raiseUnit_loses .chainLoss hk hc hr, if_pos hk]
    exact ⟨rfl, rfl, kinds_added _ .chainLoss, fun _ => rfl, fun h => absurd hk h, rfl⟩
  · rw [raiseUnit_joins .chainLoss s hk, if_neg hk]
    exact ⟨rfl, rfl, kinds_added _ .chainLoss, fun h => absurd h hk, fun _ => rfl, (BitVec.add_zero _).symm⟩

/-! ### The claim -/

/-- Settles O59, clause by clause: codes, marks, events of lines, notices, events of the unit. -/
theorem marksAndEventsRecorded : Obligations.MarksAndEventsRecorded := by
  refine ⟨fun e m => ?_, fun e m => ?_, fun why => ?_, fun s l kind arg => ?_, fun s l e watches reasons arg => ?_,
    fun s f => ?_, fun s e => ?_⟩
  · cases e <;> exact ⟨rfl, rfl⟩
  · cases e <;> exact ⟨rfl, rfl⟩
  · cases why <;> rfl
  · intro v m
    obtain ⟨before, loss, h, hb⟩ := appendMark_effect l kind arg s
    rw [h]
    refine ⟨fun hlt => ?_, fun hge => ?_⟩
    · obtain ⟨rfl, rfl, -⟩ := hb.resolve_right fun ⟨_, _, hge⟩ => absurd hlt (Nat.not_lt.mpr hge)
      rfl
    · obtain ⟨rfl, rfl, -⟩ := hb.resolve_left fun ⟨_, _, hlt⟩ => absurd hlt (Nat.not_lt.mpr hge)
      rfl
  · intro v joined t full
    have spoken (hc : s.unit.collector ≠ 0) (ha : v.record.alerts = true) :
        ¬ (s.unit.collector = 0 ∨ v.record.alerts = false) := by
      rintro (h | h)
      · exact hc h
      · rw [ha] at h
        cases h
    refine ⟨fun hk => raiseLine_joins e watches reasons arg hk, fun hk hc => raiseLine_mute e watches reasons arg hk hc,
      fun hk hc ha hroom => ?_, fun hk hc ha hfull => ?_⟩
    · exact raiseLine_sends e watches reasons arg hk (spoken hc ha) (responseRoom_iff.mpr hroom)
    · obtain ⟨hlines, hresp, hhas, hopens, hstays, hdrops⟩ :=
        raiseUnit_chainLoss_full (s := (joined .lost).dropResponse) hc (responseRoom_full hfull)
      have ht : t = raiseUnit .chainLoss (joined .lost).dropResponse :=
        raiseLine_loses e watches reasons arg hk (spoken hc ha) (responseRoom_full hfull)
      rw [ht]
      refine ⟨hlines, hresp, hhas, hopens, hstays, hdrops.trans ?_⟩
      show s.counters.responseDrops + 1 + (if s.unitSummary.kinds = 0 then 1 else 0) = _
      rw [BitVec.add_assoc]
      split <;> rfl
  · intro full
    refine ⟨fun hroom => ?_, fun hfull => ?_⟩
    · rw [placeNotice, if_pos (responseRoom_iff.mpr hroom)]
      rfl
    · rw [placeNotice, if_neg (by rw [responseRoom_full hfull]; exact Bool.false_ne_true)]
      rfl
  · intro t full
    exact ⟨fun hk => raiseUnit_joins e s hk, fun hk hc => raiseUnit_silent e hk hc,
      fun hk hc hroom => raiseUnit_sends e hk hc (responseRoom_iff.mpr hroom),
      fun hk hc hfull => raiseUnit_loses e hk hc (responseRoom_full hfull)⟩

end Sys2Proof.Machine
end

section
/-! SUPPORT. The step of the Activity Monitor toward a target: which way it goes, how far, and that it arrives (R63). -/

namespace Sys2Proof.Machine

variable {a b : Nat}

/-! ### The step by its direction -/

theorem stepToward_eq (a b shift : Nat) :
    let d : Int := (b : Int) - a
    let truncated : Int := d.tdiv (2 ^ shift)
    stepToward a b shift = if d ≠ 0 ∧ truncated = 0 then d.sign else truncated := by
  intro d truncated
  by_cases hd : d = 0
  · have hzero : (b : Int) - a = 0 := hd
    simp [stepToward, d, truncated, hzero]
  · exact if_congr (and_iff_right hd).symm rfl rfl

theorem stepToward_self (b shift : Nat) : stepToward b b shift = 0 := by
  simp [stepToward]

/-- Toward a target above, by one at least and to the target at most. -/
theorem stepToward_up (h : a < b) (shift : Nat) :
    1 ≤ stepToward a b shift ∧ stepToward a b shift ≤ (b : Int) - a := by
  obtain ⟨hnonneg, hle⟩ := (tdiv_pow_bounds ((b : Int) - a) shift).1 (by omega)
  simp only [stepToward]
  split
  · rw [Int.sign_eq_one_of_pos (by omega)]
    omega
  · omega

/-- Toward a target below, by one at least and to the target at most. -/
theorem stepToward_down (h : b < a) (shift : Nat) :
    (b : Int) - a ≤ stepToward a b shift ∧ stepToward a b shift ≤ -1 := by
  obtain ⟨hge, hnonpos⟩ := (tdiv_pow_bounds ((b : Int) - a) shift).2 (by omega)
  simp only [stepToward]
  split
  · rw [Int.sign_eq_neg_one_of_neg (by omega)]
    omega
  · omega

/-! ### The value moved -/

/-- No step takes a value below 0, so nothing is cut off. -/
theorem moveToward_cast (a b shift : Nat) : (moveToward a b shift : Int) = a + stepToward a b shift := by
  refine Int.toNat_of_nonneg ?_
  rcases lt_trichotomy a b with h | rfl | h
  · have := stepToward_up h shift
    omega
  · rw [stepToward_self]
    omega
  · have := stepToward_down h shift
    omega

theorem moveToward_self (b shift : Nat) : moveToward b b shift = b := by
  have := moveToward_cast b b shift
  rw [stepToward_self] at this
  omega

theorem moveToward_up (h : a < b) (shift : Nat) : a < moveToward a b shift ∧ moveToward a b shift ≤ b := by
  have := moveToward_cast a b shift
  have := stepToward_up h shift
  omega

theorem moveToward_down (h : b < a) (shift : Nat) : b ≤ moveToward a b shift ∧ moveToward a b shift < a := by
  have := moveToward_cast a b shift
  have := stepToward_down h shift
  omega

/-- Beside `moveToward_le`, the other bound: never past the target. -/
theorem le_moveToward (a b shift : Nat) : min a b ≤ moveToward a b shift := by
  rcases lt_trichotomy a b with h | rfl | h
  · have := moveToward_up h shift
    omega
  · rw [moveToward_self]
    omega
  · have := moveToward_down h shift
    omega

/-- A shift of 0 takes the whole difference. -/
theorem moveToward_shift_zero (a b : Nat) : moveToward a b 0 = b := by
  have hstep : stepToward a b 0 = (b : Int) - a := by
    simp only [stepToward, pow_zero, Int.tdiv_one]
    split
    · next h => rw [h]; rfl
    · rfl
  have := moveToward_cast a b 0
  omega

/-! ### The way to the target -/

theorem moveToward_nearer (h : a ≠ b) (shift : Nat) : (moveToward a b shift).dist b < a.dist b := by
  simp only [Nat.dist]
  rcases Nat.lt_or_gt_of_ne h with h | h
  · have := moveToward_up h shift
    omega
  · have := moveToward_down h shift
    omega

/-- Each step comes nearer, so a finite number of them arrives. -/
theorem moveToward_reaches (b shift : Nat) (a : Nat) : ∃ k : Nat, (fun x => moveToward x b shift)^[k] a = b := by
  induction hd : a.dist b using Nat.strong_induction_on generalizing a with
  | _ n ih =>
    by_cases h : a = b
    · exact ⟨0, h⟩
    · obtain ⟨k, hk⟩ := ih _ (hd ▸ moveToward_nearer h shift) (moveToward a b shift) rfl
      exact ⟨k + 1, hk⟩

/-- Settles O54: the value is the step's sum, and the step is bounded by the difference in either direction. -/
theorem stepRule : Obligations.StepRule := by
  refine ⟨fun n hn => by omega, fun a b shift => ?_⟩
  intro d truncated new
  have hle : new ≤ max a b := moveToward_le a b shift
  refine ⟨?_, le_moveToward a b shift, hle, fun ha hb => hle.trans (max_le ha hb), fun h => ?_,
    moveToward_reaches b shift a⟩
  · rw [moveToward_cast, stepToward_eq]
  · subst h
    exact moveToward_shift_zero a b

end Sys2Proof.Machine
end

section
/-! SUPPORT. The timers that end, or have time left (R70, R82, R100, R101, R120). -/

namespace Sys2Proof.Machine

variable {s : State} {l : LineNo} {i : EntryNo} {k : SlotNo}

/-! ### BURST_TIMEOUT -/

theorem exec_burstTimeout (hleft : (s.line l).monitor.burstLeft = some 0)
    (hon : (s.line l).monitor.state = .burst ∨ (s.line l).monitor.state = .falling) :
    exec (.burstTimeout l) s = .next (upGrant (burstTimesOut l s)) :=
  congrArg _ (if_pos ⟨ranOut_eq_true.mpr hleft, bursting_iff.mpr hon⟩)

theorem exec_burstTimeout_waits (h : (s.line l).monitor.burstLeft ≠ some 0) : exec (.burstTimeout l) s = .next s :=
  congrArg _ (if_neg fun ⟨hleft, _⟩ => h (ranOut_eq_true.mp hleft))

/-- The monitor whose burst timeout ran out (R70). -/
def Monitor.timedOut (m : Monitor) : Monitor := { m with long := m.fast, state := .quiet, count := 0, burstLeft := none }

/-- The floor of a line reported quiet again, the idle timer of a holder started afresh (R139). -/
def Line.floorQuieted (v : Line) : Floor :=
  { v.floor with
    busy := false
    idle := match v.floor.state with
      | .held _ => if v.record.floorIdle = 0 then .stopped else .running (v.record.floorIdle * 1000)
      | _ => v.floor.idle }

/-- A burst timeout reports the end of the burst and changes one line alone (R70). -/
theorem burstTimesOut_effect (l : LineNo) (s : State) :
    ∃ (before : List Mark) (loss : Word32) (m : LineSummary) (d : Told),
      burstTimesOut l s = (s.setLine l ((s.line l).reported
        (before ++ [{ offset := (s.line l).ring.newest, stamp := s.unitTime, kind := .burstEnd, arg := 1 }]) loss
        (s.line l).monitor.timedOut m (s.line l).floorQuieted)).told d
      ∧ m.has .burstEnd = true := by
  obtain ⟨before, loss, m, d, hends, hm⟩ :=
    burstEnds_effect l 1 (s.setLine l { s.line l with monitor := (s.line l).monitor.timedOut })
  rw [setLine_line_same, setLine_setLine] at hends
  refine ⟨before, loss, m, d, ?_, hm⟩
  change floorQuiet l (burstEnds l 1 (s.setLine l { s.line l with monitor := (s.line l).monitor.timedOut })) = _
  rw [hends, floorQuiet_effect, told_line, setLine_line_same, told_setLine, setLine_setLine]
  rfl

/-! ### HOLDOFF_EXPIRY -/

/-- The line once a holdoff of an entry has been looked at: ended where it ran out, else kept (R82). -/
def Line.holdoffEnded (u : Line) (i : EntryNo) : Line :=
  if (u.pair i).holdoff = some 0 then u.setPair i { u.pair i with holdoff := none } else u

theorem exec_holdoffExpiry (i : EntryNo) (l : LineNo) (s : State) :
    exec (.holdoffExpiry i l) s = .next (s.setLine l ((s.line l).holdoffEnded i)) := by
  unfold Line.holdoffEnded
  split
  · next h => exact congrArg _ (if_pos (ranOut_eq_true.mpr h))
  · next h => exact (congrArg _ (if_neg (mt ranOut_eq_true.mp h))).trans (by rw [setLine_self])

theorem holdoffEnded_pair (h : ((s.line l).pair i).holdoff = some 0) :
    ((s.line l).holdoffEnded i).pair i = { (s.line l).pair i with holdoff := none } := by
  rw [Line.holdoffEnded, if_pos h, setPair_pair_same]

theorem holdoffEnded_waits (h : ((s.line l).pair i).holdoff ≠ some 0) : (s.line l).holdoffEnded i = s.line l := if_neg h

theorem holdoffEnded_pair_ne {j : EntryNo} (h : j ≠ i) (u : Line) : (u.holdoffEnded i).pair j = u.pair j := by
  unfold Line.holdoffEnded
  split
  · exact setPair_pair_ne u _ h
  · rfl

theorem holdoffEnded_watch (u : Line) (i : EntryNo) :
    u.holdoffEnded i = { u with watch := (u.holdoffEnded i).watch } := by
  unfold Line.holdoffEnded
  split <;> rfl

/-! ### FILL_LIMIT_EXPIRY -/

theorem exec_fillLimitExpiry (hfilling : (s.slot k).state = .filling) (hleft : (s.slot k).fillLeft = some 0) :
    exec (.fillLimitExpiry k) s = .next (upGrant (completeSlot k true s)) :=
  congrArg _ (if_pos ⟨hfilling, ranOut_eq_true.mpr hleft⟩)

theorem exec_fillLimitExpiry_waits (h : (s.slot k).state ≠ .filling ∨ (s.slot k).fillLeft ≠ some 0) :
    exec (.fillLimitExpiry k) s = .next s :=
  congrArg _ (if_neg fun ⟨hfilling, hleft⟩ => h.elim (· hfilling) (· (ranOut_eq_true.mp hleft)))

/-! ### GATHER_TIMER_EXPIRY -/

theorem exec_gatherTimerExpiry {left : Nat} (h : (s.line l).gather = some left) (hend : left < 4608) :
    exec (.gatherTimerExpiry l) s = .next (upGrant (s.setLine l { s.line l with settled := true, gather := none })) :=
  congrArg _ (if_pos (endsThisMs_eq_true.mpr ⟨left, h, hend⟩))

theorem exec_gatherTimerExpiry_waits (h : ∀ left, (s.line l).gather = some left → 4608 ≤ left) :
    exec (.gatherTimerExpiry l) s = .next s :=
  congrArg _ (if_neg fun hends => by
    obtain ⟨left, hleft, hend⟩ := endsThisMs_eq_true.mp hends
    exact absurd hend (Nat.not_lt.mpr (h left hleft)))

/-- Settles O56, timer by timer. -/
theorem timersEnd : Obligations.TimersEnd := by
  refine ⟨fun s l => ?_, fun s l h => exec_burstTimeout_waits h, fun s i l => ?_,
    fun s k => ⟨exec_fillLimitExpiry, exec_fillLimitExpiry_waits⟩,
    fun s l => ⟨fun left h hend => exec_gatherTimerExpiry h hend, exec_gatherTimerExpiry_waits⟩⟩
  · intro v hleft hon
    obtain ⟨before, loss, m, d, heffect, hm⟩ := burstTimesOut_effect l s
    have hline := congrArg (·.line l) heffect
    simp only [told_line, setLine_line_same] at hline
    refine ⟨_, exec_burstTimeout hleft hon, ?_⟩
    rw [hline]
    refine ⟨rfl, List.getLast?_concat, hm, rfl, rfl, fun j hj => ?_, ?_, ?_⟩
    · rw [heffect, told_line, setLine_line_ne _ _ hj]
    · rw [heffect, told_slots, setLine_slots]
    · rw [heffect, told_sessions, setLine_sessions]
  · refine ⟨_, exec_holdoffExpiry i l s, ?_⟩
    rw [setLine_line_same]
    refine ⟨holdoffEnded_pair, fun h => ?_, fun j hj => holdoffEnded_pair_ne hj _, ?_⟩
    · rw [holdoffEnded_waits h, setLine_self]
    · exact congrArg (s.setLine l) (holdoffEnded_watch _ i)

end Sys2Proof.Machine
end

section
/-! SUPPORT. SNAPSHOT FREE and SNAPSHOT TAKE (R97 to R99, R102, R105): the own part of each request by the state of the
slot, and of the line, that it names. -/

namespace Sys2Proof.Machine

variable {s : State} {rq : Request} {rest : List Frame} {l : LineNo} {k : SlotNo}

/-! ### SNAPSHOT FREE -/

theorem snapshotFree_outOfRange (h : 8 ≤ numAt rq.body 0 1) :
    snapshotFree rq s = refuse .snapshotFree rq .outOfRange s := by
  have hn : slotOf? (numAt rq.body 0 1) = none := dif_neg (by omega)
  simp only [snapshotFree, hn]

theorem snapshotFree_complete (hk : numAt rq.body 0 1 = k.val) (h : (s.slot k).state = .complete) :
    snapshotFree rq s = Answer.of .ok [] (s.setSlot k .reset) := by
  simp only [snapshotFree, slotOf?_of hk, h]

theorem snapshotFree_filling (hk : numAt rq.body 0 1 = k.val) (h : (s.slot k).state = .filling) :
    snapshotFree rq s = refuse .snapshotFree rq .busy s := by
  simp only [snapshotFree, slotOf?_of hk, h]

theorem snapshotFree_free (hk : numAt rq.body 0 1 = k.val) (h : (s.slot k).state = .free) :
    snapshotFree rq s = Answer.of .ok [] s := by
  simp only [snapshotFree, slotOf?_of hk, h]

theorem snapshotFree_notShort (h : 1 ≤ rq.body.length) : RequestKind.snapshotFree.bodyShort rq.body = false := by
  have hn : ¬ rq.body.length < 1 := by omega
  simp [RequestKind.bodyShort, RequestKind.fixedBytes, RequestKind.variableBytes, hn]

/-- Settles O38. -/
theorem snapshotFreeBySlotState : Obligations.SnapshotFreeBySlotState := by
  refine ⟨fun s rq rest ho hb hl hn => ?_, fun s rq rest ha => ⟨fun h => ?_, fun k hk => ⟨fun h => ?_, fun h => ?_,
    fun h => ?_⟩⟩⟩
  · exact congrArg _
      (serve_refused snapshotFree ho (by decide) (engineCheck_denied rfl rfl (snapshotFree_notShort hb) hl hn))
  · exact congrArg _ (serve_refuse ha (by decide) (snapshotFree_outOfRange h))
  · exact congrArg _ (serve_answer ha (by decide) (snapshotFree_complete hk ((congrArg _ (taken_slot ..)).trans h)))
  · exact congrArg _ (serve_refuse ha (by decide) (snapshotFree_filling hk ((congrArg _ (taken_slot ..)).trans h)))
  · exact congrArg _ (serve_answer ha (by decide) (snapshotFree_free hk ((congrArg _ (taken_slot ..)).trans h)))

/-! ### SNAPSHOT TAKE -/

theorem clamp_slotBytes (n : Nat) :
    clamp 0 Config.slotBytes n = { val := min 8192 n, clamped := decide (8192 < n) } := by
  simp [clamp, Config.slotBytes]

theorem okOr_eq {b : Bool} {p : Prop} [Decidable p] (h : b = false ↔ p) : okOr b = if p then .ok else .adjusted := by
  cases b with
  | false => rw [if_pos (h.mp rfl)]; rfl
  | true => rw [if_neg (fun hp => nomatch h.mpr hp)]; rfl

/-- The trigger of a SNAPSHOT TAKE (R102). -/
def takeTrigger (l : LineNo) (rq : Request) : Trigger :=
  { line := l, cause := .request, pre := min 8192 (numAt rq.body 1 2), post := min 8192 (numAt rq.body 3 2), others := 0 }

theorem snapshotTake_off (hl : numAt rq.body 0 1 = l.val) (h : (s.line l).state = .off) :
    snapshotTake rq s = refuse .snapshotTake rq .lineOff s := by
  simp only [snapshotTake, onLine_of hl, h]

theorem snapshotTake_notLive (hl : numAt rq.body 0 1 = l.val) (ho : (s.line l).state ≠ .off)
    (h : (s.line l).state ≠ .live) : snapshotTake rq s = refuse .snapshotTake rq .notLive s := by
  cases hst : (s.line l).state with
  | off => exact absurd hst ho
  | live => exact absurd hst h
  | queued | measuring | dark | loop => simp only [snapshotTake, onLine_of hl, hst]

theorem snapshotTake_live (hl : numAt rq.body 0 1 = l.val) (h : (s.line l).state = .live) :
    snapshotTake rq s =
      takeSnapshot l (clamp 0 Config.slotBytes (numAt rq.body 1 2)) (clamp 0 Config.slotBytes (numAt rq.body 3 2)) s := by
  simp only [snapshotTake, onLine_of hl, h]

theorem snapshotTake_retriggers (hl : numAt rq.body 0 1 = l.val) (h : (s.line l).state = .live)
    (hk : s.fillingSlot? l = some k) :
    snapshotTake rq s = Answer.of .busy (beBytes 1 k.val)
      (s.setSlot k { s.slot k with retriggers := min ((s.slot k).retriggers + 1) 65535 }) := by
  have hs : s.settleTrigger (takeTrigger l rq) = .filling k := settleTrigger_filling hk
  have hf := fireTrigger_filling hs
  simp only [takeTrigger] at hs hf
  simp only [snapshotTake_live hl h, takeSnapshot, clamp_slotBytes, hs, hf, Nat.add_zero]

theorem snapshotTake_misses (hl : numAt rq.body 0 1 = l.val) (h : (s.line l).state = .live)
    (hs : s.settleTrigger (takeTrigger l rq) = .missed) :
    snapshotTake rq s = Answer.of .noRoom (beBytes 1 255) (raiseUnit .snapshotMissed s) := by
  have hf := fireTrigger_missed hs
  simp only [takeTrigger] at hs hf
  simp only [snapshotTake_live hl h, takeSnapshot, clamp_slotBytes, hs, hf]

theorem snapshotTake_takes (hl : numAt rq.body 0 1 = l.val) (h : (s.line l).state = .live)
    (hs : s.settleTrigger (takeTrigger l rq) = .taken k) :
    snapshotTake rq s = Answer.of
      (if numAt rq.body 1 2 ≤ 8192 ∧ numAt rq.body 3 2 ≤ 8192 ∧ (takeTrigger l rq).reducedPost = numAt rq.body 3 2
        then .ok else .adjusted)
      (beBytes 1 k.val) (takeSlot k (takeTrigger l rq) s) := by
  have hf := fireTrigger_taken hs
  have hstatus : okOr (decide (8192 < numAt rq.body 1 2) || decide (8192 < numAt rq.body 3 2)
        || decide ((takeTrigger l rq).reducedPost ≠ (takeTrigger l rq).post))
      = if numAt rq.body 1 2 ≤ 8192 ∧ numAt rq.body 3 2 ≤ 8192 ∧ (takeTrigger l rq).reducedPost = numAt rq.body 3 2
        then .ok else .adjusted := by
    have hp : (takeTrigger l rq).post = min 8192 (numAt rq.body 3 2) := rfl
    refine okOr_eq ?_
    simp only [hp, Bool.or_eq_false_iff, decide_eq_false_iff_not, not_not, not_lt]
    omega
  rw [← hstatus]
  simp only [takeTrigger] at hs hf
  simp only [snapshotTake_live hl h, takeSnapshot, clamp_slotBytes, hs, hf]
  rfl

/-- A slot taken when a post byte is wanted: its record and the mark (R99). -/
theorem takeSlot_fills {g : Trigger} (h : g.reducedPost ≠ 0) :
    takeSlot k g s = appendMark g.line .snapshot k.val (s.setSlot k (s.triggeredSlot g)) := by
  rw [takeSlot, if_neg h]

/-- A slot taken when no post byte is wanted: it is completed at once (R99). -/
theorem takeSlot_completes {g : Trigger} (h : g.reducedPost = 0) :
    takeSlot k g s = raisePlain g.line .snapshotDone
      ((appendMark g.line .snapshot k.val (s.setSlot k (s.triggeredSlot g))).setSlot k
        { s.triggeredSlot g with state := .complete, fillLeft := none }) := by
  have hslot : (appendMark g.line .snapshot k.val (s.setSlot k (s.triggeredSlot g))).slot k = s.triggeredSlot g := by
    obtain ⟨before, loss, e, -⟩ := appendMark_effect g.line .snapshot k.val (s.setSlot k (s.triggeredSlot g))
    rw [e, setLine_slot, setSlot_slot_same]
  simp only [takeSlot, if_pos h, completeSlot, hslot]
  rfl

/-- Which slot a trigger takes, as claims say it: the lowest FREE one, or the oldest COMPLETE one under RECYCLE (R98). -/
theorem settleTrigger_takes {g : Trigger} (hn : s.fillingSlot? g.line = none)
    (h : (s.slot k).state = .free ∧ (∀ j, j < k → (s.slot j).state ≠ .free)
      ∨ s.unit.policy = .recycle ∧ (∀ j, (s.slot j).state ≠ .free) ∧ (s.slot k).state = .complete
        ∧ ∀ j, (s.slot j).state = .complete →
            (s.slot k).stamp.toNat < (s.slot j).stamp.toNat ∨ (s.slot k).stamp = (s.slot j).stamp ∧ k ≤ j) :
    s.settleTrigger g = .taken k := by
  rcases h with hfree | ⟨hp, hfree, hc, hmin⟩
  · exact settleTrigger_free hn (freeSlot?_first.mpr hfree)
  · exact settleTrigger_recycled hn (freeSlot?_none.mpr hfree) hp (oldestComplete?_eq hc hmin)

/-- Settles O39. -/
theorem snapshotTakeSettles : Obligations.SnapshotTakeSettles := by
  refine ⟨fun s l k => fillingSlot?_first, fun ring o n => ⟨rfl, rfl⟩, fun s rq rest l ha hl => ?_⟩
  extract_lets u ring asked wanted pre post k'
  have hline : (u.line l).state = (s.line l).state := congrArg (·.state) (taken_line s rq rest l)
  have hfilling : u.fillingSlot? l = s.fillingSlot? l := fillingSlot?_congr (taken_slots s rq rest)
  have hslot : ∀ k, u.slot k = s.slot k := taken_slot s rq rest
  have hunit : u.unit = s.unit := taken_unit s rq rest
  refine ⟨fun h => ?_, fun ho hn => ?_, fun k h hk => ?_, fun h hn hfree hm => ?_, fun k h hn hk => ?_⟩
  · exact congrArg _ (serve_refuse ha (by decide) (snapshotTake_off hl (hline.trans h)))
  · exact congrArg _ (serve_refuse ha (by decide)
      (snapshotTake_notLive hl (fun e => ho (hline.symm.trans e)) fun e => hn (hline.symm.trans e)))
  · have hown := snapshotTake_retriggers hl (hline.trans h) (hfilling.trans hk)
    rw [hslot] at hown
    exact congrArg _ (serve_answer ha (by decide) hown)
  · have hcomplete : u.unit.policy = .keep ∨ u.oldestComplete? = none := by
      rw [hunit]
      exact hm.imp_right fun hall => oldestComplete?_none fun k hc => by rw [hslot, hall k] at hc; cases hc
    have hs : u.settleTrigger (takeTrigger l rq) = .missed :=
      settleTrigger_missed (hfilling.trans hn) (freeSlot?_none.mpr fun k => by rw [hslot]; exact hfree k) hcomplete
    exact congrArg _ (serve_answer ha (by decide) (snapshotTake_misses hl (hline.trans h) hs))
  · have hs : u.settleTrigger (takeTrigger l rq) = .taken k :=
      settleTrigger_takes (hfilling.trans hn) (by simpa only [hslot, hunit] using hk)
    have hpost : (takeTrigger l rq).reducedPost = post := reducedPost_eq _
    intro t
    have htaken : u.triggeredSlot (takeTrigger l rq) = k' := by
      simp only [State.triggeredSlot, hpost, u, taken_line, taken_unitTime, taken_unit]
      rfl
    have hown := snapshotTake_takes hl (hline.trans h) hs
    rw [hpost] at hown
    refine congrArg _ (serve_answer ha (by decide) (hown.trans (congrArg (Answer.of _ _) ?_)))
    by_cases hz : post = 0
    · rw [takeSlot_completes (hpost.trans hz), if_pos hz, htaken]
      rfl
    · rw [takeSlot_fills (fun e => hz (hpost.symm.trans e)), if_neg hz, htaken]
      rfl

end Sys2Proof.Machine
end

section
/-! SUPPORT. The slots of the Snapshot Store in order (R95, R98, R101): changes under which no slot begins to be FILLING, and
no line with a FILLING slot leaves LIVE. -/

namespace Sys2Proof.Machine

variable {s t x : State} {l : LineNo} {k : SlotNo}

/-! ### The law taken apart -/

/-- A slot is FILLING for a line. -/
def State.fills (s : State) (l : LineNo) : Prop := ∃ k, (s.slot k).state = .filling ∧ (s.slot k).line = l

/-- The law of slots but for what it says of lines: each slot in order, at most one FILLING for a line. -/
def State.slotsInOrder (s : State) : Prop :=
  (∀ k, (s.slot k).law)
    ∧ ∀ j k, (s.slot j).state = .filling → (s.slot k).state = .filling → (s.slot j).line = (s.slot k).line → j = k

/-- No line that waits for the Rate Probe has a FILLING slot. -/
def State.queueUnfilled (s : State) : Prop := ∀ l, l ∈ s.probeQueue → ¬ s.fills l

theorem slotsLaw_iff : s.slotsLaw ↔ s.slotsInOrder ∧ ∀ l, s.fills l → (s.line l).state = .live := by
  constructor
  · rintro ⟨hlaw, hlive, hone⟩
    refine ⟨⟨hlaw, hone⟩, ?_⟩
    rintro _ ⟨k, hk, rfl⟩
    exact hlive k hk
  · rintro ⟨⟨hlaw, hone⟩, hlive⟩
    exact ⟨hlaw, fun k hk => hlive _ ⟨k, hk, rfl⟩, hone⟩

/-- A line outside LIVE has no FILLING slot (R101). -/
theorem State.slotsLaw.unfilled (h : s.slotsLaw) (hl : (s.line l).state ≠ .live) : ¬ s.fills l := fun hf => by
  obtain ⟨-, hlive⟩ := slotsLaw_iff.mp h
  exact hl (hlive l hf)

/-- Slots in order, none of them FILLING, obey the law whatever the lines do. -/
theorem slotsLaw_of_unfilled (h : s.slotsInOrder) (hn : ∀ l, ¬ s.fills l) : s.slotsLaw :=
  slotsLaw_iff.mpr ⟨h, fun l hf => absurd hf (hn l)⟩

theorem slot_congr (h : t.slots = s.slots) (k : SlotNo) : t.slot k = s.slot k := by rw [State.slot, h, State.slot]

theorem fills_congr (h : t.slots = s.slots) : t.fills l ↔ s.fills l := by
  simp only [State.fills, slot_congr h]

theorem slotsInOrder_congr (h : t.slots = s.slots) : t.slotsInOrder ↔ s.slotsInOrder := by
  simp only [State.slotsInOrder, slot_congr h]

theorem fillingSlot?_unfilled (h : s.fillingSlot? l = none) : ¬ s.fills l := fun ⟨k, hk, hl⟩ =>
  fillingSlot?_none.mp h k ⟨hk, hl⟩

/-! ### Changes that begin no FILLING slot -/

/-- From `s` to `t` slots in order stay so, no line gets a FILLING slot, a LIVE line that has one stays LIVE, and no line
that has one joins the probe queue. -/
structure State.KeepsFills (s t : State) : Prop where
  order : s.slotsInOrder → t.slotsInOrder
  fills : ∀ l, t.fills l → s.fills l
  live : ∀ l, (s.line l).state = .live → t.fills l → (t.line l).state = .live
  queue : ∀ l, l ∈ t.probeQueue → t.fills l → l ∈ s.probeQueue

namespace State.KeepsFills

theorem slotsLaw (h : s.KeepsFills t) (hs : s.slotsLaw) : t.slotsLaw := by
  obtain ⟨horder, hlive⟩ := slotsLaw_iff.mp hs
  exact slotsLaw_iff.mpr ⟨h.order horder, fun l hf => h.live l (hlive l (h.fills l hf)) hf⟩

theorem queueUnfilled (h : s.KeepsFills t) (hs : s.queueUnfilled) : t.queueUnfilled := fun l hq hf =>
  hs l (h.queue l hq hf) (h.fills l hf)

theorem unfilled (h : s.KeepsFills t) (hl : ¬ s.fills l) : ¬ t.fills l := mt (h.fills l) hl

theorem trans (h : s.KeepsFills t) (k : t.KeepsFills x) : s.KeepsFills x where
  order := fun hs => k.order (h.order hs)
  fills := fun l hf => h.fills l (k.fills l hf)
  live := fun l hl hf => k.live l (h.live l hl (k.fills l hf)) hf
  queue := fun l hq hf => h.queue l (k.queue l hq hf) (k.fills l hf)

/-- Slots change one by one, each FILLING one from a FILLING one of the same line, and lines beside their states. -/
theorem ofSlots (hlaw : ∀ k, (s.slot k).law → (t.slot k).law)
    (hfill : ∀ k, (t.slot k).state = .filling → (s.slot k).state = .filling ∧ (t.slot k).line = (s.slot k).line)
    (hl : ∀ l, (t.line l).state = (s.line l).state) (hq : t.probeQueue = s.probeQueue) : s.KeepsFills t where
  order := fun ⟨hlaws, hone⟩ => by
    refine ⟨fun k => hlaw k (hlaws k), fun j k hj hk he => ?_⟩
    obtain ⟨hj, hjl⟩ := hfill j hj
    obtain ⟨hk, hkl⟩ := hfill k hk
    exact hone j k hj hk (by rw [← hjl, he, hkl])
  fills := by
    rintro l ⟨k, hk, hkl⟩
    obtain ⟨hs, he⟩ := hfill k hk
    exact ⟨k, hs, he.symm.trans hkl⟩
  live := fun l h _ => (hl l).trans h
  queue := fun l h _ => hq ▸ h

/-- No slot changes, and no line its state. -/
theorem still (hk : t.slots = s.slots) (hl : ∀ l, (t.line l).state = (s.line l).state)
    (hq : t.probeQueue = s.probeQueue) : s.KeepsFills t :=
  ofSlots (fun k h => slot_congr hk k ▸ h) (fun k h => by rw [slot_congr hk] at h ⊢; exact ⟨h, rfl⟩) hl hq

/-- Nothing changes in slots, lines and probe queue. -/
theorem beside (hk : t.slots = s.slots) (hl : t.lines = s.lines) (hq : t.probeQueue = s.probeQueue) : s.KeepsFills t :=
  still hk (fun l => by rw [State.line, hl, State.line]) hq

theorem refl (s : State) : s.KeepsFills s := beside rfl rfl rfl

/-- What follows a change beside slots, lines and probe queue. -/
theorem after (k : t.KeepsFills x) (hk : t.slots = s.slots) (hl : t.lines = s.lines) (hq : t.probeQueue = s.probeQueue) :
    s.KeepsFills x := (beside hk hl hq).trans k

/-- One line changes beside its state. -/
theorem line {v : Line} (h : v.state = (s.line l).state) : s.KeepsFills (s.setLine l v) := by
  refine still rfl (fun j => ?_) rfl
  rw [setLine_line]
  split
  · next hj => rw [h, hj]
  · rfl

theorem modLine {f : Line → Line} (h : ∀ u, (f u).state = u.state := by exact fun _ => rfl) :
    s.KeepsFills (s.modLine l f) := line (h _)

/-- One line changes beside its state, and something is told. -/
theorem line_told {v : Line} (h : v.state = (s.line l).state) (d : Told) : s.KeepsFills ((s.setLine l v).told d) :=
  (line h).trans (beside rfl rfl rfl)

theorem mapLines {f : LineNo → Line → Line} (h : ∀ l, (f l (s.line l)).state = (s.line l).state) :
    s.KeepsFills (s.mapLines f) :=
  still (by simp) (fun l => by rw [mapLines_line]; exact h l) (by simp)

theorem foldl {α : Type} {f : State → α → State} (h : ∀ a (t : State), t.KeepsFills (f t a)) (as : List α) (s : State) :
    s.KeepsFills (as.foldl f s) := by
  induction as generalizing s with
  | nil => exact refl s
  | cons a as ih => exact (h a s).trans (ih _)

theorem forLines {f : LineNo → State → State} (h : ∀ l (t : State), t.KeepsFills (f l t)) :
    s.KeepsFills (s.forLines f) := foldl h _ s

/-- A line without a FILLING slot may go where it likes, the probe queue included. -/
theorem moves (hf : ¬ s.fills l) (hk : t.slots = s.slots) (hl : ∀ j, j ≠ l → t.line j = s.line j)
    (hq : ∀ j, j ∈ t.probeQueue → j ∈ s.probeQueue ∨ j = l) : s.KeepsFills t where
  order := (slotsInOrder_congr hk).mpr
  fills := fun _ => (fills_congr hk).mp
  live := fun j h hj => by
    have hne : j ≠ l := fun e => hf (e ▸ (fills_congr hk).mp hj)
    rw [hl j hne]
    exact h
  queue := fun j h hj => (hq j h).resolve_right fun e => hf (e ▸ (fills_congr hk).mp hj)

/-- A line without a FILLING slot changes as it likes. -/
theorem put (hf : ¬ s.fills l) (v : Line) : s.KeepsFills (s.setLine l v) :=
  moves hf rfl (fun _ hj => setLine_line_ne s v hj) fun _ => .inl

/-- An event that cannot occur changes nothing (assumption log 1). -/
theorem guarded {c : Prop} [Decidable c] (h : s.KeepsFills t) : s.KeepsFills (if c then t else s) := by
  split
  · exact h
  · exact refl s

/-- One slot is written over in order, FILLING at most where it was so. -/
theorem setSlot {q : Slot} (hlaw : (s.slot k).law → q.law)
    (hfill : q.state = .filling → (s.slot k).state = .filling ∧ q.line = (s.slot k).line) :
    s.KeepsFills (s.setSlot k q) := by
  refine ofSlots (fun j h => ?_) (fun j h => ?_) (fun _ => rfl) rfl
  · rw [setSlot_slot]
    split
    · next hj => exact hlaw (hj ▸ h)
    · exact h
  · rw [setSlot_slot] at h ⊢
    split at h
    · next hj => subst hj; simpa using hfill h
    · next hj => rw [if_neg hj]; exact ⟨h, rfl⟩

end State.KeepsFills

/-! ### Alerts and frames -/

theorem keepsFills_raiseUnit (e : UnitEvent) (s : State) : s.KeepsFills (raiseUnit e s) := by
  obtain ⟨d, h, -⟩ := raiseUnit_effect e s
  rw [h]
  exact .beside rfl rfl rfl

theorem keepsFills_raiseLine (l : LineNo) (e : LineEvent) (ws : BitVec 64) (rs : BitVec 3) (a : Nat) (s : State) :
    s.KeepsFills (raiseLine l e ws rs a s) := by
  obtain ⟨o, d, h, -⟩ := raiseLine_effect l e ws rs a s
  rw [h]
  exact .line_told (by rfl) d

theorem keepsFills_raisePlain (l : LineNo) (e : LineEvent) (s : State) : s.KeepsFills (raisePlain l e s) :=
  keepsFills_raiseLine l e 0 0 0 s

theorem keepsFills_appendMark (l : LineNo) (k : MarkKind) (a : Nat) (s : State) : s.KeepsFills (appendMark l k a s) := by
  obtain ⟨_, _, h, -⟩ := appendMark_effect l k a s
  rw [h]
  exact .line rfl

theorem keepsFills_grantData (s : State) : s.KeepsFills (grantData s) := .beside (by simp) (by simp) (by simp)

theorem keepsFills_upGrant (s : State) : s.KeepsFills (upGrant s) := .beside (by simp) (by simp) (by simp)

theorem keepsFills_pushResponse (f : OutFrame) (s : State) : s.KeepsFills (s.pushResponse f) :=
  .beside (by simp) (by simp) (by simp)

theorem keepsFills_mapSessions (f : SessionNo → Session → Session) (s : State) : s.KeepsFills (s.mapSessions f) :=
  .beside (by simp) (by simp) (by simp)

theorem keepsFills_placeTest (f : OutFrame) (s : State) : s.KeepsFills (placeTest f s) := by
  unfold placeTest
  split
  · exact keepsFills_pushResponse f s
  · exact .beside rfl rfl rfl

theorem keepsFills_abortTest (l : LineNo) (s : State) : s.KeepsFills (abortTest l s) := by
  unfold abortTest
  split
  · exact .refl s
  · exact keepsFills_placeTest _ s

theorem State.KeepsFills.granted (h : s.KeepsFills t) : s.KeepsFills (upGrant t) := h.trans (keepsFills_upGrant t)

/-! ### Slots completed and filled -/

/-- A FILLING slot is in order once completed: truncated while it wants a byte (R100, R101). -/
theorem Slot.law.completed {r : Slot} (h : r.law) (hf : r.state = .filling) :
    Slot.law { r with state := .complete, truncated := true, fillLeft := none } := by
  obtain ⟨hdata, hheld, hfits, hretriggers, hstate⟩ := h
  rw [hf] at hstate
  obtain ⟨hwants, -, -, hcause⟩ := hstate
  exact ⟨hdata, hheld, hfits, hretriggers, iff_of_true rfl hwants, rfl, hcause⟩

/-- A byte captured for a FILLING slot that wants more after it (R100). -/
theorem Slot.law.takes {r : Slot} (h : r.law) (hf : r.state = .filling) (b : Byte) (hw : r.postHeld + 1 < r.postTarget) :
    Slot.law { r with postHeld := r.postHeld + 1, data := r.data ++ [b] } := by
  obtain ⟨hdata, -, hfits, hretriggers, hstate⟩ := h
  rw [hf] at hstate
  obtain ⟨-, htruncated, hleft, hcause⟩ := hstate
  refine ⟨?_, hw.le, hfits, hretriggers, ?_⟩
  · rw [List.length_append, hdata, List.length_singleton, Nat.add_assoc]
  · rw [hf]
    exact ⟨hw, htruncated, hleft, hcause⟩

/-- The last byte that a FILLING slot wants completes it (R100). -/
theorem Slot.law.takesLast {r : Slot} (h : r.law) (hf : r.state = .filling) (b : Byte) (hw : r.postTarget ≤ r.postHeld + 1) :
    Slot.law { r with
      state := .complete, postHeld := r.postHeld + 1, data := r.data ++ [b], truncated := false, fillLeft := none } := by
  obtain ⟨hdata, -, hfits, hretriggers, hstate⟩ := h
  rw [hf] at hstate
  obtain ⟨hwants, -, -, hcause⟩ := hstate
  refine ⟨?_, hwants, hfits, hretriggers, iff_of_false nofun (not_lt.mpr hw), rfl, hcause⟩
  rw [List.length_append, hdata, List.length_singleton, Nat.add_assoc]

theorem Slot.law.retriggers_min {r : Slot} (h : r.law) (hf : r.state = .filling) (n : Nat) :
    Slot.law { r with retriggers := min n 65535 } := by
  obtain ⟨hdata, hheld, hfits, -, hstate⟩ := h
  rw [hf] at hstate
  refine ⟨hdata, hheld, hfits, min_le_right _ _, ?_⟩
  rw [hf]
  exact hstate

theorem Slot.reset_law : Slot.reset.law :=
  ⟨rfl, le_rfl, Nat.zero_le _, Nat.zero_le _, rfl⟩

theorem keepsFills_truncated (h : (s.slot k).state = .filling) : s.KeepsFills (completeSlot k true s) :=
  (State.KeepsFills.setSlot (fun hlaw => hlaw.completed h) nofun).trans (keepsFills_raisePlain _ _ _)

theorem keepsFills_truncateFor (l : LineNo) (s : State) : s.KeepsFills (truncateFor l s) := by
  unfold truncateFor
  split
  · exact .refl s
  · next k hk => exact keepsFills_truncated (fillingSlot?_eq_some hk).1

theorem completeSlot_slot (k j : SlotNo) (b : Bool) (s : State) : (completeSlot k b s).slot j =
    if j = k then { s.slot k with state := .complete, truncated := b, fillLeft := none } else s.slot j := by
  obtain ⟨m, d, h⟩ := completeSlot_effect k b s
  rw [h, told_slot, setLine_slot, setSlot_slot]

/-- With its FILLING slot truncated a line has none (R98, R101). -/
theorem truncateFor_unfilled (h : s.slotsInOrder) (l : LineNo) : ¬ (truncateFor l s).fills l := by
  obtain ⟨-, hone⟩ := h
  unfold truncateFor
  split
  · next hn => exact fillingSlot?_unfilled hn
  · next k hk =>
    obtain ⟨hf, hl⟩ := fillingSlot?_eq_some hk
    rintro ⟨j, hj, hjl⟩
    rw [completeSlot_slot] at hj hjl
    split at hj
    · cases hj
    · next hne =>
      rw [if_neg hne] at hjl
      exact hne (hone j k hj hf (hjl.trans hl.symm))

theorem keepsFills_slotByte (l : LineNo) (b : Byte) (s : State) : s.KeepsFills (slotByte l b s) := by
  unfold slotByte
  split
  · exact .refl s
  · next k hk =>
    obtain ⟨hf, -⟩ := fillingSlot?_eq_some hk
    simp only
    split
    · next hw =>
      simp only [completeSlot, setSlot_slot_same, setSlot_setSlot]
      exact (State.KeepsFills.setSlot (fun h => h.takesLast hf b hw) nofun).trans (keepsFills_raisePlain _ _ _)
    · next hw => exact .setSlot (fun h => h.takes hf b (not_le.mp hw)) fun _ => ⟨hf, rfl⟩

end Sys2Proof.Machine
end

section
/-! SUPPORT. A trigger (R97 to R99) on a LIVE line keeps the slots in order. -/

namespace Sys2Proof.Machine

variable {s t : State} {l : LineNo} {k : SlotNo} {g : Trigger}

/-- The last `n` bytes of a ring that holds as many (R99). -/
theorem read_last_length {r : Ring} (h : r.bytes.length = r.held) {n : Nat} (hn : n ≤ r.held) :
    (r.read (r.newest - n) n).length = n := by
  unfold Ring.held at h hn
  rw [Ring.read, List.length_take, List.length_drop, h]
  omega

/-- The record that a trigger writes is in order while it wants a byte (R99). -/
theorem triggeredSlot_law (hr : (s.line g.line).ring.bytes.length = (s.line g.line).ring.held)
    (hpre : g.pre ≤ Config.slotBytes) (hw : g.reducedPost ≠ 0) : (s.triggeredSlot g).law := by
  have hn : min g.pre (s.line g.line).ring.held ≤ (s.line g.line).ring.held := min_le_right _ _
  refine ⟨read_last_length hr hn, Nat.zero_le _, ?_, min_le_right _ _, Nat.pos_of_ne_zero hw, rfl, rfl, rfl⟩
  simp only [State.triggeredSlot, reducedPost_eq, Config.slotBytes] at hpre ⊢
  omega

/-- A record that wants no byte is in order completed at once (R99). -/
theorem triggeredSlot_completed_law (hr : (s.line g.line).ring.bytes.length = (s.line g.line).ring.held)
    (hpre : g.pre ≤ Config.slotBytes) (hw : g.reducedPost = 0) :
    Slot.law { s.triggeredSlot g with state := .complete, fillLeft := none } := by
  have hn : min g.pre (s.line g.line).ring.held ≤ (s.line g.line).ring.held := min_le_right _ _
  refine ⟨read_last_length hr hn, Nat.zero_le _, ?_, min_le_right _ _, iff_of_false nofun ?_, rfl, rfl⟩
  · simp only [State.triggeredSlot, reducedPost_eq, Config.slotBytes] at hpre ⊢
    omega
  · simp only [State.triggeredSlot, hw, lt_irrefl, not_false_eq_true]

/-- One slot is written in order for a LIVE line that has no other FILLING slot. -/
theorem State.slotsLaw.written (h : s.slotsLaw) {q : Slot} (hs : ∀ j, t.slot j = if j = k then q else s.slot j)
    (hst : ∀ l, (t.line l).state = (s.line l).state) (hq : q.law) (hlive : (s.line q.line).state = .live)
    (hn : ¬ s.fills q.line) : t.slotsLaw := by
  obtain ⟨hlaw, hlives, hone⟩ := h
  have hother : ∀ j, j ≠ k → t.slot j = s.slot j := fun j hj => by rw [hs, if_neg hj]
  have hself : t.slot k = q := by rw [hs, if_pos rfl]
  refine ⟨fun j => ?_, fun j hj => ?_, fun i j hi hj he => ?_⟩
  · by_cases hjk : j = k
    · rw [hjk, hself]; exact hq
    · rw [hother j hjk]; exact hlaw j
  · rw [hst]
    by_cases hjk : j = k
    · rw [hjk, hself]; exact hlive
    · rw [hother j hjk] at hj ⊢; exact hlives j hj
  · by_cases hik : i = k <;> by_cases hjk : j = k
    · rw [hik, hjk]
    · rw [hik, hself, hother j hjk] at he
      exact absurd ⟨j, hother j hjk ▸ hj, he.symm⟩ hn
    · rw [hjk, hself, hother i hik] at he
      exact absurd ⟨i, hother i hik ▸ hi, he⟩ hn
    · rw [hother i hik] at hi he
      rw [hother j hjk] at hj he
      exact hone i j hi hj he

theorem settleTrigger_taken_unfilled (h : s.settleTrigger g = .taken k) : ¬ s.fills g.line := by
  cases hf : s.fillingSlot? g.line with
  | none => exact fillingSlot?_unfilled hf
  | some j => exact nomatch (settleTrigger_filling hf).symm.trans h

theorem settleTrigger_filling_state (h : s.settleTrigger g = .filling k) : (s.slot k).state = .filling := by
  unfold State.settleTrigger at h
  split at h
  · next j hj =>
    cases h
    exact (fillingSlot?_eq_some hj).1
  · repeat' split at h
    all_goals cases h

/-- However it is settled, a trigger on a LIVE line with its ring in order and its pre length in range keeps the slots in
order (R98, R99). -/
theorem slotsLaw_fireTrigger (h : s.slotsLaw) (hr : (s.line g.line).ringLaw) (hpre : g.pre ≤ Config.slotBytes)
    (hlive : (s.line g.line).state = .live) : (fireTrigger g s).slotsLaw := by
  obtain ⟨-, hbytes, -⟩ := hr
  cases hs : s.settleTrigger g with
  | filling k =>
    have hf := settleTrigger_filling_state hs
    rw [fireTrigger_filling hs]
    exact (State.KeepsFills.setSlot (fun hlaw => hlaw.retriggers_min hf _) fun _ => ⟨hf, rfl⟩).slotsLaw h
  | missed =>
    rw [fireTrigger_missed hs]
    exact (keepsFills_raiseUnit _ s).slotsLaw h
  | taken k =>
    have hst := (steady_fireTrigger g s).state
    rw [fireTrigger_taken hs] at hst ⊢
    have hn := settleTrigger_taken_unfilled hs
    refine h.written (takeSlot_slot k · g s) hst ?_ ?_ ?_ <;> split
    · next hz => exact triggeredSlot_completed_law hbytes hpre hz
    · next hz => exact triggeredSlot_law hbytes hpre hz
    · exact hlive
    · exact hlive
    · exact hn
    · exact hn

end Sys2Proof.Machine
end

section
/-! SUPPORT. The operations of the Floor Arbiter, the Activity Monitor, the Line Units, the ports and the Attendance Monitor
that begin no FILLING slot and leave every line in its state. -/

namespace Sys2Proof.Machine

variable {s t : State} {l : LineNo}

/-! ### Floors -/

theorem keepsFills_placeNotice (f : OutFrame) (s : State) : s.KeepsFills (placeNotice f s) := by
  obtain ⟨d, h, -⟩ := placeNotice_effect f s
  rw [h]
  exact .beside rfl rfl rfl

theorem keepsFills_restartIdle (l : LineNo) (s : State) : s.KeepsFills (restartIdle l s) := by
  rw [restartIdle_effect]
  exact .line rfl

theorem keepsFills_floorQuiet (l : LineNo) (s : State) : s.KeepsFills (floorQuiet l s) := by
  rw [floorQuiet_effect]
  exact .line rfl

theorem keepsFills_becomeHolder (l : LineNo) (i : SessionNo) (s : State) : s.KeepsFills (becomeHolder l i s) := .line rfl

theorem keepsFills_noticeLost (l : LineNo) (i : SessionNo) (r : Option LostReason) (s : State) :
    s.KeepsFills (noticeLost l i r s) := by
  cases r with
  | none => exact .refl s
  | some r => exact keepsFills_placeNotice _ s

theorem keepsFills_releaseHeld (l : LineNo) (h : SessionNo) (r : Option LostReason) (e : FloorState) (s : State) :
    s.KeepsFills (releaseHeld l h r e s) := by
  obtain ⟨f, d, h, -⟩ := releaseHeld_effect l h r e s
  rw [h]
  exact .line_told (by rfl) d

theorem keepsFills_clearFloor (l : LineNo) (r : LostReason) (s : State) : s.KeepsFills (clearFloor l r s) := by
  obtain ⟨d, h, -⟩ := clearFloor_effect l r s
  rw [h]
  exact .line_told (by rfl) d

theorem keepsFills_leaveFloor (i : SessionNo) (r : Option LostReason) (s : State) : s.KeepsFills (leaveFloor i r s) := by
  obtain ⟨f, d, h⟩ := leaveFloor_effect i r s
  rw [h]
  exact .line_told (by rfl) d

theorem keepsFills_closeRecord (i : SessionNo) (r : Option LostReason) (s : State) : s.KeepsFills (closeRecord i r s) :=
  (keepsFills_leaveFloor i r s).trans (.beside rfl rfl rfl)

theorem keepsFills_settleRequest (l : LineNo) (i : SessionNo) (b : Bool) (s : State) :
    s.KeepsFills (settleRequest l i b s).state := by
  have holder := keepsFills_becomeHolder l i s
  have takenOver := fun p => holder.trans (keepsFills_noticeLost l p (some .takeover) _)
  unfold settleRequest
  split
  · exact holder
  · split
    · exact holder
    · exact takenOver _
  · split
    · exact .refl s
    · split
      · exact takenOver _
      · split
        · exact .refl s
        · exact .line rfl

/-! ### Bursts -/

theorem keepsFills_burstEnds (l : LineNo) (a : Nat) (s : State) : s.KeepsFills (burstEnds l a s) :=
  (keepsFills_appendMark l _ _ s).trans (keepsFills_raisePlain l _ _)

theorem keepsFills_burstDecays (l : LineNo) (s : State) : s.KeepsFills (burstDecays l s) :=
  ((keepsFills_burstEnds l 0 s).trans .modLine).trans (keepsFills_floorQuiet l _)

theorem keepsFills_burstTimesOut (l : LineNo) (s : State) : s.KeepsFills (burstTimesOut l s) :=
  (State.KeepsFills.trans .modLine (keepsFills_burstEnds l 1 _)).trans (keepsFills_floorQuiet l _)

theorem keepsFills_learnLong (l : LineNo) (s : State) : s.KeepsFills (learnLong l s) := by
  unfold learnLong
  split
  · exact .refl s
  · exact .line rfl

theorem keepsFills_monitorExit (l : LineNo) (s : State) : s.KeepsFills (monitorExit l s) := by
  unfold monitorExit
  simp only
  split
  · exact State.KeepsFills.trans .modLine (keepsFills_floorQuiet l _)
  · exact .line rfl

/-! ### Transmitters and holds -/

theorem keepsFills_startElement (l : LineNo) (s : State) : s.KeepsFills (startElement l s) := by
  rcases startElement_effect l s with h | ⟨rest, tx, c, ms, loss, h, -⟩ <;> rw [h]
  · exact .refl s
  · exact .line rfl

theorem keepsFills_beginGap (l : LineNo) (ms : Nat) (s : State) : s.KeepsFills (beginGap l ms s) :=
  State.KeepsFills.trans .modLine (keepsFills_startElement l _)

theorem keepsFills_byteDone (l : LineNo) (b : Byte) (s : State) : s.KeepsFills (byteDone l b s) :=
  State.KeepsFills.trans .modLine (keepsFills_beginGap l _ _)

theorem keepsFills_typeInto (l : LineNo) (i : SessionNo) (bytes : List Byte) (s : State) :
    s.KeepsFills (typeInto l i bytes s) := by
  have held : s.KeepsFills (if (s.line l).floor.state = .parked i then becomeHolder l i s else s) :=
    .guarded (keepsFills_becomeHolder l i s)
  exact ((held.trans (keepsFills_restartIdle l _)).trans .modLine).trans (keepsFills_startElement l _)

theorem keepsFills_settleHold (l : LineNo) (s : State) : s.KeepsFills (settleHold l s) := by
  unfold settleHold
  simp only
  split
  · exact State.KeepsFills.trans (.line (by rfl)) (keepsFills_startElement l _)
  · exact .refl s

/-! ### Pins -/

theorem atReturnToMark_state (u : Line) : u.atReturnToMark.state = u.state := by
  unfold Line.atReturnToMark
  split <;> rfl

theorem strayEdge_state (u : Line) : u.strayEdge.state = u.state := by
  unfold Line.strayEdge
  split
  · rfl
  · exact atReturnToMark_state u
  · rfl

theorem atStartEdge_state (u : Line) (b : Bool) : (u.atStartEdge b).state = u.state := by
  unfold Line.atStartEdge
  split
  case h_1 => split <;> rfl
  all_goals rfl

theorem keepsFills_strayEdge (l : LineNo) (s : State) : s.KeepsFills (s.modLine l Line.strayEdge) :=
  .line (strayEdge_state _)

/-! ### Ports, attendance and requests -/

theorem keepsFills_validMessage (s : State) : s.KeepsFills (validMessage s) := by
  unfold validMessage
  split
  · exact .refl s
  · exact .beside rfl rfl rfl

theorem keepsFills_greet (rq : Request) (s : State) : s.KeepsFills (greet rq s) := by
  obtain ⟨a, ss, h, -⟩ := greet_effect rq s
  rw [h]
  exact .beside rfl rfl rfl

theorem keepsFills_deliver (rq : Request) (a : Answer) : a.state.KeepsFills (deliver rq a) := by
  unfold deliver
  split
  · exact (keepsFills_grantData _).trans (.beside rfl rfl rfl)
  · exact .beside rfl rfl rfl

theorem keepsFills_consume (f : Frame) (s : State) : s.KeepsFills (consume f s) := by
  unfold consume
  split
  · exact .beside rfl rfl rfl
  · split
    · exact .after (keepsFills_validMessage _) rfl rfl rfl
    · exact .beside rfl rfl rfl

theorem keepsFills_downStart (s : State) : s.KeepsFills (downStart s) := by
  unfold downStart
  split
  · split
    · exact .beside rfl rfl rfl
    · exact .refl s
  · exact .refl s

/-- A loss that is counted and raises CHAIN_LOSS (R157). -/
theorem keepsFills_loses (c : UnitCounters) (s : State) :
    s.KeepsFills (raiseUnit .chainLoss { s with counters := c }) := .after (keepsFills_raiseUnit _ _) rfl rfl rfl

theorem keepsFills_dropDown (s : State) : s.KeepsFills (dropDown s) := keepsFills_loses _ s

theorem keepsFills_dropUp (s : State) : s.KeepsFills (dropUp s) := keepsFills_loses _ s

theorem keepsFills_cutOffUp (f : UpFrame) (s : State) : s.KeepsFills (cutOffUp f s) := by
  cases f <;> exact keepsFills_loses _ s

theorem keepsFills_repeated {f : State → State} (hf : ∀ s : State, s.KeepsFills (f s)) (n : Nat) (s : State) :
    s.KeepsFills (repeated f n s) := by
  induction n generalizing s with
  | zero => exact .refl s
  | succ n ih => exact (hf s).trans (ih _)

theorem keepsFills_joinDown (f : Frame) (s : State) : s.KeepsFills (joinDown f s) := by
  unfold joinDown
  split
  · exact .after (keepsFills_downStart _) rfl rfl rfl
  · exact keepsFills_dropDown s

theorem keepsFills_joinUp (f : Frame) (s : State) : s.KeepsFills (joinUp f s) := by
  unfold joinUp
  split
  · exact .beside rfl rfl rfl
  · exact keepsFills_dropUp s

theorem keepsFills_filterUp (f : Frame) (s : State) : s.KeepsFills (filterUp f s) := by
  unfold filterUp
  split
  · split
    · exact keepsFills_consume f s
    · split
      · exact (keepsFills_consume f s).trans (keepsFills_joinDown f _)
      · exact keepsFills_joinDown f s
  · exact keepsFills_joinDown f s

theorem flushed_state (u : Line) : u.flushed.state = u.state := by
  unfold Line.flushed
  split <;> rfl

theorem keepsFills_lapse (s : State) : s.KeepsFills (lapse s) := by
  have raised : s.KeepsFills (raiseUnit .attendLapse
      { s with attendance := { state := .unattended, left := none, lapses := s.attendance.lapses + 1 } }) :=
    .after (keepsFills_raiseUnit _ _) rfl rfl rfl
  have freed := raised.trans (.forLines fun l t => keepsFills_clearFloor l .attendance t)
  exact freed.trans (.mapLines fun _ => flushed_state _)

/-- A slot whose fill limit runs on for a millisecond. -/
theorem Slot.law.ticked {r : Slot} (h : r.law) : Slot.law { r with fillLeft := lessTime 1 r.fillLeft } := by
  obtain ⟨hdata, hheld, hfits, hretriggers, hstate⟩ := h
  refine ⟨hdata, hheld, hfits, hretriggers, ?_⟩
  cases hr : r.state with
  | free =>
    rw [hr] at hstate
    simp only at hstate ⊢
    rw [hstate]
    rfl
  | filling =>
    rw [hr] at hstate
    simpa [lessTime] using hstate
  | complete =>
    rw [hr] at hstate
    simpa [lessTime] using hstate

theorem tick_slot (s : State) (k : SlotNo) :
    (tick s).slot k = { s.slot k with fillLeft := lessTime 1 (s.slot k).fillLeft } := by
  simp only [tick, State.mapLines, State.mapSlots, State.mapSessions, State.slot, Vector.getElem_ofFn]

/-- A millisecond acts on the slots in their fill limits alone (R100). -/
theorem keepsFills_tick (s : State) : s.KeepsFills (tick s) := by
  have hs := steady_tick s
  refine .ofSlots (fun k h => ?_) (fun k h => ?_) hs.state hs.probeQueue <;> rw [tick_slot] at *
  · exact h.ticked
  · exact ⟨h, rfl⟩

end Sys2Proof.Machine
end

section
/-! SUPPORT. The operations that move a line without a FILLING slot, and the exit from LIVE, which truncates it (R101). -/

namespace Sys2Proof.Machine

variable {s t : State} {l : LineNo}

/-! ### In and out of LIVE -/

/-- What an exit from LIVE does before it truncates (R4). -/
theorem exitLive_before (l : LineNo) (s : State) : ∃ t, s.KeepsFills t ∧ exitLive l s = truncateFor l t := by
  have granted : s.KeepsFills (grantData (s.setLine l (s.line l).cutOff)) :=
    State.KeepsFills.trans (.line (by rfl)) (keepsFills_grantData _)
  exact ⟨_, granted.trans (keepsFills_monitorExit l _), rfl⟩

theorem keepsFills_exitLive (l : LineNo) (s : State) : s.KeepsFills (exitLive l s) := by
  obtain ⟨t, ht, e⟩ := exitLive_before l s
  rw [e]
  exact ht.trans (keepsFills_truncateFor l t)

/-- A line that has left LIVE has no FILLING slot (R101). -/
theorem exitLive_unfilled (h : s.slotsInOrder) (l : LineNo) : ¬ (exitLive l s).fills l := by
  obtain ⟨t, ht, e⟩ := exitLive_before l s
  rw [e]
  exact truncateFor_unfilled (ht.order h) l

theorem keepsFills_enterLive (hf : ¬ s.fills l) (r : TakenRate) : s.KeepsFills (enterLive l r s) :=
  ((State.KeepsFills.put hf _).trans (keepsFills_appendMark l _ _ _)).trans (keepsFills_raisePlain l _ _)

/-! ### The probe queue and the engine -/

theorem keepsFills_joinProbe (hf : ¬ s.fills l) : s.KeepsFills (joinProbe l s) :=
  .moves hf rfl (fun _ hj => joinProbe_line_ne hj) fun j hj => by simpa [joinProbe_eq] using hj

theorem keepsFills_requeueProbe (hf : ¬ s.fills l) : s.KeepsFills (requeueProbe l s) :=
  .moves hf rfl (fun _ hj => setLine_line_ne s _ hj) fun j hj => by
    rcases List.mem_append.mp hj with h | h
    · exact .inl h
    · exact .inr (List.mem_singleton.mp h)

theorem keepsFills_leaveProbe (hf : ¬ s.fills l) : s.KeepsFills (leaveProbe l s) :=
  .moves hf rfl (fun _ _ => rfl) fun _ hj => .inl (List.mem_of_mem_erase hj)

theorem keepsFills_endMeasurement (hf : ¬ s.fills l) : s.KeepsFills (endMeasurement l s) :=
  .moves hf rfl (fun _ hj => setLine_line_ne s _ hj) fun _ => .inl

theorem keepsFills_probeTake (hq : s.queueUnfilled) : s.KeepsFills (probeTake s) := by
  rcases probeTake_effect s with ⟨h, -⟩ | ⟨l, rest, tx, ms, loss, m, -, hhead, h, -⟩ <;> rw [h]
  · exact .refl s
  · have hl : ¬ s.fills l := hq l (by rw [hhead]; exact List.mem_cons_self)
    refine .moves hl rfl (fun _ hj => setLine_line_ne s _ hj) fun j hj => .inl ?_
    rw [hhead]
    exact List.mem_cons_of_mem _ hj

/-- The engine takes its turn after a change that begins no FILLING slot. -/
theorem State.KeepsFills.probed (h : s.KeepsFills t) (hq : s.queueUnfilled) : s.KeepsFills (probeTake t) :=
  h.trans (keepsFills_probeTake (h.queueUnfilled hq))

theorem keepsFills_startByRecord (hf : ¬ s.fills l) : s.KeepsFills (startByRecord l s) := by
  unfold startByRecord
  split
  · exact keepsFills_enterLive hf _
  · exact keepsFills_joinProbe hf

/-! ### Measurements that end -/

theorem keepsFills_finalFailure (hf : ¬ s.fills l) (why : FailureReason) : s.KeepsFills (finalFailure l why s) := by
  have failed : s.KeepsFills (raiseRateFail l why s) := keepsFills_raiseLine l _ _ _ _ s
  have hf' := failed.unfilled hf
  unfold finalFailure
  simp only
  split
  · exact failed.trans (keepsFills_enterLive hf' _)
  · exact failed.trans (keepsFills_enterLive hf' _)
  · exact ((failed.trans (.put hf' _)).trans (keepsFills_clearFloor l _ _)).trans (keepsFills_raisePlain l _ _)

theorem keepsFills_failAttempt {m : Measurement} (hf : ¬ s.fills m.line) (hq : s.queueUnfilled) (why : FailureReason) :
    s.KeepsFills (failAttempt m why s) := by
  have counted : s.KeepsFills
      ((endMeasurement m.line s).modLine m.line fun u => { u with attempts := u.attempts + 1 }) :=
    (keepsFills_endMeasurement hf).trans .modLine
  have hf' := counted.unfilled hf
  unfold failAttempt
  simp only
  refine State.KeepsFills.probed ?_ hq
  split
  · exact counted.trans (keepsFills_requeueProbe hf')
  · exact counted.trans (keepsFills_finalFailure hf' _)

theorem keepsFills_finishAttempt {m : Measurement} (hf : ¬ s.fills m.line) (hq : s.queueUnfilled) (w : Nat) :
    s.KeepsFills (finishAttempt m w s) := by
  have ended := keepsFills_endMeasurement hf
  unfold finishAttempt
  split
  · exact (ended.trans (keepsFills_enterLive (ended.unfilled hf) _)).probed hq
  · exact keepsFills_failAttempt hf hq _

theorem keepsFills_countEdge {m : Measurement} (hf : ¬ s.fills m.line) (hq : s.queueUnfilled) (n : Nat) :
    s.KeepsFills (countEdge m n s) := by
  have counted (e : Option Measurement) :
      s.KeepsFills { s.modLine m.line fun u => { u with rxd := u.rxd.flip } with engine := e } :=
    State.KeepsFills.trans .modLine
      (.beside (s := s.modLine m.line fun u => { u with rxd := u.rxd.flip }) rfl rfl rfl)
  unfold countEdge
  simp only
  split
  · exact counted _
  · split
    · exact (counted _).trans (keepsFills_finishAttempt ((counted _).unfilled hf) ((counted _).queueUnfilled hq) _)
    · exact counted _

/-! ### Loopback tests -/

theorem keepsFills_enterLoop (hf : ¬ s.fills l) (x : LoopTest) : s.KeepsFills (enterLoop l x s) := .put hf _

theorem keepsFills_leaveLoop (hf : ¬ s.fills l) (hq : s.queueUnfilled) (x : LoopTest) :
    s.KeepsFills (leaveLoop l x s) := by
  have ended : s.KeepsFills (s.modLine l fun u => { u with tx := .idle, test := none }) := .line rfl
  have hf' := ended.unfilled hf
  unfold leaveLoop
  simp only
  split
  · exact ended.trans (.put hf' _)
  · split
    · exact (ended.trans (keepsFills_startByRecord hf')).probed hq
    · exact ended.trans (keepsFills_enterLive hf' _)

theorem keepsFills_completeTest (hf : ¬ s.fills l) (hq : s.queueUnfilled) (x : LoopTest) :
    s.KeepsFills (completeTest l x s) := by
  have placed := fun f => keepsFills_placeTest f s
  exact (placed _).trans (keepsFills_leaveLoop ((placed _).unfilled hf) ((placed _).queueUnfilled hq) x)

/-! ### Lines started, stopped and requeued -/

theorem keepsFills_enableLine (h : s.slotsLaw) (hq : s.queueUnfilled) (l : LineNo) : s.KeepsFills (enableLine l s) := by
  unfold enableLine
  split
  case h_1 hs => exact (keepsFills_startByRecord (h.unfilled (by rw [hs]; decide))).probed hq
  case h_2 hs => exact (keepsFills_startByRecord (h.unfilled (by rw [hs]; decide))).probed hq
  all_goals exact .refl s

theorem keepsFills_turnOff (hf : ¬ s.fills l) : s.KeepsFills (turnOff l s) := by
  have cleared : s.KeepsFills
      (clearFloor l .lineOff (s.modLine l fun u => { u with state := .off, test := none, tx := .idle })) :=
    (State.KeepsFills.put hf _).trans (keepsFills_clearFloor l _ _)
  exact (cleared.trans (.put (cleared.unfilled hf) _)).trans (keepsFills_appendMark l _ _ _)

/-- A line leaves LIVE and goes on as a line without a FILLING slot may (R101). -/
theorem keepsFills_exitLive_then (h : s.slotsLaw) {f : State → State}
    (hf : ¬ (exitLive l s).fills l → (exitLive l s).KeepsFills (f (exitLive l s))) : s.KeepsFills (f (exitLive l s)) :=
  (keepsFills_exitLive l s).trans (hf (exitLive_unfilled (slotsLaw_iff.mp h).1 l))

theorem keepsFills_disableLine (h : s.slotsLaw) (hq : s.queueUnfilled) (l : LineNo) : s.KeepsFills (disableLine l s) := by
  have off {t : State} (k : s.KeepsFills t) (hs : (s.line l).state ≠ .live) : s.KeepsFills (turnOff l t) :=
    k.trans (keepsFills_turnOff (k.unfilled (h.unfilled hs)))
  unfold disableLine
  split
  case h_1 => exact .refl s
  case h_2 hs =>
    have hn : (s.line l).state ≠ .live := by rw [hs]; decide
    exact off (keepsFills_leaveProbe (h.unfilled hn)) hn
  case h_3 hs =>
    have hn : (s.line l).state ≠ .live := by rw [hs]; decide
    exact (off (keepsFills_endMeasurement (h.unfilled hn)) hn).probed hq
  case h_4 => exact keepsFills_exitLive_then h keepsFills_turnOff
  case h_5 hs => exact off (.refl s) (by rw [hs]; decide)
  case h_6 hs => exact off (keepsFills_abortTest l s) (by rw [hs]; decide)

theorem keepsFills_restartLine (h : s.slotsLaw) (hq : s.queueUnfilled) (l : LineNo) : s.KeepsFills (restartLine l s) := by
  have starts {t : State} (k : s.KeepsFills t) (hs : (s.line l).state ≠ .live) : s.KeepsFills (startByRecord l t) :=
    k.trans (keepsFills_startByRecord (k.unfilled (h.unfilled hs)))
  unfold restartLine
  simp only
  split
  case h_1 => exact .refl s
  case h_2 hs =>
    have hn : (s.line l).state ≠ .live := by rw [hs]; decide
    split
    · exact starts (keepsFills_leaveProbe (h.unfilled hn)) hn
    · exact .refl s
  case h_3 hs =>
    have hn : (s.line l).state ≠ .live := by rw [hs]; decide
    exact (starts (keepsFills_endMeasurement (h.unfilled hn)) hn).probed hq
  case h_4 => exact (keepsFills_exitLive_then h keepsFills_startByRecord).probed hq
  case h_5 hs => exact (starts (.refl s) (by rw [hs]; decide)).probed hq
  case h_6 => exact .line rfl

theorem keepsFills_requeued (h : s.slotsLaw) (hq : s.queueUnfilled) (l : LineNo) :
    s.KeepsFills (probeTake (joinProbe l (exitLive l s))) :=
  (keepsFills_exitLive_then h keepsFills_joinProbe).probed hq

theorem keepsFills_loseRate (h : s.slotsLaw) (hq : s.queueUnfilled) (l : LineNo) : s.KeepsFills (loseRate l s) := by
  have lost : s.KeepsFills (raisePlain l .rateLost (appendMark l .rateLost 0 s)) :=
    (keepsFills_appendMark l _ _ s).trans (keepsFills_raisePlain l _ _)
  exact lost.trans (keepsFills_requeued (lost.slotsLaw h) (lost.queueUnfilled hq) l)

theorem keepsFills_judgeStreak (h : s.slotsLaw) (hq : s.queueUnfilled) (l : LineNo) (n e : Nat) :
    s.KeepsFills (judgeStreak l n e s) := by
  have judged : s.KeepsFills (s.modLine l fun u => { u with streak := (s.line l).judgedStreak n e }) :=
    .modLine fun _ => rfl
  unfold judgeStreak
  simp only
  split
  · exact judged.trans (keepsFills_loseRate (judged.slotsLaw h) (judged.queueUnfilled hq) l)
  · exact judged

end Sys2Proof.Machine
end

section
/-! SUPPORT. The four sources of triggers (R97): each fires on a LIVE line, with lengths in range. -/

namespace Sys2Proof.Machine

variable {s t : State} {l : LineNo}

/-! ### The snapshot options of a line's record -/

theorem slotsLaw_optionTrigger (h : s.slotsLaw) (hr : (s.line l).ringLaw) (hlive : (s.line l).state = .live)
    {o : Option SnapshotLengths} (ho : snapshotInRange o) (c : Cause) : (optionTrigger l c o s).slotsLaw := by
  cases o with
  | none => exact h
  | some p =>
    obtain ⟨hpre, -⟩ := ho p rfl
    exact slotsLaw_fireTrigger h hr hpre hlive

/-- What one line alone went through, beside its state and the slots. -/
theorem State.KeepsFills.ofActs (h : State.Acts l s t) (hk : t.slots = s.slots)
    (hl : (t.line l).state = (s.line l).state) : s.KeepsFills t := by
  refine .still hk (fun j => ?_) (by rw [h.rest])
  by_cases hj : j = l
  · rw [hj, hl]
  · rw [h.line_ne j hj]

/-- A burst that begins may trigger (R67, R97). -/
theorem slotsLaw_burstBegins (h : s.slotsLaw) (hr : (s.line l).ringLaw) (hlive : (s.line l).state = .live)
    (ho : snapshotInRange (s.line l).record.burstSnapshot) : (burstBegins l s).slotsLaw := by
  obtain ⟨t, ht, hb⟩ := burstBegins_eq l s
  obtain ⟨loss, x, hline⟩ := burstTold_line s l
  have told : s.KeepsFills (s.burstTold l) :=
    .ofActs (burstTold_alerts s l).toActs (burstTold_slots s l) (by rw [hline])
  have fired : t.slotsLaw := by
    rw [ht]
    exact slotsLaw_optionTrigger (told.slotsLaw h) (by rw [hline]; exact hr) (by rw [hline]; exact hlive) ho .burst
  rw [hb]
  exact (State.KeepsFills.line (by rfl)).slotsLaw fired

theorem slotsLaw_monitorExpiry (h : s.slotsLaw) (hr : (s.line l).ringLaw) (hlive : (s.line l).state = .live)
    (ho : snapshotInRange (s.line l).record.burstSnapshot) : (monitorExpiry l s).slotsLaw := by
  have sampled (m : Monitor) : s.KeepsFills (s.setLine l { s.line l with monitor := m }) := .line rfl
  have begins (m : Monitor) : (burstBegins l (s.setLine l { s.line l with monitor := m })).slotsLaw :=
    slotsLaw_burstBegins ((sampled m).slotsLaw h) (by rw [setLine_line_same]; exact hr)
      (by rw [setLine_line_same]; exact hlive) (by rw [setLine_line_same]; exact ho)
  unfold monitorExpiry
  simp only
  split
  · exact (sampled _).slotsLaw h
  · refine (keepsFills_learnLong l _).slotsLaw ?_
    split
    · exact begins _
    · split
      · exact ((sampled _).trans (keepsFills_burstDecays l _)).slotsLaw h
      · exact (sampled _).slotsLaw h

/-- An option triggers once an event is marked and raised. -/
theorem slotsLaw_raisedTrigger (h : s.slotsLaw) (hr : (s.line l).ringLaw) (hlive : (s.line l).state = .live)
    {o : Option SnapshotLengths} (ho : snapshotInRange o) (c : Cause) (k : MarkKind) (a : Nat) (e : LineEvent) :
    (optionTrigger l c o (raisePlain l e (appendMark l k a s))).slotsLaw := by
  have raised : s.KeepsFills (raisePlain l e (appendMark l k a s)) :=
    (keepsFills_appendMark l k a s).trans (keepsFills_raisePlain l e _)
  obtain ⟨loss, hmark⟩ := appendMark_line l k a s
  obtain ⟨x, hline⟩ := raisePlain_line l e (appendMark l k a s)
  refine slotsLaw_optionTrigger (raised.slotsLaw h) ?_ ?_ ho c <;> rw [hline, hmark, setLine_line_same]
  · exact hr
  · exact hlive

/-- A break that is detected may trigger (R10, R97). -/
theorem slotsLaw_detectBreak (h : s.slotsLaw) (hr : (s.line l).ringLaw) (hlive : (s.line l).state = .live)
    (ho : snapshotInRange (s.line l).record.breakSnapshot) : (detectBreak l s).slotsLaw := by
  refine slotsLaw_raisedTrigger (State.KeepsFills.slotsLaw .modLine h) ?_ ?_ ho .breakIn .breakIn 0 .breakIn
    <;> rw [modLine_eq, setLine_line_same]
  · exact hr
  · exact hlive

/-! ### The entries that fire at a byte -/

theorem keepsFills_beforeTrigger (l : LineNo) (is : List EntryNo) (s : State) : s.KeepsFills (beforeTrigger l is s) := by
  obtain ⟨ms, loss, m, hline, hslots⟩ := beforeTrigger_line l is s
  exact .ofActs (beforeTrigger_alerts l is s).toActs hslots (by rw [hline])

theorem keepsFills_afterTrigger (l : LineNo) (is : List EntryNo) (s : State) :
    (beforeHold l is s).KeepsFills (watchActions l is s) := by
  obtain ⟨h, f, hline, hslots⟩ := watchActions_afterTrigger l is s
  exact .ofActs ((holdHits_alerts l is _).toActs.trans (dropHits_acts l is _)) hslots (by rw [hline])

/-- The lowest entry that asks for it triggers (R88). -/
theorem slotsLaw_snapshotHits (h : s.slotsLaw) (hr : (s.line l).ringLaw) (hlive : (s.line l).state = .live)
    (he : ∀ i, snapshotInRange (s.entry i).snapshot) (is : List EntryNo) : (snapshotHits l is s).slotsLaw := by
  unfold snapshotHits
  split
  · exact h
  · next i rest _ =>
    split
    · exact h
    · next p hp =>
      obtain ⟨hpre, -⟩ := he i p hp
      exact slotsLaw_fireTrigger h hr hpre hlive

theorem slotsLaw_watchActions (h : s.slotsLaw) (hr : (s.line l).ringLaw) (hlive : (s.line l).state = .live)
    (he : ∀ i, snapshotInRange (s.entry i).snapshot) (is : List EntryNo) : (watchActions l is s).slotsLaw := by
  obtain ⟨ms, loss, m, hline, -⟩ := beforeTrigger_line l is s
  have hentry := (beforeTrigger_alerts l is s).entry
  refine (keepsFills_afterTrigger l is s).slotsLaw (slotsLaw_snapshotHits ?_ ?_ ?_ (fun i => ?_) is)
  · exact (keepsFills_beforeTrigger l is s).slotsLaw h
  · rw [hline]; exact hr
  · rw [hline]; exact hlive
  · rw [hentry]; exact he i

theorem keepsFills_caught (s : State) (l : LineNo) (b : Byte) (wrong bad : Bool) :
    s.KeepsFills (s.caught l b wrong bad) := by
  have hrest := took_rest s l b wrong bad
  have took : s.KeepsFills (s.took l b wrong bad) := by
    refine .still (by rw [hrest]) (fun j => ?_) (by rw [hrest])
    by_cases hj : j = l
    · rw [hj, took_line, Line.took]
    · rw [took_line_ne hj]
  unfold State.caught
  exact ((took.trans (keepsFills_grantData _)).trans (keepsFills_slotByte l b _)).trans (.line (by rfl))

/-- A captured byte goes to the slot that is FILLING, and may trigger (R9, R88, R100). -/
theorem slotsLaw_captureByte (h : s.slotsLaw) (hs : s.storeLaw) (hlive : (s.line l).state = .live)
    (he : ∀ i, snapshotInRange (s.entry i).snapshot) (b : Byte) (wrong bad : Bool) :
    (captureByte l b wrong bad s).slotsLaw := by
  obtain ⟨hlines, -⟩ := hs
  obtain ⟨hr, -, hsize, -⟩ := hlines l
  obtain ⟨-, -, hentry, -⟩ := caught_same s l b wrong bad
  obtain ⟨m, hline⟩ := caught_line s l b wrong bad
  rw [captureByte_caught]
  refine slotsLaw_watchActions ((keepsFills_caught s l b wrong bad).slotsLaw h) ?_ ?_ (fun i => ?_) _
  · rw [hline]
    exact ringLaw_append hr hsize b
  · rw [hline]
    exact hlive
  · rw [hentry]
    exact he i

end Sys2Proof.Machine
end

section
/-! SUPPORT. The requests: the own part of each keeps the slots in order, and so does taking and answering one. -/

namespace Sys2Proof.Machine

variable {s t : State} {l : LineNo} {rq : Request}

/-! ### The laws that a step starts from -/

/-- The laws under which a step keeps the slots in order. -/
structure State.slotsReady (s : State) : Prop where
  store : s.storeLaw
  lines : s.lawful False
  config : s.configLaw
  slots : s.slotsLaw

/-- A line that waits for the probe is not LIVE, so it has no FILLING slot (R25, R101). -/
theorem State.lawful.queueUnfilled {tries : Prop} (h : s.lawful tries) (hs : s.slotsLaw) : s.queueUnfilled := fun l hl =>
  hs.unfilled (by rw [(h.toUnready.queued l).mp hl]; decide)

/-- The line that is measured has no FILLING slot (R27, R101). -/
theorem State.lawful.measuredUnfilled {tries : Prop} (h : s.lawful tries) (hs : s.slotsLaw) {m : Measurement}
    (hm : s.engine = some m) : ¬ s.fills m.line :=
  hs.unfilled (by rw [h.toUnready.measures hm]; decide)

namespace State.slotsReady

theorem queueUnfilled (h : s.slotsReady) : s.queueUnfilled := h.lines.queueUnfilled h.slots

theorem measuredUnfilled (h : s.slotsReady) {m : Measurement} (hm : s.engine = some m) : ¬ s.fills m.line :=
  h.lines.measuredUnfilled h.slots hm

/-- A line with a loopback test is in LOOP, so it has no FILLING slot (R18, R101). -/
theorem testUnfilled (h : s.slotsReady) {x : LoopTest} (hx : (s.line l).test = some x) : ¬ s.fills l := by
  refine h.slots.unfilled fun hl => ?_
  obtain ⟨ht, -⟩ := h.lines.toUnready.lines l
  rw [hx, hl] at ht
  simp at ht

theorem ring (h : s.slotsReady) (l : LineNo) : (s.line l).ringLaw := by
  obtain ⟨hlines, -⟩ := h.store
  exact (hlines l).1

/-- The snapshot options of a line record are in range (R21). -/
theorem options (h : s.slotsReady) (l : LineNo) :
    snapshotInRange (s.line l).record.burstSnapshot ∧ snapshotInRange (s.line l).record.breakSnapshot := by
  obtain ⟨hlines, -⟩ := h.config
  obtain ⟨⟨-, -, -, -, -, -, -, -, hburst, hbreak⟩, -⟩ := hlines l
  exact ⟨hburst, hbreak⟩

/-- The snapshot lengths of a watch entry are in range (R78). -/
theorem entries (h : s.slotsReady) (i : EntryNo) : snapshotInRange (s.entry i).snapshot := by
  obtain ⟨-, hentries, -⟩ := h.config
  obtain ⟨-, -, -, -, -, hsnapshot, -⟩ := hentries i
  exact hsnapshot

/-- What goes on steadily, and begins no FILLING slot, leaves the part ready. -/
theorem next (h : s.slotsReady) (k : s.Steady t) (g : s.GoesOn False t) (f : s.KeepsFills t) : t.slotsReady :=
  ⟨g.law h.store, h.lines.steady k, k.inRangeStill.configLaw h.config, f.slotsLaw h.slots⟩

end State.slotsReady

/-! ### Taking and answering a request -/

/-- The own part of a request keeps the slots in order. -/
def OwnKeepsSlots (own : Request → State → Answer) : Prop :=
  ∀ (rq : Request) (s : State), s.slotsReady → (own rq s).state.slotsLaw

/-- The own part of a request begins no FILLING slot. -/
def OwnKeepsFills (own : Request → State → Answer) : Prop :=
  ∀ (rq : Request) (s : State), s.slotsReady → s.KeepsFills (own rq s).state

theorem OwnKeepsFills.slots {own : Request → State → Answer} (h : OwnKeepsFills own) : OwnKeepsSlots own :=
  fun rq s hs => (h rq s hs).slotsLaw hs.slots

theorem OwnKeepsSlots.serve {own : Request → State → Answer} (h : OwnKeepsSlots own) (hs : s.slotsReady)
    (k : RequestKind) : (serve k own s).slotsLaw := by
  have greeted (rq : Request) (rest : List Frame) (n : Nat) :
      (greet rq { s with requests := rest, heldPlaces := n }).slotsReady :=
    State.slotsReady.next (s := { s with requests := rest, heldPlaces := n }) ⟨hs.store, hs.lines, hs.config, hs.slots⟩
      (steady_greet rq _) (goesOn_greet rq _) (keepsFills_greet rq _)
  have carried (rq : Request) {w : State} (hw : w.slotsReady) : (carryOut k own rq w).state.slotsLaw := by
    unfold carryOut
    split
    · exact h rq w hw
    · split
      · exact (State.KeepsFills.beside rfl rfl rfl).slotsLaw hw.slots
      · exact hw.slots
  unfold Machine.serve
  split
  · exact hs.slots
  · split
    · exact (keepsFills_deliver _ _).granted.slotsLaw (carried _ (greeted _ _ _))
    · exact hs.slots

/-- A request that only reads. -/
theorem ownKeepsFills_reads {own : Request → State → Answer} (h : ∀ rq s, (own rq s).state = s) : OwnKeepsFills own :=
  fun rq s _ => by rw [h]; exact .refl s

theorem keepsFills_onLine {k : RequestKind} {own : LineNo → Answer} (h : ∀ l, s.KeepsFills (own l).state) :
    s.KeepsFills (onLine k rq s own).state := by
  unfold onLine
  split
  · exact .refl s
  · exact h _

theorem keepsFills_onSession {k : RequestKind} {own : SessionNo → Answer} (h : ∀ i, s.KeepsFills (own i).state) :
    s.KeepsFills (onSession k rq s own).state := by
  unfold onSession
  split
  · exact .refl s
  · exact h _

/-! ### Requests on lines -/

theorem keepsFills_applyRecord (h : s.slotsLaw) (hq : s.queueUnfilled) (l : LineNo) (new : LineRecord) :
    s.KeepsFills (applyRecord l new s) := by
  have recorded : s.KeepsFills (s.modLine l fun u => { u with record := new }) := .modLine
  have resized (t : State) : t.KeepsFills (resizeRing l t) := 
    State.KeepsFills.trans .modLine (keepsFills_mapSessions _ _)
  have sized : s.KeepsFills (if new.ringKiB ≠ (s.line l).record.ringKiB
      then resizeRing l (s.modLine l fun u => { u with record := new })
      else s.modLine l fun u => { u with record := new }) := by
    split
    · exact recorded.trans (resized _)
    · exact recorded
  have idled (t : State) (ht : s.KeepsFills t) :
      s.KeepsFills (if new.floorIdle ≠ (s.line l).record.floorIdle then restartIdle l t else t) :=
    ht.trans (.guarded (keepsFills_restartIdle l t))
  unfold applyRecord
  simp only
  split
  · have before := idled _ sized
    exact before.trans (keepsFills_restartLine (before.slotsLaw h) (before.queueUnfilled hq) l)
  · exact idled _ sized

theorem ownKeepsFills_lineSet : OwnKeepsFills lineSet := fun rq s hs => keepsFills_onLine fun l => by
  split
  · exact .refl s
  · split
    · exact .refl s
    · exact keepsFills_applyRecord hs.slots hs.queueUnfilled l _

theorem ownKeepsFills_lineMeasure : OwnKeepsFills lineMeasure := fun rq s hs => keepsFills_onLine fun l => by
  have joins (hl : (s.line l).state ≠ .live) : s.KeepsFills (probeTake (joinProbe l s)) :=
    (keepsFills_joinProbe (hs.slots.unfilled hl)).probed hs.queueUnfilled
  split
  case h_1 => exact keepsFills_requeued hs.slots hs.queueUnfilled l
  case h_2 hl => exact joins (by rw [hl]; decide)
  case h_3 hl => exact joins (by rw [hl]; decide)
  all_goals exact .refl s

theorem ownKeepsFills_lineTest : OwnKeepsFills lineTest := fun rq s hs => keepsFills_onLine fun l => by
  simp only
  split
  · exact .refl s
  · split
    case h_1 => exact keepsFills_exitLive_then hs.slots fun hf => keepsFills_enterLoop hf _
    case h_2 hl => exact keepsFills_enterLoop (hs.slots.unfilled (by rw [hl]; decide)) _
    all_goals exact .refl s

theorem ownKeepsFills_eventsRead : OwnKeepsFills eventsRead := fun rq s _ => by
  unfold eventsRead
  simp only
  split
  · exact .beside rfl rfl rfl
  · split
    · exact .refl s
    · exact .line rfl

/-! ### Requests on settings -/

theorem ownKeepsFills_rateTableSet : OwnKeepsFills rateTableSet := fun rq s _ => by
  have replaced (table : Vector Nat 16) : s.KeepsFills { s with rates := table } := .beside rfl rfl rfl
  unfold rateTableSet
  simp only
  split
  · exact .refl s
  · split
    · exact .refl s
    · exact replaced _

theorem ownKeepsFills_monitorSet : OwnKeepsFills monitorSet := fun rq s _ => by
  unfold monitorSet
  split
  · exact .refl s
  · refine .mapLines fun l => ?_
    split <;> rfl

theorem ownKeepsFills_watchSet : OwnKeepsFills watchSet := fun rq s _ => by
  have replaced (i : EntryNo) (e : WatchEntry) : s.KeepsFills (replaceEntry i e s) :=
    .after (.mapLines fun _ => rfl) rfl rfl rfl
  unfold watchSet
  split
  · exact .refl s
  · split
    · exact .refl s
    · exact replaced _ _

theorem ownKeepsFills_unitSet : OwnKeepsFills unitSet := fun rq s _ => by
  have applied (r : UnitRecord) : s.KeepsFills (applyUnit r s) := by
    have started : s.KeepsFills (if r.period ≠ s.unit.period
        then { s with unit := r, attendance := s.attendance.started r.period } else { s with unit := r }) := by
      split <;> exact .beside rfl rfl rfl
    unfold applyUnit
    simp only
    split
    · exact started.trans (keepsFills_mapSessions _ _)
    · exact started
  unfold unitSet
  split
  · exact .refl s
  · exact applied _

theorem ownKeepsFills_setTime : OwnKeepsFills setTime := fun rq s _ => by
  have settled (now : Word32) : s.KeepsFills (State.forLines { s with unitTime := now } settleHold) :=
    .after (.forLines keepsFills_settleHold) rfl rfl rfl
  simpa only [setTime, Answer.of] using settled _

/-! ### Requests on snapshots -/

/-- Freeing acts on a COMPLETE slot alone (R105). -/
theorem ownKeepsFills_snapshotFree : OwnKeepsFills snapshotFree := fun rq s _ => by
  unfold snapshotFree
  split
  · exact .refl s
  · split
    · exact .setSlot (fun _ => Slot.reset_law) nofun
    · exact .refl s
    · exact .refl s

/-- A SNAPSHOT TAKE triggers on a LIVE line, its lengths clamped (R97, R102). -/
theorem ownKeepsSlots_snapshotTake : OwnKeepsSlots snapshotTake := fun rq s hs => by
  have takes (l : LineNo) (post : Clamped Nat) (n : Nat) (hl : (s.line l).state = .live) :
      (takeSnapshot l (clamp 0 Config.slotBytes n) post s).state.slotsLaw := by
    have fired := slotsLaw_fireTrigger
      (g := { line := l, cause := .request, pre := (clamp 0 Config.slotBytes n).val, post := post.val, others := 0 })
      hs.slots (hs.ring l) (clamp_le _ n) hl
    unfold takeSnapshot
    simp only
    split <;> exact fired
  unfold snapshotTake onLine
  split
  · exact hs.slots
  · dsimp only
    split
    case h_6 hl => exact takes _ _ _ hl
    all_goals exact hs.slots

/-! ### Requests of sessions -/

theorem ownKeepsFills_openSession : OwnKeepsFills openSession := fun rq s _ => by
  unfold openSession
  split
  · exact .refl s
  · split
    · exact .refl s
    · split
      · exact .refl s
      · exact .beside rfl rfl rfl

theorem ownKeepsFills_seek : OwnKeepsFills seek := fun rq s _ => keepsFills_onSession fun i => by
  split
  · exact .refl s
  · exact .beside rfl rfl rfl

theorem ownKeepsFills_credit : OwnKeepsFills credit := fun rq s _ => by
  unfold credit
  split <;> exact .beside rfl rfl rfl

theorem ownKeepsFills_floorRequest : OwnKeepsFills floorRequest := fun rq s _ => keepsFills_onSession fun i => by
  simp only
  split
  · exact .refl s
  · split
    · exact .refl s
    · split
      · exact .refl s
      · exact keepsFills_settleRequest _ _ _ s

theorem ownKeepsFills_typeBytes : OwnKeepsFills typeBytes := fun rq s _ => keepsFills_onSession fun i => by
  simp only
  split
  · exact .refl s
  · split
    · exact .refl s
    · split
      · exact .refl s
      · exact keepsFills_typeInto _ i _ s

theorem ownKeepsFills_sendBreak : OwnKeepsFills sendBreak := fun rq s _ => keepsFills_onSession fun i => by
  have queued (l : LineNo) (x : Element) :
      s.KeepsFills (startElement l ((restartIdle l s).modLine l fun v => { v with injection := v.injection ++ [x] })) :=
    ((keepsFills_restartIdle l s).trans .modLine).trans (keepsFills_startElement l _)
  simp only
  split
  · exact .refl s
  · split
    · exact .refl s
    · split
      · exact .refl s
      · split
        · exact .refl s
        · exact queued _ _

end Sys2Proof.Machine
end

section
/-! SUPPORT. The commands, the resets (R2, R106) and the millisecond step: each keeps the slots in order. -/

namespace Sys2Proof.Machine

variable {s t : State} {l : LineNo}

/-! ### Ports and requests of no known kind -/

theorem keepsFills_upLinkDown (h : execUpLinkDown s = .next t) : s.KeepsFills t := by
  have down : s.KeepsFills { s with upLink := false, upTx := none, upQueue := [] } := .beside rfl rfl rfl
  have cut (f : UpFrame) (p : ResetPhase) :
      s.KeepsFills (cutOffUp f { s with upLink := false, upTx := none, upQueue := [], resetPhase := p }) :=
    .after (keepsFills_cutOffUp f _) rfl rfl rfl
  cases h
  refine .guarded (.trans ?_ (keepsFills_repeated keepsFills_dropUp _ _))
  split
  · exact down
  · exact cut _ _

theorem keepsFills_downLinkDown (h : execDownLinkDown s = .next t) : s.KeepsFills t := by
  have dropped (n : Nat) :
      s.KeepsFills (repeated dropDown n { s with downLink := false, downTx := none, downQueue := [] }) :=
    .after (keepsFills_repeated keepsFills_dropDown n _) rfl rfl rfl
  cases h
  exact .guarded (dropped _).granted

theorem keepsFills_linkComesUp {port : Port} (h : execLinkComesUp port s = .next t) : s.KeepsFills t := by
  have started : s.KeepsFills (downStart { s with downLink := true }) := .after (keepsFills_downStart _) rfl rfl rfl
  have up : s.KeepsFills { s with upLink := true } := .beside rfl rfl rfl
  cases h
  cases port with
  | up =>
    dsimp only
    split
    · exact .refl s
    · exact up.granted
  | down =>
    dsimp only
    split
    · exact .refl s
    · exact started

theorem keepsFills_upTransmitComplete (h : execUpTransmitComplete s = .next t) : s.KeepsFills t := by
  have idle : s.KeepsFills { s with upTx := none } := .beside rfl rfl rfl
  cases h
  split
  · exact .refl s
  · split
    · exact .beside rfl rfl rfl
    · exact idle.granted

theorem keepsFills_downTransmitComplete (h : execDownTransmitComplete s = .next t) : s.KeepsFills t := by
  have started : s.KeepsFills (downStart { s with downTx := none }) := .after (keepsFills_downStart _) rfl rfl rfl
  cases h
  split
  · exact .refl s
  · exact started

theorem keepsFills_unknownKindRequest (h : execUnknownKindRequest s = .next t) : s.KeepsFills t := by
  have taken (rq : Request) (rest : List Frame) :
      s.KeepsFills (greet rq { s with requests := rest, heldPlaces := 1 }) :=
    .after (keepsFills_greet rq _) rfl rfl rfl
  have answered (rq : Request) (rest : List Frame) : s.KeepsFills
      (deliver rq (Answer.of .unknownKind [] (greet rq { s with requests := rest, heldPlaces := 1 }))) :=
    (taken rq rest).trans (keepsFills_deliver rq (.of .unknownKind [] _))
  cases h
  split
  · exact .refl s
  · exact .guarded (answered _ _).granted

/-! ### Transmitters -/

theorem keepsFills_byteTransmitted (h : execByteTransmitted l s = .next t) : s.KeepsFills t := by
  cases h
  split
  case h_1 => exact keepsFills_byteDone l _ s
  all_goals exact .refl s

theorem keepsFills_breakSpaceEnd (h : execBreakSpaceEnd l s = .next t) : s.KeepsFills t := by
  cases h
  split
  case h_1 => exact .guarded (.line (by rfl))
  all_goals exact .refl s

theorem keepsFills_breakOutEnd (h : execBreakOutEnd l s = .next t) : s.KeepsFills t := by
  cases h
  split
  case h_1 => exact .guarded (keepsFills_beginGap l _ s)
  all_goals exact .refl s

theorem keepsFills_pacingGapExpiry (h : execPacingGapExpiry l s = .next t) : s.KeepsFills t := by
  cases h
  exact .guarded (State.KeepsFills.trans .modLine (keepsFills_startElement l _))

theorem keepsFills_holdExpiry (h : execHoldExpiry l s = .next t) : s.KeepsFills t := by
  cases h
  exact .guarded (State.KeepsFills.trans .modLine (keepsFills_startElement l _))

/-! ### Loopback tests -/

namespace State.slotsReady

theorem completes (h : s.slotsReady) {x : LoopTest} (hx : (s.line l).test = some x) (y : LoopTest) :
    s.KeepsFills (completeTest l y s) := keepsFills_completeTest (h.testUnfilled hx) h.queueUnfilled y

theorem loopCharacterReceived (hs : s.slotsReady) {data : Byte} {p f : Bool}
    (h : execLoopCharacterReceived l data p f s = .next t) : s.KeepsFills t := by
  cases h
  split
  · exact .refl s
  · next x hx =>
    refine .guarded ?_
    unfold loopReceive
    simp only
    split
    · exact (hs.completes hx _).granted
    · exact .modLine

theorem loopTestTimeout (hs : s.slotsReady) (h : execLoopTestTimeout l s = .next t) : s.KeepsFills t := by
  cases h
  split
  · exact .refl s
  · next x hx => exact .guarded (hs.completes hx _).granted

theorem patternByteSent (hs : s.slotsReady) (h : execPatternByteSent l s = .next t) : s.KeepsFills t := by
  cases h
  split
  · next x _ hx =>
    unfold patternSent
    simp only
    split
    · exact .line rfl
    · split
      · exact (hs.completes hx _).granted
      · exact .line rfl
  · exact .refl s

/-! ### The Rate Probe -/

/-- An edge of a measurement; one that comes after its break may be the first of a new one of the same line (R30, R32). -/
theorem measuredEdge (hs : s.slotsReady) {m : Measurement} (hm : s.engine = some m) (n : Nat) :
    s.KeepsFills (measuredEdge m n s) := by
  unfold Machine.measuredEdge
  split
  · have failed := keepsFills_failAttempt (hs.measuredUnfilled hm) hs.queueUnfilled .brk
    have lines := lawful_failAttempt hs.lines ⟨m, hm, rfl⟩ .brk
    have slots := failed.slotsLaw hs.slots
    unfold lateEdge
    simp only
    split
    · exact failed.trans (keepsFills_strayEdge _ _)
    · next next hnext =>
      split
      · have unfilled : ¬ (failAttempt m .brk s).fills next.line := lines.measuredUnfilled slots hnext
        exact failed.trans
          (keepsFills_countEdge (m := { next with phase := m.phase }) unfilled (lines.queueUnfilled slots) n)
      · exact failed.trans (keepsFills_strayEdge _ _)
  · exact keepsFills_countEdge (hs.measuredUnfilled hm) hs.queueUnfilled n

theorem measureEdge (hs : s.slotsReady) {e : MeasuredEdge} (h : execMeasureEdge e s = .next t) : s.KeepsFills t := by
  cases h
  split
  · exact keepsFills_strayEdge _ s
  · next hm => exact (hs.measuredEdge (KeptByOps.measuredBy e hm) _).granted

theorem edgeCountReached (hs : s.slotsReady) {e : MeasuredEdge} (h : execEdgeCountReached e s = .next t) :
    s.KeepsFills t := by
  cases h
  split
  · exact keepsFills_strayEdge _ s
  · next hm => exact .guarded (hs.measuredEdge (KeptByOps.measuredBy e hm) _).granted

theorem measureWindowExpiry (hs : s.slotsReady) (h : execMeasureWindowExpiry s = .next t) : s.KeepsFills t := by
  cases h
  split
  · exact .refl s
  · next hm => exact .guarded (keepsFills_failAttempt (hs.measuredUnfilled hm) hs.queueUnfilled _).granted

theorem measureBreak (hs : s.slotsReady) (h : execMeasureBreak s = .next t) : s.KeepsFills t := by
  cases h
  split
  · exact .refl s
  · next hm => exact .guarded (keepsFills_failAttempt (hs.measuredUnfilled hm) hs.queueUnfilled _).granted

/-! ### Triggers -/

theorem captureCharacter (hs : s.slotsReady) (l : LineNo) (data : Byte) (p f : Bool) :
    (captureCharacter l data p f s).slotsLaw := by
  unfold Machine.captureCharacter
  split
  · next hl =>
    split
    · exact hs.slots
    · exact slotsLaw_captureByte hs.slots hs.store hl hs.entries _ _ _
  · exact hs.slots

theorem breakIn (hs : s.slotsReady) (h : execBreakIn l s = .next t) : t.slotsLaw := by
  cases h
  split
  · next hl =>
    obtain ⟨hl, -⟩ := hl
    obtain ⟨-, hbreak⟩ := hs.options l
    exact (keepsFills_upGrant _).slotsLaw (slotsLaw_detectBreak hs.slots (hs.ring l) hl hbreak)
  · exact hs.slots

/-- The monitor may trigger, and the streak may take the line out of LIVE (R39, R67). -/
theorem sampleLine (hs : s.slotsReady) (hl : (s.line l).state = .live) : (sampleLine l s).slotsLaw := by
  obtain ⟨hburst, -⟩ := hs.options l
  have expired : (monitorExpiry l s).slotsLaw := slotsLaw_monitorExpiry hs.slots (hs.ring l) hl hburst
  have judged : (nextInterval l (monitorExpiry l s)).slotsLaw := State.KeepsFills.slotsLaw .modLine expired
  have steady := steady_monitorExpiry l s hl
  have lines := hs.lines.steady (steady.trans (steady_nextInterval l _ ((steady.state l).trans hl)))
  exact (keepsFills_judgeStreak judged (lines.queueUnfilled judged) l _ _).slotsLaw judged

theorem sampleExpiry (hs : s.slotsReady) (h : execSampleExpiry l s = .next t) : t.slotsLaw := by
  cases h
  split
  · next hl =>
    obtain ⟨hl, -⟩ := hl
    exact (keepsFills_upGrant _).slotsLaw (hs.sampleLine hl)
  · exact hs.slots

end State.slotsReady

/-! ### Timers -/

theorem keepsFills_fillLimitExpiry {k : SlotNo} (h : execFillLimitExpiry k s = .next t) : s.KeepsFills t := by
  cases h
  split
  · next hk =>
    obtain ⟨hf, -⟩ := hk
    exact (keepsFills_truncated hf).granted
  · exact .refl s

theorem keepsFills_gatherTimerExpiry (h : execGatherTimerExpiry l s = .next t) : s.KeepsFills t := by
  cases h
  exact .guarded (State.KeepsFills.granted .modLine)

theorem keepsFills_idleExpiry (h : execIdleExpiry l s = .next t) : s.KeepsFills t := by
  cases h
  split
  · exact (keepsFills_releaseHeld l _ _ _ s).granted
  · exact .refl s

theorem keepsFills_attendanceExpiry (h : execAttendanceExpiry s = .next t) : s.KeepsFills t := by
  have lapsed : s.KeepsFills (lapse s) := keepsFills_lapse s
  unfold execAttendanceExpiry at h
  generalize lapse s = w at lapsed h
  cases h
  exact .guarded lapsed.granted

theorem keepsFills_probeCharacterEnd (h : execProbeCharacterEnd s = .next t) : s.KeepsFills t := by
  cases h
  split
  · exact .refl s
  · exact .modLine

/-! ### The resets -/

/-- Starting the lines leaves the slots alone. -/
theorem startLines_slots (s : State) : (startLines s).slots = s.slots := by
  have started (ls : List LineNo) (t : State) : (ls.foldl (fun w l => startByRecord l w) t).slots = t.slots := by
    induction ls generalizing t with
    | nil => rfl
    | cons l ls ih => exact (ih _).trans (startByRecord_slots l t)
  exact (probeTake_slots _).trans (started _ s)

/-- Where no slot is FILLING the lines may start. -/
theorem slotsLaw_startLines (h : s.slotsInOrder) (hn : ∀ k, (s.slot k).state ≠ .filling) : (startLines s).slotsLaw := by
  have hslots := startLines_slots s
  refine slotsLaw_of_unfilled ((slotsInOrder_congr hslots).mpr h) fun l hf => ?_
  obtain ⟨k, hk, -⟩ := (fills_congr hslots).mp hf
  exact hn k hk

theorem slotsLaw_powerOn {straps : Straps} (h : execPowerOn straps s = .next t) : t.slotsLaw := by
  have blank : ∀ k, (powered straps s).slot k = .reset := fun k => by
    simp only [powered, State.slot, State.reset, Vector.getElem_replicate]
  have raised : ∀ k, (raiseUnit .resetDone (powered straps s)).slot k = .reset := fun k => by
    obtain ⟨d, e, -⟩ := raiseUnit_effect .resetDone (powered straps s)
    rw [e, told_slot, blank]
  have started : (startLines (raiseUnit .resetDone (powered straps s))).slotsLaw := by
    refine slotsLaw_startLines ⟨fun k => ?_, fun j k hj => ?_⟩ fun k => ?_
    · rw [raised]; exact Slot.reset_law
    · rw [raised] at hj; cases hj
    · rw [raised]; nofun
  unfold execPowerOn at h
  generalize startLines (raiseUnit .resetDone (powered straps s)) = w at started h
  cases h
  exact started

theorem Slot.law.cut {r : Slot} (h : r.law) : r.cut.law := by
  unfold Slot.cut
  split
  · next hf => exact h.completed hf
  · exact h

theorem cut_state (r : Slot) : r.cut.state ≠ .filling := by
  unfold Slot.cut
  split
  · nofun
  · assumption

theorem resetQueues_slots (s : State) : (resetQueues s).slots = s.slots := by
  unfold resetQueues
  rw [upGrant_slots]
  obtain ⟨n, h, -⟩ := placeWaiting_effect { s with
    sessions := Vector.replicate 32 .reset, requests := [], responses := [], upQueue := [], downQueue := []
    heldPlaces := 0, waitingTests := s.waitingTests ++ s.abortedTests, counters := .reset, lastMember := .data
    lastSession := 31, attendance := Attendance.started { s.attendance with lapses := 0 } s.unit.period
    resetPhase := .idle }
  rw [h]

/-- A reset truncates every FILLING slot, and only then starts the lines (R106). -/
theorem slotsLaw_unitResetApplied (hs : s.slotsLaw) (h : execUnitResetApplied s = .next t) : t.slotsLaw := by
  obtain ⟨-, -, -, -, -, hslot, -⟩ := blanked_state (resetQueues s)
  have cut (k : SlotNo) : (resetQueues s).blanked.slot k = (s.slot k).cut := by
    rw [hslot, slot_congr (resetQueues_slots s)]
  have ⟨hlaw, _⟩ := hs
  have started : (startLines (resetQueues s).blanked).slotsLaw := by
    refine slotsLaw_startLines ⟨fun k => ?_, fun j k hj => ?_⟩ fun k => ?_
    · rw [cut]; exact (hlaw k).cut
    · rw [cut] at hj; exact absurd hj (cut_state _)
    · rw [cut]; exact cut_state _
  cases h
  split
  · exact (keepsFills_upGrant _).slotsLaw started
  · exact hs

/-! ### Every command -/

theorem slotsLaw_exec (hs : s.slotsReady) (c : Instr) (h : exec c s = .next t) : t.slotsLaw := by
  have serves (k : RequestKind) {f : Request → State → Answer} (hf : OwnKeepsFills f) : (serve k f s).slotsLaw :=
    hf.slots.serve hs k
  have keeps {w : State} (k : s.KeepsFills w) : w.slotsLaw := k.slotsLaw hs.slots
  have reads {f : Request → State → Answer} (k : RequestKind) (hf : ∀ rq s, (f rq s).state = s) : (serve k f s).slotsLaw :=
    serves k (ownKeepsFills_reads hf)
  cases c with
  | powerOn => exact slotsLaw_powerOn h
  | upLinkDown => exact keeps (keepsFills_upLinkDown h)
  | downLinkDown => exact keeps (keepsFills_downLinkDown h)
  | linkComesUp => exact keeps (keepsFills_linkComesUp h)
  | upFrameArrival => cases h; exact keeps (.guarded (keepsFills_filterUp _ s).granted)
  | downFrameArrival => cases h; exact keeps (.guarded (keepsFills_joinUp _ s).granted)
  | upTransmitComplete => exact keeps (keepsFills_upTransmitComplete h)
  | downTransmitComplete => exact keeps (keepsFills_downTransmitComplete h)
  | unitResetApplied => exact slotsLaw_unitResetApplied hs.slots h
  | unitStatus => cases h; exact reads _ fun _ _ => rfl
  | unitSet => cases h; exact serves _ ownKeepsFills_unitSet
  | setTime => cases h; exact serves _ ownKeepsFills_setTime
  | unitReset => cases h; exact serves _ fun _ _ _ => .beside rfl rfl rfl
  | lineRead => cases h; exact serves _ fun _ s _ => keepsFills_onLine fun _ => .refl s
  | lineSet => cases h; exact serves _ ownKeepsFills_lineSet
  | lineEnable =>
    cases h
    exact serves _ fun _ s hs => keepsFills_onLine fun l => keepsFills_enableLine hs.slots hs.queueUnfilled l
  | lineDisable =>
    cases h
    exact serves _ fun _ s hs => keepsFills_onLine fun l => keepsFills_disableLine hs.slots hs.queueUnfilled l
  | lineMeasure => cases h; exact serves _ ownKeepsFills_lineMeasure
  | lineTest => cases h; exact serves _ ownKeepsFills_lineTest
  | rateTableRead => cases h; exact reads _ fun _ _ => rfl
  | rateTableSet => cases h; exact serves _ ownKeepsFills_rateTableSet
  | monitorRead => cases h; exact serves _ fun _ s _ => keepsFills_onLine fun _ => .refl s
  | monitorSet => cases h; exact serves _ ownKeepsFills_monitorSet
  | marksRead => cases h; exact serves _ fun _ s _ => keepsFills_onLine fun _ => .refl s
  | eventsRead => cases h; exact serves _ ownKeepsFills_eventsRead
  | watchRead => cases h; exact reads _ fun _ _ => by unfold watchRead; split <;> rfl
  | watchSet => cases h; exact serves _ ownKeepsFills_watchSet
  | snapshotList => cases h; exact reads _ fun _ _ => rfl
  | snapshotRead => cases h; exact reads _ fun _ _ => by unfold snapshotRead; split <;> rfl
  | snapshotFree => cases h; exact serves _ ownKeepsFills_snapshotFree
  | snapshotTake => cases h; exact ownKeepsSlots_snapshotTake.serve hs _
  | openSession => cases h; exact serves _ ownKeepsFills_openSession
  | closeSession => cases h; exact serves _ fun _ s _ => keepsFills_onSession fun i => keepsFills_closeRecord i _ s
  | seek => cases h; exact serves _ ownKeepsFills_seek
  | credit => cases h; exact serves _ ownKeepsFills_credit
  | floorRequest => cases h; exact serves _ ownKeepsFills_floorRequest
  | floorRelease => cases h; exact serves _ fun _ s _ => keepsFills_onSession fun i => keepsFills_leaveFloor i _ s
  | typeBytes => cases h; exact serves _ ownKeepsFills_typeBytes
  | sendBreak => cases h; exact serves _ ownKeepsFills_sendBreak
  | unknownKindRequest => exact keeps (keepsFills_unknownKindRequest h)
  | characterCapture => cases h; exact (keepsFills_upGrant _).slotsLaw (hs.captureCharacter _ _ _ _)
  | framingErrorCapture => cases h; exact (keepsFills_upGrant _).slotsLaw (hs.captureCharacter _ _ _ _)
  | breakIn => exact hs.breakIn h
  | loopCharacterReceived => exact keeps (hs.loopCharacterReceived h)
  | loopTestTimeout => exact keeps (hs.loopTestTimeout h)
  | byteTransmitted => exact keeps (keepsFills_byteTransmitted h)
  | breakOutEnd => exact keeps (keepsFills_breakOutEnd h)
  | pacingGapExpiry => exact keeps (keepsFills_pacingGapExpiry h)
  | holdExpiry => exact keeps (keepsFills_holdExpiry h)
  | edgeCountReached => exact keeps (hs.edgeCountReached h)
  | measureWindowExpiry => exact keeps (hs.measureWindowExpiry h)
  | measureBreak => exact keeps (hs.measureBreak h)
  | sampleExpiry => exact hs.sampleExpiry h
  | burstTimeout => cases h; exact keeps (.guarded (keepsFills_burstTimesOut _ s).granted)
  | holdoffExpiry => cases h; exact keeps (.guarded (.modLine fun _ => rfl))
  | fillLimitExpiry => exact keeps (keepsFills_fillLimitExpiry h)
  | gatherTimerExpiry => exact keeps (keepsFills_gatherTimerExpiry h)
  | keepTimerExpiry => cases h; exact keeps (.guarded (keepsFills_closeRecord _ _ s).granted)
  | idleExpiry => exact keeps (keepsFills_idleExpiry h)
  | attendanceExpiry => exact keeps (keepsFills_attendanceExpiry h)
  | measureEdge => exact keeps (hs.measureEdge h)
  | startEdge => cases h; exact keeps (.line (atStartEdge_state _ _))
  | rxdReturnToMark => cases h; exact keeps (.line (atReturnToMark_state _))
  | probeCharacterEnd => exact keeps (keepsFills_probeCharacterEnd h)
  | patternByteSent => exact keeps (hs.patternByteSent h)
  | breakSpaceEnd => exact keeps (keepsFills_breakSpaceEnd h)

/-- Settles O10: no FILLING slot begins but by a trigger on a LIVE line, and a line that leaves LIVE has its slot
truncated. -/
theorem slotsKept : Obligations.SlotsKept := by
  intro s t hstore hlines hconfig hslots h
  unfold step at h
  split at h
  · cases h
    exact (keepsFills_tick s).slotsLaw hslots
  · next c rest _ =>
    have hs : (s.withPending rest).slotsReady := ⟨hstore, ⟨hlines, False.elim⟩, hconfig, hslots⟩
    exact slotsLaw_exec hs c h

end Sys2Proof.Machine
end

section
/-! SUPPORT. The law of floors (R127, R136 to R139) taken apart: who is seated at a floor, and what the floor says of
its own line; the changes of one floor that keep each part. -/

namespace Sys2Proof.Machine

variable {u v : Line} {f : Floor} {speaks : SessionNo → Prop} {i : SessionNo}

/-! ### Who is seated at a floor -/

/-- The holder or parked session and the waiters of a floor may speak there, no waiter stands twice or holds, and nobody
waits unless the floor is HELD (R127). -/
def Floor.seats (f : Floor) (speaks : SessionNo → Prop) : Prop :=
  f.waiting.Nodup ∧ (∀ i ∈ f.waiting, speaks i)
    ∧ (match f.state with
      | .free => f.waiting = []
      | .parked p => speaks p ∧ f.waiting = []
      | .held h => speaks h ∧ h ∉ f.waiting)

theorem floorLaw_iff {s : State} {l : LineNo} : s.floorLaw l ↔ (s.line l).floor.seats (s.maySpeak l) := Iff.rfl

namespace Floor.seats

/-- The law of seats looks at who is seated alone. -/
theorem congr {g : Floor} (h : f.seats speaks) (hs : g.state = f.state) (hw : g.waiting = f.waiting) :
    g.seats speaks := by
  unfold Floor.seats
  rw [hs, hw]
  exact h

theorem mono {others : SessionNo → Prop} (h : f.seats speaks) (hi : ∀ i, speaks i → others i) : f.seats others := by
  obtain ⟨hnodup, hwait, hstate⟩ := h
  refine ⟨hnodup, fun i hm => hi i (hwait i hm), ?_⟩
  cases hf : f.state with
  | free => rw [hf] at hstate; exact hstate
  | parked p => rw [hf] at hstate; exact ⟨hi p hstate.1, hstate.2⟩
  | held h => rw [hf] at hstate; exact ⟨hi h hstate.1, hstate.2⟩

/-- Nobody sits at a FREE floor without a list. -/
theorem ofEmpty (hs : f.state = .free) (hw : f.waiting = []) : f.seats speaks := by
  unfold Floor.seats
  rw [hs, hw]
  exact ⟨List.nodup_nil, by simp, rfl⟩

/-- A session that may speak holds the floor, out of the list (R132). -/
theorem holds (hn : f.waiting.Nodup) (hw : ∀ j ∈ f.waiting, speaks j) (hi : speaks i) (idle : IdleTimer) :
    Floor.seats { f with state := .held i, waiting := f.waiting.erase i, idle := idle } speaks :=
  ⟨hn.erase i, fun j hj => hw j (List.mem_of_mem_erase hj), hi, hn.not_mem_erase⟩

/-- A session that neither holds the floor nor is parked there leaves the list, and sits there no more (R134). -/
theorem leaves (h : f.seats speaks) (hheld : f.state ≠ .held i) (hparked : f.state ≠ .parked i) :
    Floor.seats { f with waiting := f.waiting.erase i } fun j => speaks j ∧ j ≠ i := by
  obtain ⟨hn, hw, hstate⟩ := h
  refine ⟨hn.erase i, fun j hj => ?_, ?_⟩
  · obtain ⟨hne, hj⟩ := hn.mem_erase_iff.mp hj
    exact ⟨hw j hj, hne⟩
  · cases hf : f.state with
    | free => rw [hf] at hstate; simp only [hstate, List.erase_nil]
    | parked p =>
      rw [hf] at hstate hparked
      obtain ⟨hp, hnone⟩ := hstate
      simp only [hnone, List.erase_nil, and_true]
      exact ⟨hp, fun e => hparked (congrArg _ e)⟩
    | held h =>
      rw [hf] at hstate hheld
      obtain ⟨hh, hout⟩ := hstate
      exact ⟨⟨hh, fun e => hheld (congrArg _ e)⟩, fun hm => hout (List.mem_of_mem_erase hm)⟩

/-- A session that may speak joins the tail of the list of another's floor (R130). -/
theorem queues (h : f.seats speaks) {p : SessionNo} (hf : f.state = .held p) (hne : p ≠ i) (hi : speaks i)
    (hout : i ∉ f.waiting) : Floor.seats { f with waiting := f.waiting ++ [i] } speaks := by
  obtain ⟨hn, hw, hstate⟩ := h
  rw [hf] at hstate
  refine ⟨?_, fun j hj => ?_, ?_⟩
  · exact hn.append (List.nodup_singleton i) (List.disjoint_singleton.mpr hout)
  · rcases List.mem_append.mp hj with hj | hj
    · exact hw j hj
    · rw [List.mem_singleton.mp hj]; exact hi
  · simp only [hf]
    exact ⟨hstate.1, by simpa using ⟨hstate.2, hne⟩⟩

end Floor.seats

/-! ### What the floor says of its own line -/

/-- A line on which no floor may be taken (R129, R136). -/
def Line.shut (u : Line) : Prop := u.state = .off ∨ u.state = .dark ∨ ∃ t, u.test = some t ∧ t.prior = .off

/-- The law of floors but for who is seated: the idle timer as the floor says, a FREE floor where none may be taken,
and line busy as the monitor last reported (R136, R138, R139). -/
def Line.arbiterLaw (u : Line) : Prop :=
  u.idleLaw ∧ u.floorClosedLaw ∧ u.floor.busy = u.monitor.state.bursting

theorem floorsLaw_iff {s : State} : s.floorsLaw ↔ (∀ l, s.floorLaw l) ∧ ∀ l, (s.line l).arbiterLaw :=
  ⟨fun h => ⟨fun l => (h l).1, fun l => (h l).2⟩, fun ⟨hseats, hlines⟩ l => ⟨hseats l, hlines l⟩⟩

/-- A line with the floor of another, and like it in all that the law of a floor reads. -/
structure Line.FloorAs (u v : Line) : Prop where
  floor : v.floor = u.floor
  floorIdle : v.record.floorIdle = u.record.floorIdle
  state : v.state = u.state
  prior : v.test.map LoopTest.prior = u.test.map LoopTest.prior
  bursting : v.monitor.state.bursting = u.monitor.state.bursting

/-- What the law of a floor reads of its line. -/
def Line.seen (u : Line) : Floor × Nat × LineState × Option LoopPrior × Bool :=
  (u.floor, u.record.floorIdle, u.state, u.test.map LoopTest.prior, u.monitor.state.bursting)

theorem Line.FloorAs.of (h : v.seen = u.seen) : u.FloorAs v := by
  simp only [Line.seen, Prod.mk.injEq] at h
  obtain ⟨hf, hi, hs, hp, hb⟩ := h
  exact ⟨hf, hi, hs, hp, hb⟩

/-- A line whose floor is not FREE is not shut. -/
theorem Line.arbiterLaw.notShut (h : u.arbiterLaw) (hf : u.floor.state ≠ .free) : ¬ u.shut := fun hs => hf (h.2.1 hs)

theorem Line.FloorAs.shut (h : u.FloorAs v) (hv : v.shut) : u.shut := by
  rcases hv with hv | hv | ⟨x, hx, hp⟩
  · exact .inl (h.state ▸ hv)
  · exact .inr (.inl (h.state ▸ hv))
  · have hm := h.prior
    rw [hx] at hm
    obtain ⟨y, hy, hyp⟩ := Option.map_eq_some_iff.mp hm.symm
    exact .inr (.inr ⟨y, hy, hyp.trans hp⟩)

/-- The idle timer of a HELD floor at full length is as the law asks (R138). -/
theorem idleLaw_of_full (hs : u.floor.state = .held i) (hi : u.floor.idle = u.idleFull) : u.idleLaw := by
  unfold Line.idleLaw
  rw [hs, hi]
  unfold Line.idleFull
  simp only
  split
  · rfl
  · split
    · rfl
    · exact ⟨_, rfl⟩

theorem idleLaw_of_stopped (hs : ∀ i, u.floor.state ≠ .held i) (hi : u.floor.idle = .stopped) : u.idleLaw := by
  unfold Line.idleLaw
  cases hf : u.floor.state with
  | held i => exact absurd hf (hs i)
  | free => exact hi
  | parked p => exact hi

theorem Line.idleLaw.stopped (h : u.idleLaw) (hs : ∀ i, u.floor.state ≠ .held i) : u.floor.idle = .stopped := by
  unfold Line.idleLaw at h
  cases hf : u.floor.state with
  | held i => exact absurd hf (hs i)
  | free => rw [hf] at h; exact h
  | parked p => rw [hf] at h; exact h

namespace Line.arbiterLaw

/-- A line that keeps its floor, and is not shut where it was not before, keeps the law (R136). -/
theorem moves (h : u.arbiterLaw) (hf : v.floor = u.floor) (hr : v.record.floorIdle = u.record.floorIdle)
    (hs : v.shut → u.shut) (hm : v.monitor.state.bursting = u.monitor.state.bursting) : v.arbiterLaw := by
  obtain ⟨hidle, hclosed, hbusy⟩ := h
  refine ⟨?_, fun hv => by rw [hf]; exact hclosed (hs hv), by rw [hf, hm]; exact hbusy⟩
  unfold Line.idleLaw at hidle ⊢
  rw [hf, hr]
  exact hidle

theorem transfer (h : u.arbiterLaw) (k : u.FloorAs v) : v.arbiterLaw := h.moves k.floor k.floorIdle k.shut k.bursting

/-- The floor is held, its idle timer at full length (R132, R138). -/
theorem holds (h : u.arbiterLaw) (hopen : ¬ u.shut) (i : SessionNo) (w : List SessionNo) :
    Line.arbiterLaw { u with floor := { u.floor with state := .held i, waiting := w, idle := u.idleFull } } :=
  ⟨idleLaw_of_full rfl rfl, fun hs => absurd hs hopen, h.2.2⟩

/-- The floor is left, FREE or PARKED (R132, R140). -/
theorem left (h : u.arbiterLaw) {e : FloorState} (he : e = .free ∨ ¬ u.shut ∧ ∃ p, e = .parked p) (w : List SessionNo) :
    Line.arbiterLaw { u with floor := { u.floor with state := e, waiting := w, idle := .stopped } } := by
  refine ⟨idleLaw_of_stopped (fun i => ?_) rfl, fun hs => ?_, h.2.2⟩
  · rcases he with rfl | ⟨-, p, rfl⟩ <;> nofun
  · rcases he with rfl | ⟨hopen, -⟩
    · rfl
    · exact absurd hs hopen

/-- The list alone changes. -/
theorem listed (h : u.arbiterLaw) (w : List SessionNo) :
    Line.arbiterLaw { u with floor := { u.floor with waiting := w } } := h

/-- The idle timer of a HELD floor starts afresh, whatever it was and whatever the setting (R138). -/
theorem restarts (hstopped : (∀ i, u.floor.state ≠ .held i) → u.floor.idle = .stopped) (hclosed : u.floorClosedLaw)
    (hbusy : u.floor.busy = u.monitor.state.bursting) :
    Line.arbiterLaw { u with floor := { u.floor with
      idle := match u.floor.state with | .held _ => u.idleFull | _ => u.floor.idle } } := by
  refine ⟨?_, hclosed, hbusy⟩
  cases hf : u.floor.state with
  | held i => exact idleLaw_of_full (i := i) hf (by simp only [hf]; rfl)
  | free => exact idleLaw_of_stopped (by simp [hf]) (hstopped (by simp [hf]))
  | parked p => exact idleLaw_of_stopped (by simp [hf]) (hstopped (by simp [hf]))

/-- The monitor reports the line quiet (R139). -/
theorem quiets (h : u.arbiterLaw) (hf : v.floor = u.floorQuieted) (hr : v.record = u.record) (hs : v.shut → u.shut)
    (hm : v.monitor.state.bursting = false) : v.arbiterLaw := by
  obtain ⟨hidle, hclosed, -⟩ := h
  refine ⟨?_, fun hv => by rw [hf]; exact hclosed (hs hv), by rw [hf, hm]; rfl⟩
  cases hst : u.floor.state with
  | held i =>
    refine idleLaw_of_full (i := i) (by rw [hf]; exact hst) ?_
    unfold Line.idleFull
    rw [hf, hr]
    simp only [Line.floorQuieted, hst, Bool.false_eq_true, if_false]
  | free =>
    have hstopped := hidle.stopped (by simp [hst])
    exact idleLaw_of_stopped (by simp [hf, Line.floorQuieted, hst]) (by simp [hf, Line.floorQuieted, hst, hstopped])
  | parked p =>
    have hstopped := hidle.stopped (by simp [hst])
    exact idleLaw_of_stopped (by simp [hf, Line.floorQuieted, hst]) (by simp [hf, Line.floorQuieted, hst, hstopped])

/-- The monitor reports the line busy: a running idle timer is held still (R139). -/
theorem busies (h : u.arbiterLaw) (hf : v.floor = u.floor.heldBusy) (hr : v.record = u.record) (hs : v.shut → u.shut)
    (hm : v.monitor.state.bursting = true) : v.arbiterLaw := by
  obtain ⟨hidle, hclosed, -⟩ := h
  refine ⟨?_, fun hv => by rw [hf]; exact hclosed (hs hv), by rw [hf, hm]; rfl⟩
  unfold Line.idleLaw at hidle ⊢
  rw [hf, hr]
  unfold Floor.heldBusy
  cases hst : u.floor.state with
  | held i =>
    rw [hst] at hidle
    simp only [if_true] at hidle ⊢
    split at hidle
    · next hz => rw [if_pos hz, hidle]
    · next hz =>
      rw [if_neg hz]
      split at hidle
      · rw [hidle]
      · obtain ⟨left, hl⟩ := hidle
        rw [hl]
  | free | parked =>
    rw [hst] at hidle
    simp only at hidle ⊢
    rw [hidle]

/-- A FREE floor on a line that is not bursting (R136). -/
theorem ofFree (hs : u.floor.state = .free) (hi : u.floor.idle = .stopped)
    (hb : u.floor.busy = u.monitor.state.bursting) : u.arbiterLaw :=
  ⟨idleLaw_of_stopped (by simp [hs]) hi, fun _ => hs, hb⟩

end Line.arbiterLaw

/-- A line in a state other than OFF and DARK that has no test is not shut. -/
theorem not_shut (ht : u.test = none) (h1 : u.state ≠ .off) (h2 : u.state ≠ .dark) : ¬ u.shut := by
  rintro (h | h | ⟨x, hx, -⟩)
  · exact h1 h
  · exact h2 h
  · rw [ht] at hx
    cases hx

end Sys2Proof.Machine
end

section
/-! SUPPORT. Changes of the part that keep its floors in order (R127, R136 to R139) and its attendance (R144, R170): what
they are, and that most operations are among them for they touch no floor. -/

namespace Sys2Proof.Machine

variable {strict : Prop} {s t x : State} {l : LineNo} {v : Line}

/-! ### Changes that keep the floors -/

/-- From `s` to `t` who is seated at the floors stays in order, and so does the attendance, and under `strict`, where a
line's monitor and state are known to agree, what every floor says of its own line. -/
structure State.KeepsFloors (strict : Prop) (s t : State) : Prop where
  seats : (∀ l, s.floorLaw l) → ∀ l, t.floorLaw l
  lines : strict → (∀ l, (s.line l).arbiterLaw) → ∀ l, (t.line l).arbiterLaw
  attendance : s.attendanceLaw → t.attendanceLaw

/-- Sessions that agree in what a floor asks of them may speak on the same lines (R127). -/
theorem maySpeak_of (h : ∀ i, (t.session i).isOpen = (s.session i).isOpen ∧ (t.session i).role = (s.session i).role
    ∧ (t.session i).line = (s.session i).line) (l : LineNo) (i : SessionNo) (hs : s.maySpeak l i) : t.maySpeak l i := by
  obtain ⟨hopen, hrole, hline⟩ := h i
  unfold State.maySpeak
  rw [hopen, hrole, hline]
  exact hs

/-- The lines, the sessions and what the law of attendance reads. -/
def State.seen (s : State) : Vector Line 24 × Vector Session 32 × Attendance × AttendancePeriod :=
  (s.lines, s.sessions, s.attendance, s.unit.period)

namespace State.KeepsFloors

theorem floorsLaw (h : s.KeepsFloors strict t) (hstrict : strict) (hs : s.floorsLaw) : t.floorsLaw := by
  obtain ⟨hseats, hlines⟩ := floorsLaw_iff.mp hs
  exact floorsLaw_iff.mpr ⟨h.seats hseats, h.lines hstrict hlines⟩

theorem trans (h : s.KeepsFloors strict t) (k : t.KeepsFloors strict x) : s.KeepsFloors strict x :=
  ⟨fun hs => k.seats (h.seats hs), fun hst hs => k.lines hst (h.lines hst hs), fun hs => k.attendance (h.attendance hs)⟩

/-- Each floor goes on by itself, no session stops speaking, and the attendance is as it was. -/
theorem ofEach (hspeak : ∀ l i, s.maySpeak l i → t.maySpeak l i)
    (hseats : ∀ l, s.floorLaw l → (t.line l).floor.seats (s.maySpeak l))
    (hlines : strict → ∀ l, (s.line l).arbiterLaw → (t.line l).arbiterLaw)
    (hfreed : s.attendanceLaw → s.attendance.state = .unattended → ∀ l, (s.line l).floor.state = .free →
      (t.line l).floor.state = .free)
    (ha : t.attendance = s.attendance) (hp : t.unit.period = s.unit.period) : s.KeepsFloors strict t where
  seats := fun h l => (hseats l (h l)).mono (hspeak l)
  lines := fun hst h l => hlines hst l (h l)
  attendance := fun h => by
    have hfree := hfreed h
    obtain ⟨hoff, hleft, hun⟩ := h
    unfold State.attendanceLaw
    rw [ha, hp]
    exact ⟨hoff, hleft, fun hu l => hfree hu l (hun hu l)⟩

/-- The lines change, and no floor of theirs. -/
theorem still (hl : ∀ l, (s.line l).FloorAs (t.line l)) (hspeak : ∀ l i, s.maySpeak l i → t.maySpeak l i)
    (ha : t.attendance = s.attendance) (hp : t.unit.period = s.unit.period) : s.KeepsFloors strict t :=
  ofEach hspeak (fun l h => Floor.seats.congr h (by rw [(hl l).floor]) (by rw [(hl l).floor]))
    (fun _ l h => h.transfer (hl l)) (fun _ _ l h => by rw [(hl l).floor]; exact h) ha hp

/-- The lines stay, no session stops speaking, and the attendance is as it was. -/
theorem besideSpeaking (hl : t.lines = s.lines) (hspeak : ∀ l i, s.maySpeak l i → t.maySpeak l i)
    (ha : t.attendance = s.attendance) (hp : t.unit.period = s.unit.period) : s.KeepsFloors strict t :=
  still (fun l => by rw [State.line, State.line, hl]; exact .of rfl) hspeak ha hp

/-- Nothing changes in the lines, the sessions and the attendance. -/
theorem beside (h : t.seen = s.seen) : s.KeepsFloors strict t := by
  simp only [State.seen, Prod.mk.injEq] at h
  obtain ⟨hl, hs, ha, hp⟩ := h
  exact besideSpeaking hl (maySpeak_of fun i => by rw [State.session, State.session, hs]; exact ⟨rfl, rfl, rfl⟩) ha hp

theorem refl (s : State) : s.KeepsFloors strict s := beside rfl

/-- What follows a change beside lines, sessions and attendance. -/
theorem after (k : t.KeepsFloors strict x) (h : t.seen = s.seen) : s.KeepsFloors strict x := (beside h).trans k

/-- One line is written, its floor in order. -/
theorem put (hseats : (s.line l).floor.seats (s.maySpeak l) → v.floor.seats (s.maySpeak l))
    (hlines : strict → (s.line l).arbiterLaw → v.arbiterLaw)
    (hfreed : s.attendanceLaw → s.attendance.state = .unattended → (s.line l).floor.state = .free →
      v.floor.state = .free) : s.KeepsFloors strict (s.setLine l v) := by
  refine ofEach (fun _ _ h => h) (fun j h => ?_) (fun hst j h => ?_) (fun ha hu j h => ?_) rfl rfl <;>
    rw [setLine_line] <;> split
  · next hj => subst hj; exact hseats h
  · exact h
  · next hj => subst hj; exact hlines hst h
  · exact h
  · next hj => subst hj; exact hfreed ha hu h
  · exact h

/-- One line is written with the same seats at its floor. -/
theorem putSeated (hs : v.floor.state = (s.line l).floor.state) (hw : v.floor.waiting = (s.line l).floor.waiting)
    (hlines : strict → (s.line l).arbiterLaw → v.arbiterLaw) : s.KeepsFloors strict (s.setLine l v) :=
  put (fun h => h.congr hs hw) hlines fun _ _ h => hs.trans h

/-- One line changes beside its floor. -/
theorem line (h : (s.line l).FloorAs v) : s.KeepsFloors strict (s.setLine l v) :=
  putSeated (by rw [h.floor]) (by rw [h.floor]) fun _ hu => hu.transfer h

theorem modLine {g : Line → Line} (h : ∀ u : Line, u.FloorAs (g u)) : s.KeepsFloors strict (s.modLine l g) := line (h _)

theorem mapLines {g : LineNo → Line → Line} (h : ∀ l, (s.line l).FloorAs (g l (s.line l))) :
    s.KeepsFloors strict (s.mapLines g) :=
  still (fun l => by rw [mapLines_line]; exact h l) (maySpeak_of fun i => by simp) (by simp) (by simp)

theorem told (h : s.KeepsFloors strict t) (d : Told) : s.KeepsFloors strict (t.told d) := h.trans (beside rfl)

theorem setSlot (h : s.KeepsFloors strict t) (k : SlotNo) (q : Slot) : s.KeepsFloors strict (t.setSlot k q) :=
  h.trans (beside rfl)

/-- One line changes beside its floor, and something is told. -/
theorem reported (d : Told) (h : (s.line l).FloorAs v) : s.KeepsFloors strict ((s.setLine l v).told d) := (line h).told d

theorem foldl {α : Type} {g : State → α → State} (h : ∀ a (t : State), t.KeepsFloors strict (g t a)) (as : List α)
    (s : State) : s.KeepsFloors strict (as.foldl g s) := by
  induction as generalizing s with
  | nil => exact refl s
  | cons a as ih => exact (h a s).trans (ih _)

theorem forLines {g : LineNo → State → State} (h : ∀ l (t : State), t.KeepsFloors strict (g l t)) :
    s.KeepsFloors strict (s.forLines g) := foldl h _ s

/-- An event that cannot occur changes nothing (assumption log 1). -/
theorem guarded {c : Prop} [Decidable c] (h : c → s.KeepsFloors strict t) :
    s.KeepsFloors strict (if c then t else s) := by
  split
  · next hc => exact h hc
  · exact refl s

end State.KeepsFloors

/-! ### Sessions -/

/-- Of sessions at most cursor, credit and gap change. -/
theorem maySpeak_of_served {ss : Vector Session 32} (h : ∀ j : SessionNo, ∃ cursor credit gap,
    ss[j.val] = { s.session j with cursor := cursor, credit := credit, gap := gap }) (l : LineNo) (i : SessionNo)
    (hs : s.maySpeak l i) : State.maySpeak { s with sessions := ss } l i := by
  refine maySpeak_of (fun i => ?_) l i hs
  obtain ⟨cursor, credit, gap, e⟩ := h i
  rw [State.session, e]
  exact ⟨rfl, rfl, rfl⟩

theorem keepsFloors_mapSessions {f : SessionNo → Session → Session} (h : ∀ i (r : Session),
    (f i r).isOpen = r.isOpen ∧ (f i r).role = r.role ∧ (f i r).line = r.line) (s : State) :
    s.KeepsFloors strict (s.mapSessions f) :=
  .besideSpeaking (by simp) (maySpeak_of fun i => by rw [mapSessions_session]; exact h i _) (by simp) (by simp)

theorem keepsFloors_grantData (s : State) : s.KeepsFloors strict (grantData s) := by
  obtain ⟨_, _, _, ss, h, hs⟩ := grantData_effect s
  rw [h]
  exact .besideSpeaking rfl (maySpeak_of_served hs) rfl rfl

theorem keepsFloors_upGrant (s : State) : s.KeepsFloors strict (upGrant s) := by
  obtain ⟨_, _, _, _, _, _, ss, h, hs⟩ := upGrant_effect s
  rw [h]
  exact .besideSpeaking rfl (maySpeak_of_served hs) rfl rfl

theorem State.KeepsFloors.granted (h : s.KeepsFloors strict t) : s.KeepsFloors strict (upGrant t) :=
  h.trans (keepsFloors_upGrant t)

/-- The cursors that an `oldest` passes move, no session opens or closes (R117). -/
theorem keepsFloors_reportOldest (l : LineNo) (n : Nat) (s : State) : s.KeepsFloors strict (reportOldest l n s) :=
  keepsFloors_mapSessions (fun _ r => by
    obtain ⟨_, _, _, h, -⟩ := passedBy_effect r l n
    rw [h]
    exact ⟨rfl, rfl, rfl⟩) s

/-! ### Alerts, frames and marks -/

theorem keepsFloors_raiseUnit (e : UnitEvent) (s : State) : s.KeepsFloors strict (raiseUnit e s) := by
  obtain ⟨d, h, -⟩ := raiseUnit_effect e s
  rw [h]
  exact (State.KeepsFloors.refl s).told d

theorem keepsFloors_raiseLine (l : LineNo) (e : LineEvent) (ws : BitVec 64) (rs : BitVec 3) (a : Nat) (s : State) :
    s.KeepsFloors strict (raiseLine l e ws rs a s) := by
  obtain ⟨_, d, h, -⟩ := raiseLine_effect l e ws rs a s
  rw [h]
  exact .reported d (.of rfl)

theorem keepsFloors_raisePlain (l : LineNo) (e : LineEvent) (s : State) : s.KeepsFloors strict (raisePlain l e s) :=
  keepsFloors_raiseLine l e 0 0 0 s

theorem keepsFloors_appendMark (l : LineNo) (k : MarkKind) (a : Nat) (s : State) :
    s.KeepsFloors strict (appendMark l k a s) := by
  obtain ⟨_, _, h, -⟩ := appendMark_effect l k a s
  rw [h]
  exact .line (.of rfl)

theorem keepsFloors_pushResponse (f : OutFrame) (s : State) : s.KeepsFloors strict (s.pushResponse f) :=
  .besideSpeaking (by simp) (maySpeak_of fun _ => by simp) (by simp) (by simp)

theorem keepsFloors_noticeLost (l : LineNo) (i : SessionNo) (r : Option LostReason) (s : State) :
    s.KeepsFloors strict (noticeLost l i r s) := by
  obtain ⟨d, h, -⟩ := noticeLost_effect l i r s
  rw [h]
  exact (State.KeepsFloors.refl s).told d

theorem keepsFloors_placeTest (f : OutFrame) (s : State) : s.KeepsFloors strict (placeTest f s) := by
  unfold placeTest
  split
  · exact keepsFloors_pushResponse f s
  · exact .beside rfl

theorem keepsFloors_abortTest (l : LineNo) (s : State) : s.KeepsFloors strict (abortTest l s) := by
  unfold abortTest
  split
  · exact .refl s
  · exact keepsFloors_placeTest _ s

/-! ### Slots -/

theorem keepsFloors_completeSlot (k : SlotNo) (b : Bool) (s : State) : s.KeepsFloors strict (completeSlot k b s) := by
  obtain ⟨_, d, h⟩ := completeSlot_effect k b s
  rw [h]
  exact State.KeepsFloors.trans ((State.KeepsFloors.refl s).setSlot k _) (.reported d (by exact .of rfl))

theorem keepsFloors_truncateFor (l : LineNo) (s : State) : s.KeepsFloors strict (truncateFor l s) := by
  unfold truncateFor
  split
  · exact .refl s
  · exact keepsFloors_completeSlot _ _ s

theorem keepsFloors_slotByte (l : LineNo) (b : Byte) (s : State) : s.KeepsFloors strict (slotByte l b s) := by
  have taken (k : SlotNo) (q : Slot) : s.KeepsFloors strict (s.setSlot k q) := (State.KeepsFloors.refl s).setSlot k q
  unfold slotByte
  split
  · exact .refl s
  · simp only
    split
    · exact (taken _ _).trans (keepsFloors_completeSlot _ _ _)
    · exact taken _ _

theorem keepsFloors_fireTrigger (g : Trigger) (s : State) : s.KeepsFloors strict (fireTrigger g s) := by
  obtain ⟨t, _, _, _, d, h, ht⟩ := fireTrigger_effect g s
  rw [h]
  rcases ht with rfl | ⟨k, q, rfl⟩
  · exact .reported d (.of rfl)
  · exact State.KeepsFloors.trans ((State.KeepsFloors.refl s).setSlot k q) (.reported d (by exact .of rfl))

theorem keepsFloors_optionTrigger (l : LineNo) (c : Cause) (o : Option SnapshotLengths) (s : State) :
    s.KeepsFloors strict (optionTrigger l c o s) := by
  cases o with
  | none => exact .refl s
  | some p => exact keepsFloors_fireTrigger _ s

/-! ### Transmitters and pins -/

theorem keepsFloors_startElement (l : LineNo) (s : State) : s.KeepsFloors strict (startElement l s) := by
  rcases startElement_effect l s with h | ⟨_, _, _, _, _, h, -⟩ <;> rw [h]
  · exact .refl s
  · exact .line (.of rfl)

theorem keepsFloors_beginGap (l : LineNo) (ms : Nat) (s : State) : s.KeepsFloors strict (beginGap l ms s) :=
  State.KeepsFloors.trans (.modLine (by exact fun _ => .of rfl)) (keepsFloors_startElement l _)

theorem keepsFloors_byteDone (l : LineNo) (b : Byte) (s : State) : s.KeepsFloors strict (byteDone l b s) :=
  State.KeepsFloors.trans (.modLine (by exact fun _ => .of rfl)) (keepsFloors_beginGap l _ _)

theorem keepsFloors_settleHold (l : LineNo) (s : State) : s.KeepsFloors strict (settleHold l s) := by
  have unheld : s.KeepsFloors strict (s.setLine l { s.line l with hold := none }) :=
    .line (.of rfl)
  unfold settleHold
  simp only
  split
  · exact unheld.trans (keepsFloors_startElement l _)
  · exact .refl s

theorem floorAs_atReturnToMark (u : Line) : u.FloorAs u.atReturnToMark := by
  unfold Line.atReturnToMark
  split <;> exact .of rfl

theorem floorAs_strayEdge (u : Line) : u.FloorAs u.strayEdge := by
  unfold Line.strayEdge
  split
  · exact .of rfl
  · exact floorAs_atReturnToMark u
  · exact .of rfl

theorem floorAs_atStartEdge (u : Line) (b : Bool) : u.FloorAs (u.atStartEdge b) := by
  unfold Line.atStartEdge
  split
  case h_1 => split <;> exact .of rfl
  all_goals exact .of rfl

theorem keepsFloors_strayEdge (l : LineNo) (s : State) : s.KeepsFloors strict (s.modLine l Line.strayEdge) :=
  .modLine floorAs_strayEdge

end Sys2Proof.Machine
end

section
/-! SUPPORT. The operations of the Floor Arbiter keep the floors in order (R130, R132 to R139, R144). -/

namespace Sys2Proof.Machine

variable {strict : Prop} {s t : State} {l : LineNo} {i : SessionNo}

/-! ### Idle timers and holders -/

theorem keepsFloors_restartIdle (l : LineNo) (s : State) : s.KeepsFloors strict (restartIdle l s) := by
  rw [restartIdle_effect]
  refine .putSeated rfl rfl fun _ h => ?_
  obtain ⟨hidle, hclosed, hbusy⟩ := h
  exact Line.arbiterLaw.restarts hidle.stopped hclosed hbusy

/-- A session that may speak becomes holder where the line is not shut and the unit is not UNATTENDED, or the floor was
not FREE (R127, R132). -/
theorem keepsFloors_becomeHolder (hi : s.floorLaw l → s.maySpeak l i)
    (hopen : strict → (s.line l).arbiterLaw → ¬ (s.line l).shut)
    (htaken : s.attendanceLaw → s.attendance.state = .unattended → (s.line l).floor.state ≠ .free) :
    s.KeepsFloors strict (becomeHolder l i s) := by
  refine .put (fun h => ?_) (fun hst h => h.holds (hopen hst h) i _) fun ha hu hf => absurd hf (htaken ha hu)
  have hi := hi h
  obtain ⟨hn, hw, -⟩ := h
  exact .holds hn hw hi _

/-- The holder leaves, the floor is served or becomes as `e` says (R132). -/
theorem keepsFloors_releaseHeld {h : SessionNo} (hf : (s.line l).floor.state = .held h) {e : FloorState}
    (he : e = .free ∨ e = .parked h) (r : Option LostReason) : s.KeepsFloors strict (releaseHeld l h r e s) := by
  have taken : (s.line l).floor.state ≠ .free := by rw [hf]; nofun
  obtain ⟨f, d, eq, hcase⟩ := releaseHeld_effect l h r e s
  rw [eq]
  refine State.KeepsFloors.told ?_ d
  rcases hcase with ⟨hnone, rfl⟩ | ⟨w, hw, rfl⟩
  · refine .put (fun hs => ?_) (fun _ hl => ?_) fun _ _ hfree => absurd hfree taken
    · obtain ⟨hn, -, hstate⟩ := hs
      rw [hf] at hstate
      rcases he with rfl | rfl
      · exact .ofEmpty rfl hnone
      · refine ⟨hn, fun j hj => ?_, hstate.1, hnone⟩
        simp only [hnone, List.not_mem_nil] at hj
    · exact hl.left (he.imp_right fun hp => ⟨hl.notShut taken, h, hp⟩) _
  · refine .put (fun hs => ?_) (fun _ hl => hl.holds (hl.notShut taken) w _) fun _ _ hfree => absurd hfree taken
    obtain ⟨hn, hwait, -⟩ := hs
    exact .holds hn hwait (hwait w (nextWaiter?_mem hw)) _

/-- A PARKED floor becomes FREE (R133). -/
theorem keepsFloors_releaseParked {p : SessionNo} (hf : (s.line l).floor.state = .parked p) (r : Option LostReason) :
    s.KeepsFloors strict (releaseParked l p r s) := by
  refine State.KeepsFloors.trans (.put (fun hs => ?_) (fun _ hl => hl.left (.inl rfl) _) fun _ _ _ => rfl)
    (keepsFloors_noticeLost l p r _)
  obtain ⟨-, -, hstate⟩ := hs
  rw [hf] at hstate
  exact .ofEmpty rfl hstate.2

theorem keepsFloors_releaseFloor (l : LineNo) (r : Option LostReason) (s : State) :
    s.KeepsFloors strict (releaseFloor l r s) := by
  unfold releaseFloor
  split
  · exact .refl s
  · next hf => exact keepsFloors_releaseHeld hf (.inl rfl) r
  · next hf => exact keepsFloors_releaseParked hf r

/-- A floor freed with its list cleared is in order on a line whose monitor it agrees with (R136). -/
theorem Line.arbiterLaw.cleared {u : Line} (hb : u.floor.busy = u.monitor.state.bursting) :
    Line.arbiterLaw { u with floor := { state := .free, waiting := [], idle := .stopped, busy := u.floor.busy } } :=
  .ofFree rfl rfl hb

theorem keepsFloors_clearFloor (l : LineNo) (r : LostReason) (s : State) : s.KeepsFloors strict (clearFloor l r s) := by
  obtain ⟨d, h, -⟩ := clearFloor_effect l r s
  rw [h]
  refine State.KeepsFloors.told (.put (fun _ => .ofEmpty rfl rfl) (fun _ hl => ?_) fun _ _ _ => rfl) d
  obtain ⟨-, -, hbusy⟩ := hl
  exact .cleared hbusy

/-! ### Sessions that leave -/

theorem leaveFloor_held (h : (s.line (s.session i).line).floor.state = .held i) (r : Option LostReason) :
    leaveFloor i r s = releaseHeld (s.session i).line i r .free s := by
  simp only [leaveFloor, h, if_true]

theorem leaveFloor_parked (h : (s.line (s.session i).line).floor.state = .parked i) (r : Option LostReason) :
    leaveFloor i r s = releaseParked (s.session i).line i r s := by
  have hne : FloorState.parked i ≠ .held i := nofun
  simp only [leaveFloor, h, if_neg hne, if_true]

theorem leaveFloor_other (h1 : (s.line (s.session i).line).floor.state ≠ .held i)
    (h2 : (s.line (s.session i).line).floor.state ≠ .parked i) (r : Option LostReason) :
    leaveFloor i r s = s.modLine (s.session i).line fun u =>
      { u with floor := { u.floor with waiting := u.floor.waiting.erase i } } := by
  simp only [leaveFloor, if_neg h1, if_neg h2]

theorem keepsFloors_leaveFloor (i : SessionNo) (r : Option LostReason) (s : State) :
    s.KeepsFloors strict (leaveFloor i r s) := by
  by_cases hheld : (s.line (s.session i).line).floor.state = .held i
  · rw [leaveFloor_held hheld]
    exact keepsFloors_releaseHeld hheld (.inl rfl) r
  by_cases hparked : (s.line (s.session i).line).floor.state = .parked i
  · rw [leaveFloor_parked hparked]
    exact keepsFloors_releaseParked hparked r
  rw [leaveFloor_other hheld hparked]
  exact .put (fun h => (h.leaves hheld hparked).mono fun _ hj => hj.1) (fun _ h => h.listed _) fun _ _ h => h

/-- A session that has left sits at its line's floor no more (R134, R135). -/
theorem leaveFloor_seats (h : s.floorLaw (s.session i).line) (r : Option LostReason) :
    ((leaveFloor i r s).line (s.session i).line).floor.seats fun j => s.maySpeak (s.session i).line j ∧ j ≠ i := by
  by_cases hheld : (s.line (s.session i).line).floor.state = .held i
  · obtain ⟨f, d, eq, hcase⟩ := releaseHeld_effect (s.session i).line i r .free s
    rw [leaveFloor_held hheld, eq, told_line, setLine_line_same]
    rcases hcase with ⟨hnone, rfl⟩ | ⟨w, hw, rfl⟩
    · exact .ofEmpty rfl hnone
    · obtain ⟨hn, hwait, hstate⟩ := h
      rw [hheld] at hstate
      have others : ∀ j ∈ (s.line (s.session i).line).floor.waiting, s.maySpeak (s.session i).line j ∧ j ≠ i :=
        fun j hj => ⟨hwait j hj, fun e => hstate.2 (e ▸ hj)⟩
      exact .holds hn others (others w (nextWaiter?_mem hw)) _
  by_cases hparked : (s.line (s.session i).line).floor.state = .parked i
  · obtain ⟨-, -, hstate⟩ := h
    rw [hparked] at hstate
    obtain ⟨d, eq, -⟩ := noticeLost_effect (s.session i).line i r (s.modLine (s.session i).line fun u =>
      { u with floor := { u.floor with state := .free, idle := .stopped } })
    rw [leaveFloor_parked hparked, releaseParked, eq, told_line, modLine_eq, setLine_line_same]
    exact .ofEmpty rfl hstate.2
  rw [leaveFloor_other hheld hparked, modLine_eq, setLine_line_same]
  exact Floor.seats.leaves h hheld hparked

/-- A record becomes FREE once its session sits at no floor (R112, R135). -/
theorem keepsFloors_closeRecord (i : SessionNo) (r : Option LostReason) (s : State) :
    s.KeepsFloors strict (closeRecord i r s) := by
  have left : s.KeepsFloors strict (leaveFloor i r s) := keepsFloors_leaveFloor i r s
  refine ⟨fun h l => ?_, left.lines, left.attendance⟩
  obtain ⟨f, d, eq⟩ := leaveFloor_effect i r s
  have speaks (j : SessionNo) (hj : s.maySpeak l j ∧ j ≠ i) : (closeRecord i r s).maySpeak l j := by
    obtain ⟨hj, hne⟩ := hj
    unfold State.maySpeak at hj ⊢
    rw [closeRecord, eq, setSession_session_ne _ _ hne]
    exact hj
  rw [floorLaw_iff, show (closeRecord i r s).line l = (leaveFloor i r s).line l from setSession_line ..]
  by_cases hl : l = (s.session i).line
  · subst hl
    exact (leaveFloor_seats (h _) r).mono speaks
  · have beside : (leaveFloor i r s).line l = s.line l := by rw [eq, told_line, setLine_line_ne _ _ hl]
    rw [beside]
    exact Floor.seats.mono (h l) fun j hj => speaks j ⟨hj, fun e => hl (by
      obtain ⟨-, -, hline⟩ := hj
      rw [← hline, e])⟩

/-! ### FLOOR REQUEST -/

/-- A session that may speak on a line not shut, of a unit that is not UNATTENDED, may have its request settled (R130). -/
theorem keepsFloors_settleRequest (hi : s.maySpeak l i) (hopen : strict → ¬ (s.line l).shut)
    (hattended : s.attendanceLaw → s.attendance.state ≠ .unattended) (b : Bool) :
    s.KeepsFloors strict (settleRequest l i b s).state := by
  have holder : s.KeepsFloors strict (becomeHolder l i s) :=
    keepsFloors_becomeHolder (fun _ => hi) (fun hst _ => hopen hst) fun ha hu => absurd hu (hattended ha)
  have takenOver (p : SessionNo) : s.KeepsFloors strict (noticeLost l p (some .takeover) (becomeHolder l i s)) :=
    holder.trans (keepsFloors_noticeLost l p _ _)
  unfold settleRequest
  split
  · exact holder
  · split
    · exact holder
    · exact takenOver _
  · next h hf =>
    split
    · exact .refl s
    · next hne =>
      split
      · exact takenOver _
      · split
        · exact .refl s
        · next hout => exact .put (fun hs => hs.queues hf hne hi hout) (fun _ hl => hl.listed _) fun _ _ hl => hl

end Sys2Proof.Machine
end

section
/-! SUPPORT. The floor requests' own parts by the session named, and the answers of SEND BREAK and FLOOR REQUEST. -/

namespace Sys2Proof.Machine

variable {s : State} {rq : Request} {rest : List Frame} {l : LineNo} {i : SessionNo}

theorem taken_session_cls (s : State) (rq : Request) (rest : List Frame) (j : SessionNo) :
    ((s.taken rq rest).session j).cls = (s.session j).cls := by
  obtain ⟨heard, left, h⟩ := taken_session s rq rest j
  rw [h]

theorem taken_session_role (s : State) (rq : Request) (rest : List Frame) (j : SessionNo) :
    ((s.taken rq rest).session j).role = (s.session j).role := by
  obtain ⟨heard, left, h⟩ := taken_session s rq rest j
  rw [h]

/-! ### SEND BREAK -/

theorem breakPolicy_allows {p : BreakPolicy} {c : SessionClass} :
    p.allows c = true ↔ p = .holder ∨ p = .supervisor ∧ c = .supervisor := by
  cases p <;> simp [BreakPolicy.allows]

theorem line_room_zero {u : Line} : u.room = 0 ↔ 256 ≤ u.injection.length := by
  simp only [Line.room, Config.injectionCapacity]
  omega

/-- What an accepted SEND BREAK leaves of its line: the element at the end of the injection queue and the idle timer
afresh (R138, R143). -/
theorem restartIdle_break (h : (s.line l).floor.state = .held i) (ms : Nat) :
    (restartIdle l s).modLine l (fun v => { v with injection := v.injection ++ [.brk ms] }) = s.setLine l
      { s.line l with
        injection := (s.line l).injection ++ [.brk ms]
        floor := { (s.line l).floor with idle := (s.line l).idleFull } } := by
  simp [restartIdle, modLine_eq, h]

theorem okOr_clamp (lo hi n : Nat) : okOr (clamp lo hi n).clamped = if lo ≤ n ∧ n ≤ hi then .ok else .adjusted := by
  by_cases h : lo ≤ n ∧ n ≤ hi
  · rw [if_pos h, okOr, if_neg]
    simp only [clamp, decide_eq_true_eq]
    omega
  · rw [if_neg h, okOr, if_pos]
    simp only [clamp, decide_eq_true_eq]
    omega

/-- Settles O46: the checks of SEND BREAK in their order, and what is left of the line when they pass. -/
theorem sendBreakQueues : Obligations.SendBreakQueues := by
  intro s rq rest i ha hi u l v asked ms allowed refused
  have hl : (u.session i).line = l := taken_session_line s rq rest i
  have hv : u.line l = v := taken_line s rq rest l
  have hc : (u.session i).cls = (s.session i).cls := taken_session_cls s rq rest i
  have own : sendBreak rq u =
      if v.floor.state ≠ .held i then refuse .sendBreak rq .notHolder u
      else if v.record.breakPolicy.allows (s.session i).cls = false then refuse .sendBreak rq .denied u
      else if v.state ≠ .live then refuse .sendBreak rq .notLive u
      else if v.room = 0 then refuse .sendBreak rq .noRoom u
      else Answer.of (okOr (clamp 50 2000 asked).clamped) (beBytes 2 ms)
        (startElement l ((restartIdle l u).modLine l fun v => { v with injection := v.injection ++ [.brk ms] })) := by
    simp only [sendBreak, onSession_of hi, hl, hv, hc]
    rfl
  have policy : v.record.breakPolicy.allows (s.session i).cls = false ↔ ¬ allowed := by
    rw [← Bool.not_eq_true, breakPolicy_allows]
  have kind : RequestKind.sendBreak ≠ .credit := by decide
  refine ⟨fun hh => ?_, fun hh hp => ?_, fun hh hp hs => ?_, fun hh hp hs hr => ?_, fun hh hp hs hr => ?_⟩
  · rw [if_pos hh] at own
    exact congrArg _ (serve_refuse ha kind own)
  · rw [if_neg (not_not_intro hh), if_pos (policy.mpr hp)] at own
    exact congrArg _ (serve_refuse ha kind own)
  · rw [if_neg (not_not_intro hh), if_neg (mt policy.mp (not_not_intro hp)), if_pos hs] at own
    exact congrArg _ (serve_refuse ha kind own)
  · rw [if_neg (not_not_intro hh), if_neg (mt policy.mp (not_not_intro hp)), if_neg (not_not_intro hs),
      if_pos (line_room_zero.mpr hr)] at own
    exact congrArg _ (serve_refuse ha kind own)
  · rw [if_neg (not_not_intro hh), if_neg (mt policy.mp (not_not_intro hp)), if_neg (not_not_intro hs),
      if_neg (mt line_room_zero.mp (by omega)), restartIdle_break (by rw [hv]; exact hh), hv, okOr_clamp] at own
    exact congrArg _ (serve_answer ha kind own)

/-! ### FLOOR REQUEST -/

theorem flagOf_none {n : Nat} (h : 1 < n) : flagOf n = none := by
  match n with
  | n + 2 => rfl

theorem flagOf_some {n : Nat} (h : n ≤ 1) : flagOf n = some (decide (n = 1)) := by
  match n with
  | 0 => rfl
  | 1 => rfl

/-- The lines on which a floor may be taken (R129). -/
theorem floorShut_none_iff {u : Line} : u.floorShut = none ↔
    u.state = .live ∨ u.state = .queued ∨ u.state = .measuring
      ∨ u.state = .loop ∧ ∀ x, u.test = some x → x.prior = .live := by
  unfold Line.floorShut
  cases hs : u.state <;> simp
  case loop =>
    cases ht : u.test with
    | none => simp
    | some x => cases hp : x.prior <;> simp [hp]

theorem floorShut_lineOff {u : Line} (h : u.state = .off ∨ u.state = .loop ∧ ∃ x, u.test = some x ∧ x.prior = .off) :
    u.floorShut = some .lineOff := by
  rcases h with h | ⟨h, x, hx, hp⟩
  · simp only [Line.floorShut, h]
  · simp only [Line.floorShut, h, hx, hp]

/-- Settles O43: the checks of FLOOR REQUEST, then the first situation of R130 that applies. -/
theorem floorRequestSettled : Obligations.FloorRequestSettled := by
  intro s rq rest i ha hi u l v answer idle held flag
  have hl : (u.session i).line = l := taken_session_line s rq rest i
  have hv : u.line l = v := taken_line s rq rest l
  have hrole : (u.session i).role = (s.session i).role := taken_session_role s rq rest i
  have kind : RequestKind.floorRequest ≠ .credit := by decide
  have hheld : becomeHolder l i u = held := by rw [becomeHolder, modLine_eq, hv]; rfl
  have refused {st : Status} (hne : st ≠ .malformed ∧ st ≠ .noSession)
      (own : floorRequest rq u = refuse .floorRequest rq st u) : exec .floorRequest s = answer u st := by
    have hbody : u.refusedBody .floorRequest rq st = u.floorReport i := by
      obtain ⟨h1, h2⟩ := hne
      simp only [State.refusedBody, if_neg h1, hi]
    have h := serve_refuse ha kind own
    rw [hbody] at h
    exact congrArg _ h
  refine ⟨fun hf => ?_, fun hf hr => ?_, fun hf hr hs => ?_, fun hf hr hs => ?_, fun hf hr hs => ?_⟩
  · refine refused (by decide) ?_
    simp only [floorRequest, onSession_of hi, flagOf_none (n := numAt rq.body 0 1) hf]
  · refine refused (by decide) ?_
    simp only [floorRequest, onSession_of hi, flagOf_some (n := numAt rq.body 0 1) hf, hrole, hr, if_true]
  · refine refused (by decide) ?_
    simp only [floorRequest, onSession_of hi, flagOf_some (n := numAt rq.body 0 1) hf, hrole, hr, hl, hv,
      floorShut_lineOff hs, reduceCtorEq, if_false]
  · refine refused (by decide) ?_
    have hshut : v.floorShut = some .notLive := by simp only [Line.floorShut, hs]
    simp only [floorRequest, onSession_of hi, flagOf_some (n := numAt rq.body 0 1) hf, hrole, hr, hl, hv, hshut,
      reduceCtorEq, if_false]
  · have hshut : v.floorShut = none := by
      refine floorShut_none_iff.mpr (hs.imp_right (Or.imp_right (Or.imp_right ?_)))
      rintro ⟨hloop, x, hx, hp⟩
      refine ⟨hloop, fun y hy => ?_⟩
      obtain rfl := Option.some.inj (hx.symm.trans hy)
      exact hp
    have own : floorRequest rq u =
        let a := settleRequest l i (decide (flag = 1)) u
        Answer.of a.status (a.state.floorReport i) a.state := by
      simp only [floorRequest, onSession_of hi, flagOf_some (n := numAt rq.body 0 1) hf, hrole, hr, hl, hv, hshut,
        reduceCtorEq, if_false]
      rfl
    have settled {st : Status} {t : State}
        (h : settleRequest l i (decide (flag = 1)) u = { status := st, state := t }) :
        exec .floorRequest s = answer t st := by
      rw [h] at own
      exact congrArg _ (serve_answer ha kind own)
    refine ⟨fun hh => settled ?_, fun hh => settled ?_, fun p hp hne => settled ?_, fun h hh hne => ?_⟩
    · simp only [settleRequest, hv, hh, if_true]
    · rcases hh with hh | hh
      · simp only [settleRequest, hv, hh, hheld]
      · simp only [settleRequest, hv, hh, hheld, if_true]
    · simp only [settleRequest, hv, hp, hheld, if_neg hne, noticeLost]
    · have settle : settleRequest l i (decide (flag = 1)) u =
          if (s.session h).cls = .operator ∧ flag = 1 ∧ (s.session i).cls = .supervisor then
            { status := .ok, state := noticeLost l h (some .takeover) held }
          else if i ∈ v.floor.waiting then { status := .queued, state := u }
          else
            { status := .queued
              state := u.setLine l { v with floor := { v.floor with waiting := v.floor.waiting ++ [i] } } } := by
        simp only [settleRequest, hv, hh, hheld, if_neg hne, modLine_eq, taken_session_cls, decide_eq_true_eq, u]
      refine ⟨fun ht => settled ?_, fun ht hin => settled ?_, fun ht hout => settled ?_⟩
      · rw [settle, if_pos ht]
        rfl
      · rw [settle, if_neg ht, if_pos hin]
      · rw [settle, if_neg ht, if_neg hout]

end Sys2Proof.Machine
end

section
/-! SUPPORT. FLOOR RELEASE: the waiter that a release serves, and the answer by the standing of the session. -/

namespace Sys2Proof.Machine

variable {s : State} {l : LineNo} {i w : SessionNo} {waiting : List SessionNo}

theorem cls_ne_supervisor {c : SessionClass} : c ≠ .supervisor ↔ c = .operator := by
  cases c <;> decide

/-- The first SUPERVISOR of the list has OPERATORS alone before it (R132). -/
theorem find?_supervisor (hw : w ∈ waiting) (hc : (s.session w).cls = .supervisor)
    (hfirst : ∀ x, waiting.idxOf x < waiting.idxOf w → (s.session x).cls = .operator) :
    waiting.find? (fun i => decide ((s.session i).cls = .supervisor)) = some w := by
  induction waiting with
  | nil => simp at hw
  | cons a rest ih =>
    by_cases ha : a = w
    · subst ha
      simp [hc]
    · have later (x : SessionNo) (hx : x ≠ a) : (a :: rest).idxOf x = rest.idxOf x + 1 := List.idxOf_cons_ne rest hx.symm
      have hop : (s.session a).cls = .operator := hfirst a (by rw [List.idxOf_cons_self, later w (Ne.symm ha)]; omega)
      rw [List.find?_cons_of_neg (by simp [hop])]
      refine ih (List.mem_of_ne_of_mem (Ne.symm ha) hw) fun x hx => ?_
      by_cases hxa : x = a
      · rw [hxa, hop]
      · exact hfirst x (by rw [later x hxa, later w (Ne.symm ha)]; omega)

/-- The head of a list of OPERATORS is served (R132). -/
theorem nextWaiter?_head (hh : waiting.head? = some w) (hc : ∀ x ∈ waiting, (s.session x).cls = .operator) :
    s.nextWaiter? waiting = some w := by
  have hnone : waiting.find? (fun i => decide ((s.session i).cls = .supervisor)) = none := by
    simpa using fun x hx => cls_ne_supervisor.mpr (hc x hx)
  simp only [State.nextWaiter?, hnone, hh]

/-- Settles O44: what leaves the floor goes to the waiter that a release serves, by the standing of the session. -/
theorem floorReleaseServesWaiters : Obligations.FloorReleaseServesWaiters := by
  intro s rq rest i ha hi u l v answer
  have hl : (u.session i).line = l := taken_session_line s rq rest i
  have hv : u.line l = v := taken_line s rq rest l
  have answered {t : State} (h : leaveFloor i none u = t) : exec .floorRelease s = answer t := by
    subst h
    exact congrArg _ (serve_answer ha (by decide) (onSession_of hi))
  refine ⟨fun h => answered ?_, fun w hh hw hnext => answered ?_, fun h1 h2 => answered ?_⟩
  · rcases h with ⟨hh, hnone⟩ | hp
    · rw [leaveFloor_held (by rw [hl, hv]; exact hh), hl, releaseHeld, hv, nextWaiter?_none.mpr hnone]
      simp only [noticeLost, modLine_eq, hv]
    · rw [leaveFloor_parked (by rw [hl, hv]; exact hp), hl]
      simp only [releaseParked, noticeLost, modLine_eq, hv]
  · have served : u.nextWaiter? v.floor.waiting = some w := by
      rw [nextWaiter?_congr (taken_session_cls s rq rest)]
      rcases hnext with ⟨hc, hfirst⟩ | ⟨hhead, hc⟩
      · simp only [State.nextWaiter?, find?_supervisor hw hc hfirst]
      · exact nextWaiter?_head hhead hc
    rw [leaveFloor_held (by rw [hl, hv]; exact hh), hl, releaseHeld, hv, served]
    simp only [noticeLost, noticeGranted, becomeHolder, modLine_eq, hv]
    rfl
  · rw [leaveFloor_other (by rw [hl, hv]; exact h1) (by rw [hl, hv]; exact h2), hl, modLine_eq, hv]

end Sys2Proof.Machine
end

section
/-! SUPPORT. The Activity Monitor keeps the floors in order: what it reports, a floor hears (R67, R68, R70, R72, R139). -/

namespace Sys2Proof.Machine

variable {strict : Prop} {s t : State} {l : LineNo} {m : Monitor}

/-! ### What a floor hears -/

/-- The line is written with its monitor QUIET or RISING, and its floor hears of it. -/
theorem keepsFloors_quieted (hm : m.state.bursting = false) (ms : List Mark) (loss : Word32) (x : LineSummary) :
    s.KeepsFloors strict (s.setLine l ((s.line l).reported ms loss m x (s.line l).floorQuieted)) :=
  .putSeated rfl rfl fun _ h => h.quiets rfl rfl id hm

/-- The line is written with its monitor in a burst, and its floor hears of it. -/
theorem keepsFloors_busied (hm : m.state.bursting = true) (ms : List Mark) (loss : Word32) (x : LineSummary) :
    s.KeepsFloors strict (s.setLine l ((s.line l).reported ms loss m x (s.line l).floor.heldBusy)) :=
  .putSeated rfl rfl fun _ h => h.busies rfl rfl id hm

/-! ### Bursts that begin and end -/

/-- The monitor moves into a burst, and the beginning of the burst is reported (R67). -/
theorem keepsFloors_burstBegins (hm : m.state.bursting = true) :
    s.KeepsFloors strict (burstBegins l (s.setLine l { s.line l with monitor := m })) := by
  obtain ⟨t, ms, loss, mon, x, f, d, h, ht, hmon, hf⟩ := burstBegins_effect l (s.setLine l { s.line l with monitor := m })
  have hmon' : mon.state.bursting = true := by rw [hmon, setLine_line_same]; exact hm
  have hf' : f = (s.line l).floor.heldBusy := by rw [hf, setLine_line_same]; rfl
  rw [setLine_line_same] at h
  rw [h, hf']
  rcases ht with rfl | ⟨k, q, rfl⟩
  · rw [setLine_setLine]
    exact (keepsFloors_busied hmon' ms loss x).told d
  · rw [← setLine_setSlot, setLine_setLine]
    exact ((keepsFloors_busied hmon' ms loss x).setSlot k q).told d

/-- The monitor moves out of a burst, and its end by decay is reported (R68). -/
theorem keepsFloors_burstDecays (hm : m.state.bursting = false) :
    s.KeepsFloors strict (burstDecays l (s.setLine l { s.line l with monitor := m })) := by
  obtain ⟨before, loss, x, d, hends, -⟩ := burstEnds_effect l 0 (s.setLine l { s.line l with monitor := m })
  rw [setLine_line_same, setLine_setLine] at hends
  rw [burstDecays, hends, modLine_eq, floorQuiet_effect]
  simp only [told_line, setLine_line_same, told_setLine, setLine_setLine]
  exact (keepsFloors_quieted (m := { m with burstLeft := none }) hm _ loss x).told d

theorem keepsFloors_burstTimesOut (l : LineNo) (s : State) : s.KeepsFloors strict (burstTimesOut l s) := by
  obtain ⟨before, loss, x, d, h, -⟩ := burstTimesOut_effect l s
  rw [h]
  exact (keepsFloors_quieted rfl _ loss x).told d

/-- A burst that an exit from LIVE cuts short is reported over (R72, R74). -/
theorem keepsFloors_monitorExit (l : LineNo) (s : State) : s.KeepsFloors strict (monitorExit l s) := by
  unfold monitorExit
  simp only [modLine_eq]
  split
  · rw [floorQuiet_effect, setLine_line_same, setLine_setLine]
    exact keepsFloors_quieted (m := (s.line l).monitor.left) rfl _ _ _
  · next hb => exact .line ⟨rfl, rfl, rfl, rfl, (Bool.eq_false_iff.mpr hb).symm⟩

/-! ### A sample expiry -/

/-- A seeding expiry leaves the state of the monitor, and any other that reports no burst leaves it in or out of one. -/
theorem sampled_bursting (hb : ¬ (s.line l).begins = true) (he : ¬ (s.line l).ends = true) :
    (s.line l).sampled.state.bursting = (s.line l).monitor.state.bursting := by
  unfold Line.sampled
  split
  · rfl
  · next hseed =>
    simp only [Line.begins, Line.ends, Bool.eq_false_iff.mpr hseed] at hb he
    revert hb he
    cases (s.line l).stateNext.1.bursting <;> cases (s.line l).monitor.state.bursting <;> simp

theorem sampled_moved (h : (s.line l).monitor.seedPending = false) :
    (s.line l).sampled.state = (s.line l).stateNext.1 := by
  simp only [Line.sampled, h, Bool.false_eq_true, if_false]

theorem keepsFloors_judged (l : LineNo) (s : State) : s.KeepsFloors strict (s.judged l) := by
  by_cases hb : (s.line l).begins = true
  · obtain ⟨hseed, hon, -⟩ := begins_iff.mp hb
    rw [judged_begins hb]
    exact keepsFloors_burstBegins (by rw [sampled_moved hseed]; exact hon)
  · by_cases he : (s.line l).ends = true
    · obtain ⟨hseed, hoff, -⟩ := ends_iff.mp he
      rw [judged_ends he]
      exact keepsFloors_burstDecays (by rw [sampled_moved hseed]; exact hoff)
    · rw [judged_still hb he]
      exact .line ⟨rfl, rfl, rfl, rfl, sampled_bursting hb he⟩

theorem keepsFloors_monitorExpiry (l : LineNo) (s : State) : s.KeepsFloors strict (monitorExpiry l s) := by
  rw [monitorExpiry_eq]
  exact (keepsFloors_judged l s).trans (.line (.of rfl))

theorem keepsFloors_nextInterval (l : LineNo) (s : State) : s.KeepsFloors strict (nextInterval l s) :=
  .modLine fun _ => .of rfl

/-! ### An exit from LIVE -/

theorem keepsFloors_exitLive (l : LineNo) (s : State) : s.KeepsFloors strict (exitLive l s) := by
  have cut : s.KeepsFloors strict (s.setLine l (s.line l).cutOff) := .line (.of rfl)
  exact ((cut.trans (keepsFloors_grantData _)).trans (keepsFloors_monitorExit l _)).trans (keepsFloors_truncateFor l _)

end Sys2Proof.Machine
end

section
/-! SUPPORT. The Watch Unit, the receivers, the Chain Ports, the Attendance Monitor and the millisecond step keep the
floors in order (R9, R85 to R90, R154 to R157, R166, R170, R171). -/

namespace Sys2Proof.Machine

variable {strict : Prop} {s t : State} {l : LineNo}

/-! ### Captured characters -/

theorem keepsFloors_watchActions (l : LineNo) (is : List EntryNo) (s : State) :
    s.KeepsFloors strict (watchActions l is s) := by
  have marked (s : State) : s.KeepsFloors strict (markHits l is s) := by
    obtain ⟨_, _, h⟩ := markHits_effect l is s
    rw [h]
    exact .line (.of rfl)
  have noted (s : State) : s.KeepsFloors strict (noteHits l is s) := by
    obtain ⟨_, d, h⟩ := noteHits_effect l is s
    rw [h]
    exact .reported d (.of rfl)
  have triggered (s : State) : s.KeepsFloors strict (snapshotHits l is s) := by
    obtain ⟨t, _, _, _, d, h, ht⟩ := snapshotHits_effect l is s
    rw [h]
    rcases ht with rfl | ⟨k, q, rfl⟩
    · exact .reported d (.of rfl)
    · exact ((State.KeepsFloors.refl s).setSlot k q).trans (.reported d (.of rfl))
  have extended (s : State) : s.KeepsFloors strict (holdHits l is s) := by
    obtain ⟨_, h⟩ := holdHits_effect l is s
    rw [h]
    exact .line (.of rfl)
  have dropped (s : State) : s.KeepsFloors strict (dropHits l is s) := .guarded fun _ => keepsFloors_releaseFloor l _ s
  exact ((((marked s).trans (noted _)).trans (triggered _)).trans (extended _)).trans (dropped _)

theorem keepsFloors_ringAppend (l : LineNo) (b : Byte) (s : State) : s.KeepsFloors strict (ringAppend l b s) := by
  have appended (r : Ring) (ms : List Mark) :
      s.KeepsFloors strict (s.setLine l { s.line l with ring := r, marks := ms }) :=
    .line (.of rfl)
  unfold ringAppend
  simp only
  split
  · exact appended _ _
  · exact (appended _ _).trans (keepsFloors_reportOldest l _ _)

theorem keepsFloors_captureByte (l : LineNo) (b : Byte) (p f : Bool) (s : State) :
    s.KeepsFloors strict (captureByte l b p f s) := by
  have counted : s.KeepsFloors strict (s.modLine l fun u =>
    { u with counters := u.counters.captured p f, monitor := u.monitor.counted p f, rx := .waiting, rxd := .mark }) :=
    .modLine fun _ => .of rfl
  have gathered (t : State) : t.KeepsFloors strict (restartGather l t) := .modLine fun _ => .of rfl
  have watched (t : State) : t.KeepsFloors strict (watchByte l b t) :=
    State.KeepsFloors.trans (.line (by exact .of rfl)) (keepsFloors_watchActions l _ _)
  have held := (counted.trans (keepsFloors_ringAppend l b _)).trans (gathered _)
  exact ((held.trans (keepsFloors_grantData _)).trans (keepsFloors_slotByte l b _)).trans (watched _)

theorem keepsFloors_captureCharacter (l : LineNo) (data : Byte) (p f : Bool) (s : State) :
    s.KeepsFloors strict (captureCharacter l data p f s) := by
  refine .guarded fun _ => ?_
  split
  · exact .refl s
  · exact keepsFloors_captureByte l _ _ _ s

theorem keepsFloors_detectBreak (l : LineNo) (s : State) : s.KeepsFloors strict (detectBreak l s) := by
  have told (t : State) (o : Option SnapshotLengths) :
      t.KeepsFloors strict (optionTrigger l .breakIn o (raisePlain l .breakIn (appendMark l .breakIn 0 t))) :=
    ((keepsFloors_appendMark l _ _ t).trans (keepsFloors_raisePlain l _ _)).trans (keepsFloors_optionTrigger l _ o _)
  exact State.KeepsFloors.trans (.modLine (by exact fun _ => .of rfl)) (told _ _)

/-! ### TYPE -/

theorem keepsFloors_typeInto {i : SessionNo} (bytes : List Byte) (s : State) :
    s.KeepsFloors strict (typeInto l i bytes s) := by
  have held : s.KeepsFloors strict (if (s.line l).floor.state = .parked i then becomeHolder l i s else s) := by
    refine .guarded fun hp => ?_
    have taken : (s.line l).floor.state ≠ .free := by rw [hp]; nofun
    refine keepsFloors_becomeHolder (fun h => ?_) (fun _ h => h.notShut taken) fun _ _ => taken
    obtain ⟨-, -, hstate⟩ := h
    rw [hp] at hstate
    exact hstate.1
  have injected (t : State) : t.KeepsFloors strict (injectBytes l bytes t) := .modLine fun _ => .of rfl
  exact ((held.trans (keepsFloors_restartIdle l _)).trans (injected _)).trans (keepsFloors_startElement l _)

/-! ### Attendance -/

theorem started_attends (a : Attendance) (p : AttendancePeriod) : (a.started p).state ≠ .unattended := by
  unfold Attendance.started
  split <;> nofun

/-- Attendance started at the period in force is in order (R170). -/
theorem attendanceLaw_started {a : Attendance} (h : s.attendance = a.started s.unit.period) : s.attendanceLaw := by
  refine ⟨?_, ?_, fun hu => absurd (h ▸ hu) (started_attends a _)⟩ <;> rw [h, Attendance.started]
  · cases s.unit.period <;> simp [AttendancePeriod.ms]
  · cases s.unit.period <;> simp [AttendancePeriod.ms]

theorem keepsFloors_validMessage (s : State) : s.KeepsFloors strict (validMessage s) := by
  unfold validMessage
  split
  · exact .refl s
  · exact ⟨id, fun _ => id, fun _ => attendanceLaw_started rfl⟩

theorem keepsFloors_refreshNamed (rq : Request) (s : State) : s.KeepsFloors strict (refreshNamed rq s) := by
  unfold refreshNamed
  split
  · exact .refl s
  · refine .guarded fun _ => .besideSpeaking rfl (maySpeak_of fun j => ?_) rfl rfl
    rw [refreshSession, State.modSession, setSession_session]
    split
    · next hj => subst hj; exact ⟨rfl, rfl, rfl⟩
    · exact ⟨rfl, rfl, rfl⟩

theorem keepsFloors_greet (rq : Request) (s : State) : s.KeepsFloors strict (greet rq s) :=
  (State.KeepsFloors.guarded fun _ => keepsFloors_validMessage s).trans (keepsFloors_refreshNamed rq _)

theorem refreshNamed_attendance (rq : Request) (s : State) : (refreshNamed rq s).attendance = s.attendance := by
  unfold refreshNamed
  split
  · rfl
  · split <;> rfl

/-- Whoever takes a request is not UNATTENDED any more (R170). -/
theorem greet_attends {rq : Request} (h : (greet rq s).attendanceLaw) : (greet rq s).attendance.state ≠ .unattended := by
  obtain ⟨a, ss, hgreet, -⟩ := greet_effect rq s
  have hunit : (greet rq s).unit = s.unit := by rw [hgreet]
  obtain ⟨hoff, -⟩ := h
  rw [hunit] at hoff
  rw [greet, refreshNamed_attendance] at hoff ⊢
  split
  · next hu =>
    rw [if_pos hu] at hoff
    unfold validMessage at hoff ⊢
    split
    · next hp =>
      rw [if_pos hp] at hoff
      rw [hoff.mpr hp]
      nofun
    · exact started_attends _ _
  · assumption

/-! ### Requests answered and the ports -/

theorem keepsFloors_deliver (rq : Request) (a : Answer) : a.state.KeepsFloors strict (deliver rq a) := by
  unfold deliver
  split
  · exact (keepsFloors_grantData _).trans (.beside rfl)
  · exact .beside rfl

theorem keepsFloors_consume (f : Frame) (s : State) : s.KeepsFloors strict (consume f s) := by
  unfold consume
  split
  · exact .beside rfl
  · split
    · exact .after (keepsFloors_validMessage _) rfl
    · exact .beside rfl

theorem keepsFloors_downStart (s : State) : s.KeepsFloors strict (downStart s) := by
  unfold downStart
  split
  · exact .guarded fun _ => .beside rfl
  · exact .refl s

/-- A loss that is counted and raises CHAIN_LOSS (R157). -/
theorem keepsFloors_loses (c : UnitCounters) (s : State) :
    s.KeepsFloors strict (raiseUnit .chainLoss { s with counters := c }) := .after (keepsFloors_raiseUnit _ _) rfl

theorem keepsFloors_dropDown (s : State) : s.KeepsFloors strict (dropDown s) := keepsFloors_loses _ s

theorem keepsFloors_dropUp (s : State) : s.KeepsFloors strict (dropUp s) := keepsFloors_loses _ s

theorem keepsFloors_cutOffUp (f : UpFrame) (s : State) : s.KeepsFloors strict (cutOffUp f s) := by
  cases f <;> exact keepsFloors_loses _ s

theorem keepsFloors_repeated {f : State → State} (hf : ∀ s : State, s.KeepsFloors strict (f s)) (n : Nat) (s : State) :
    s.KeepsFloors strict (repeated f n s) := by
  induction n generalizing s with
  | zero => exact .refl s
  | succ n ih => exact (hf s).trans (ih _)

theorem keepsFloors_joinDown (f : Frame) (s : State) : s.KeepsFloors strict (joinDown f s) := by
  unfold joinDown
  split
  · exact .after (keepsFloors_downStart _) rfl
  · exact keepsFloors_dropDown s

theorem keepsFloors_joinUp (f : Frame) (s : State) : s.KeepsFloors strict (joinUp f s) := by
  unfold joinUp
  split
  · exact .beside rfl
  · exact keepsFloors_dropUp s

theorem keepsFloors_filterUp (f : Frame) (s : State) : s.KeepsFloors strict (filterUp f s) := by
  unfold filterUp
  split
  · split
    · exact keepsFloors_consume f s
    · split
      · exact (keepsFloors_consume f s).trans (keepsFloors_joinDown f _)
      · exact keepsFloors_joinDown f s
  · exact keepsFloors_joinDown f s

/-! ### A lapse -/

/-- Once the floors of some lines are freed, they and those that were FREE are FREE, and the attendance is as it was. -/
theorem clearFloors_free (r : LostReason) (ls : List LineNo) (t : State) :
    (ls.foldl (fun w l => clearFloor l r w) t).attendance = t.attendance
      ∧ (ls.foldl (fun w l => clearFloor l r w) t).unit = t.unit
      ∧ ∀ l, l ∈ ls ∨ (t.line l).floor.state = .free →
        ((ls.foldl (fun w l => clearFloor l r w) t).line l).floor.state = .free := by
  induction ls generalizing t with
  | nil => exact ⟨rfl, rfl, fun l hl => hl.resolve_left (by simp)⟩
  | cons j ls ih =>
    obtain ⟨d, hd, -⟩ := clearFloor_effect j r t
    obtain ⟨ha, hu, hfree⟩ := ih (clearFloor j r t)
    refine ⟨ha.trans (by rw [hd]; rfl), hu.trans (by rw [hd]; rfl), fun l hl => hfree l ?_⟩
    rw [hd, told_line, setLine_line]
    by_cases hj : l = j
    · rw [if_pos hj]; exact .inr rfl
    · rw [if_neg hj]; exact hl.imp_left fun h => List.mem_of_ne_of_mem hj h

theorem forLines_clearFloor (r : LostReason) (t : State) :
    (t.forLines fun l => clearFloor l r).attendance = t.attendance ∧ (t.forLines fun l => clearFloor l r).unit = t.unit
      ∧ ∀ l, ((t.forLines fun l => clearFloor l r).line l).floor.state = .free := by
  obtain ⟨ha, hu, hfree⟩ := clearFloors_free r (List.finRange 24) t
  simp only [State.forLines]
  exact ⟨ha, hu, fun l => hfree l (.inl (List.mem_finRange l))⟩

theorem floorAs_flushed (u : Line) : u.FloorAs u.flushed := by
  unfold Line.flushed
  split <;> exact .of rfl

/-- A part whose floors are all FREE, UNATTENDED with its timer stopped (R144, R171). -/
theorem attendanceLaw_lapsed (hu : s.attendance.state = .unattended) (hl : s.attendance.left = none)
    (hp : s.unit.period ≠ .off) (hf : ∀ l, (s.line l).floor.state = .free) : s.attendanceLaw := by
  unfold State.attendanceLaw
  rw [hu, hl]
  exact ⟨iff_of_false nofun hp, by simp, fun _ => hf⟩

/-- The part as a lapse begins: UNATTENDED and counted. -/
def State.lapsing (s : State) : State :=
  { s with attendance := { state := .unattended, left := none, lapses := s.attendance.lapses + 1 } }

theorem lapse_eq (s : State) : lapse s =
    ((raiseUnit .attendLapse s.lapsing).forLines fun l => clearFloor l .attendance).mapLines fun _ u => u.flushed := rfl

theorem lapse_free (s : State) : (lapse s).attendance = s.lapsing.attendance ∧ (lapse s).unit = s.unit
    ∧ ∀ l, ((lapse s).line l).floor.state = .free := by
  obtain ⟨d, h, -⟩ := raiseUnit_effect .attendLapse s.lapsing
  obtain ⟨ha, hu, hfree⟩ := forLines_clearFloor .attendance (raiseUnit .attendLapse s.lapsing)
  have hra : (raiseUnit .attendLapse s.lapsing).attendance = s.lapsing.attendance := by rw [h, told_attendance]
  have hru : (raiseUnit .attendLapse s.lapsing).unit = s.unit := by rw [h, told_unit, State.lapsing]
  rw [lapse_eq]
  refine ⟨(mapLines_attendance ..).trans (ha.trans hra), (mapLines_unit ..).trans (hu.trans hru), fun l => ?_⟩
  rw [mapLines_line, (floorAs_flushed _).floor]
  exact hfree l

/-- A lapse leaves every floor FREE (R144, R171). -/
theorem keepsFloors_lapse (hattended : s.attendance.state = .attended) : s.KeepsFloors strict (lapse s) := by
  obtain ⟨ha, hu, hfree⟩ := lapse_free s
  have rest : s.lapsing.KeepsFloors strict (lapse s) := by
    rw [lapse_eq]
    exact ((keepsFloors_raiseUnit .attendLapse _).trans
      (.forLines fun l t => keepsFloors_clearFloor l .attendance t)).trans (.mapLines fun l => floorAs_flushed _)
  refine ⟨rest.seats, rest.lines, fun h => ?_⟩
  obtain ⟨hoff, -⟩ := h
  refine attendanceLaw_lapsed (by rw [ha]; rfl) (by rw [ha]; rfl) (fun hp => ?_) hfree
  rw [hu] at hp
  rw [hoff.mpr hp] at hattended
  cases hattended

/-! ### A millisecond -/

theorem idleLaw_ticked {u : Line} (h : u.idleLaw) :
    Line.idleLaw { u with floor := { u.floor with idle := u.floor.idle.tick } } := by
  cases hf : u.floor.state with
  | held i =>
    simp only [Line.idleLaw, hf] at h ⊢
    split at h
    · next hz => rw [if_pos hz, h]; rfl
    · next hz =>
      rw [if_neg hz]
      split at h
      · next hb => rw [if_pos hb, h]; rfl
      · next hb =>
        obtain ⟨left, hl⟩ := h
        rw [if_neg hb, hl]
        exact ⟨_, rfl⟩
  | free | parked =>
    simp only [Line.idleLaw, hf] at h ⊢
    rw [h]
    rfl

/-- A millisecond leaves all that the law of a floor reads but its idle timer. -/
theorem floorAs_tick (u : Line) :
    Line.FloorAs { u with floor := { u.floor with idle := u.floor.idle.tick } } u.tick where
  floor := by simp only [Line.tick]
  floorIdle := by simp only [Line.tick, Line.mapPairs]
  state := by simp only [Line.tick, Line.mapPairs]
  prior := by
    cases ht : u.test <;> simp [Line.tick, ht]
  bursting := by simp only [Line.tick]

theorem Line.arbiterLaw.ticks {u : Line} (h : u.arbiterLaw) : u.tick.arbiterLaw := by
  obtain ⟨hidle, hclosed, hbusy⟩ := h
  have idled : Line.arbiterLaw { u with floor := { u.floor with idle := u.floor.idle.tick } } :=
    ⟨idleLaw_ticked hidle, hclosed, hbusy⟩
  exact idled.transfer (floorAs_tick u)

theorem tick_line (s : State) (l : LineNo) : (tick s).line l = (s.line l).tick := by
  simp only [tick, State.mapLines, State.mapSlots, State.mapSessions, State.line, Vector.getElem_ofFn]

theorem tick_session (s : State) (i : SessionNo) :
    (tick s).session i = { s.session i with keepLeft := lessTime 1 (s.session i).keepLeft } := by
  simp only [tick, State.mapLines, State.mapSlots, State.mapSessions, State.session, Vector.getElem_ofFn]

/-- A millisecond acts on the floors in their idle timers alone, and on the attendance in its timer (R138, R170). -/
theorem keepsFloors_tick (s : State) : s.KeepsFloors strict (tick s) := by
  have speaks : ∀ l i, s.maySpeak l i → (tick s).maySpeak l i :=
    maySpeak_of fun i => by rw [tick_session]; exact ⟨rfl, rfl, rfl⟩
  have ha : (tick s).attendance = { s.attendance with left := lessTime 1 s.attendance.left } := rfl
  have hu : (tick s).unit = s.unit := by simp [tick]
  refine ⟨fun h l => ?_, fun _ h l => ?_, fun ⟨hoff, hleft, hfree⟩ => ?_⟩
  · rw [floorLaw_iff, tick_line]
    exact Floor.seats.congr (Floor.seats.mono (h l) (speaks l)) rfl rfl
  · rw [tick_line]
    exact (h l).ticks
  · unfold State.attendanceLaw
    rw [ha, hu]
    refine ⟨hoff, by simpa [lessTime] using hleft, fun hun l => ?_⟩
    rw [tick_line]
    exact hfree hun l

end Sys2Proof.Machine
end

section
/-! SUPPORT. The ways of a line from one state to another keep its floor in order: a line that starts keeps the floor as
it is, one that stops has it freed (R2 to R6, R25 to R36, R136). -/

namespace Sys2Proof.Machine

variable {strict : Prop} {s t : State} {l : LineNo} {v : Line}

/-! ### Lines outside a burst -/

/-- No burst is on at a line. -/
def State.calm (s : State) (l : LineNo) : Prop := (s.line l).monitor.state.bursting = false

theorem calm_congr (h : (t.line l).monitor = (s.line l).monitor) : t.calm l ↔ s.calm l := by
  unfold State.calm
  rw [h]

theorem State.calm.modLine {g : Line → Line} (hc : s.calm l)
    (h : ∀ u, (g u).monitor = u.monitor) : (s.modLine l g).calm l :=
  (calm_congr (by rw [modLine_eq, setLine_line_same, h])).mpr hc

/-- A line outside LIVE is in no burst (R1, R72). -/
theorem State.lawful.calm {tries : Prop} (h : s.lawful tries) (hl : (s.line l).state ≠ .live) : s.calm l := by
  obtain ⟨-, -, -, hstill, -⟩ := h.toUnready.lines l
  obtain ⟨-, -, hquiet, -⟩ := hstill hl
  rw [State.calm, hquiet]
  rfl

theorem exitLive_calm (l : LineNo) (s : State) : (exitLive l s).calm l := by
  obtain ⟨_, _, h⟩ := exitLive_line l s
  rw [State.calm, h]
  rfl

/-! ### A floor on a line that opens or shuts -/

/-- A line goes where floors may be taken, its floor as it is. -/
theorem keepsFloors_opens (hf : v.floor = (s.line l).floor) (hr : v.record = (s.line l).record) (ho : v.state ≠ .off)
    (hd : v.state ≠ .dark) (ht : v.test = (s.line l).test ∨ v.test = none)
    (hm : strict → v.monitor.state.bursting = (s.line l).monitor.state.bursting) :
    s.KeepsFloors strict (s.setLine l v) := by
  refine .putSeated (by rw [hf]) (by rw [hf]) fun hst h => h.moves hf (by rw [hr]) ?_ (hm hst)
  rintro (hv | hv | ⟨x, hx, hp⟩)
  · exact absurd hv ho
  · exact absurd hv hd
  · rcases ht with ht | ht <;> rw [ht] at hx
    · exact .inr (.inr ⟨x, hx, hp⟩)
    · cases hx

/-- A line goes where no floor may be taken, its floor being FREE. -/
theorem keepsFloors_shuts (hf : v.floor = (s.line l).floor)
    (hfree : (s.line l).arbiterLaw → (s.line l).floor.state = .free) (hm : v.monitor = (s.line l).monitor) :
    s.KeepsFloors strict (s.setLine l v) := by
  refine .putSeated (by rw [hf]) (by rw [hf]) fun _ h => ?_
  have hfree := hfree h
  obtain ⟨hidle, -, hbusy⟩ := h
  refine .ofFree (by rw [hf, hfree]) ?_ (by rw [hf, hm]; exact hbusy)
  rw [hf]
  exact hidle.stopped (by simp [hfree])

/-- A line goes where no floor may be taken, its floor being freed at once (R136). -/
theorem keepsFloors_closes {g : Line → Line} (r : LostReason) (hf : ∀ u, (g u).floor = u.floor)
    (hm : ∀ u, (g u).monitor = u.monitor) : s.KeepsFloors strict (clearFloor l r (s.modLine l g)) := by
  obtain ⟨d, h, -⟩ := clearFloor_effect l r (s.modLine l g)
  rw [h, modLine_eq, setLine_line_same, setLine_setLine]
  refine State.KeepsFloors.told (.put (fun _ => .ofEmpty rfl rfl) (fun _ hl => .cleared ?_) fun _ _ _ => rfl) d
  obtain ⟨-, -, hbusy⟩ := hl
  rw [hf, hm]
  exact hbusy

/-! ### Into LIVE, and the probe queue -/

theorem keepsFloors_enterLive (hc : strict → s.calm l) (r : TakenRate) : s.KeepsFloors strict (enterLive l r s) := by
  obtain ⟨_, _, _, d, h, -⟩ := enterLive_effect l r s
  rw [h]
  refine State.KeepsFloors.told ?_ d
  exact keepsFloors_opens rfl rfl nofun nofun (.inr rfl) fun hst => (hc hst).symm

theorem keepsFloors_joinProbe (l : LineNo) (s : State) : s.KeepsFloors strict (joinProbe l s) := by
  rw [joinProbe_eq]
  refine State.KeepsFloors.trans (t := s.setLine l _) ?_ (.beside rfl)
  exact keepsFloors_opens rfl rfl nofun nofun (.inr rfl) fun _ => rfl

theorem keepsFloors_requeueProbe (l : LineNo) (s : State) : s.KeepsFloors strict (requeueProbe l s) :=
  State.KeepsFloors.trans
    (keepsFloors_opens (v := { s.line l with state := .queued }) rfl rfl nofun nofun (.inl rfl) fun _ => rfl)
    (.beside rfl)

theorem keepsFloors_leaveProbe (l : LineNo) (s : State) : s.KeepsFloors strict (leaveProbe l s) := .beside rfl

theorem keepsFloors_probeTake (s : State) : s.KeepsFloors strict (probeTake s) := by
  rcases probeTake_effect s with ⟨h, -⟩ | ⟨l, _, _, _, _, _, -, -, h, -⟩ <;> rw [h]
  · exact .refl s
  · refine State.KeepsFloors.trans (t := s.setLine l _) ?_ (.beside rfl)
    exact keepsFloors_opens rfl rfl nofun nofun (.inl rfl) fun _ => rfl

/-- The engine takes its turn after a change that keeps the floors. -/
theorem State.KeepsFloors.probed (h : s.KeepsFloors strict t) : s.KeepsFloors strict (probeTake t) :=
  h.trans (keepsFloors_probeTake t)

theorem keepsFloors_endMeasurement (l : LineNo) (s : State) : s.KeepsFloors strict (endMeasurement l s) :=
  State.KeepsFloors.trans (.modLine (g := fun u => { u with tx := .idle }) fun _ => .of rfl) (.beside rfl)

theorem keepsFloors_startByRecord (hc : strict → s.calm l) : s.KeepsFloors strict (startByRecord l s) := by
  unfold startByRecord
  split
  · exact keepsFloors_enterLive hc _
  · exact keepsFloors_joinProbe l s

/-! ### Measurements that end -/

theorem keepsFloors_finalFailure (hc : strict → s.calm l) (why : FailureReason) :
    s.KeepsFloors strict (finalFailure l why s) := by
  have failed : s.KeepsFloors strict (raiseRateFail l why s) := keepsFloors_raiseLine l _ _ _ _ s
  have hc' : strict → (raiseRateFail l why s).calm l := fun hst => by
    obtain ⟨m, hline, -⟩ := raiseRateFail_line l why s
    exact (calm_congr (by rw [hline])).mpr (hc hst)
  unfold finalFailure
  simp only
  split
  · exact failed.trans (keepsFloors_enterLive hc' _)
  · exact failed.trans (keepsFloors_enterLive hc' _)
  · have closed := keepsFloors_closes (strict := strict) (s := raiseRateFail l why s) (l := l)
      (g := fun u => { u with state := .dark }) .dark (fun _ => rfl) fun _ => rfl
    exact (failed.trans closed).trans (keepsFloors_raisePlain l _ _)

theorem keepsFloors_failAttempt {m : Measurement} (hc : strict → s.calm m.line) (why : FailureReason) :
    s.KeepsFloors strict (failAttempt m why s) := by
  have counted : s.KeepsFloors strict
      ((endMeasurement m.line s).modLine m.line fun u => { u with attempts := u.attempts + 1 }) :=
    (keepsFloors_endMeasurement m.line s).trans (.modLine fun _ => .of rfl)
  have hc' : strict →
      ((endMeasurement m.line s).modLine m.line fun u => { u with attempts := u.attempts + 1 }).calm m.line := fun hst =>
    State.calm.modLine ((calm_congr (by rw [endMeasurement_line])).mpr (hc hst)) fun _ => rfl
  unfold failAttempt
  simp only
  refine State.KeepsFloors.probed ?_
  split
  · exact counted.trans (keepsFloors_requeueProbe _ _)
  · exact counted.trans (keepsFloors_finalFailure hc' _)

theorem keepsFloors_finishAttempt {m : Measurement} (hc : strict → s.calm m.line) (w : Nat) :
    s.KeepsFloors strict (finishAttempt m w s) := by
  have ended := keepsFloors_endMeasurement (strict := strict) m.line s
  have hc' : strict → (endMeasurement m.line s).calm m.line := fun hst =>
    (calm_congr (by rw [endMeasurement_line])).mpr (hc hst)
  unfold finishAttempt
  split
  · exact (ended.trans (keepsFloors_enterLive hc' _)).probed
  · exact keepsFloors_failAttempt hc _

theorem keepsFloors_countEdge {m : Measurement} (hc : strict → s.calm m.line) (n : Nat) :
    s.KeepsFloors strict (countEdge m n s) := by
  have counted (e : Option Measurement) :
      s.KeepsFloors strict { s.modLine m.line fun u => { u with rxd := u.rxd.flip } with engine := e } :=
    State.KeepsFloors.trans (.modLine (g := fun u => { u with rxd := u.rxd.flip }) fun _ => .of rfl) (.beside rfl)
  have hc' (e : Option Measurement) (hst : strict) :
      State.calm { s.modLine m.line fun u => { u with rxd := u.rxd.flip } with engine := e } m.line := by
    have flipped : (s.modLine m.line fun u => { u with rxd := u.rxd.flip }).calm m.line :=
      (hc hst).modLine fun _ => rfl
    exact flipped
  unfold countEdge
  simp only
  split
  · exact counted _
  · split
    · exact (counted _).trans (keepsFloors_finishAttempt (hc' _) _)
    · exact counted _

/-! ### Loopback tests -/

/-- LOOP is entered from LIVE, or from OFF where the floor is FREE (R18, R129). -/
theorem keepsFloors_enterLoop {x : LoopTest} (hx : x.prior = .off → (s.line l).shut) :
    s.KeepsFloors strict (enterLoop l x s) := by
  refine .putSeated rfl rfl fun _ h => h.moves rfl rfl ?_ rfl
  rintro (hv | hv | ⟨y, hy, hp⟩)
  · cases hv
  · cases hv
  · obtain rfl := Option.some.inj hy
    exact hx hp

/-- A line leaves LOOP for its prior state; OFF, it had its floor FREE already (R19, R129). -/
theorem keepsFloors_leaveLoop {x y : LoopTest} (hy : (s.line l).test = some y) (hp : y.prior = x.prior)
    (hc : strict → s.calm l) : s.KeepsFloors strict (leaveLoop l x s) := by
  have ended : s.KeepsFloors strict (s.modLine l fun u => { u with tx := .idle, test := none }) := by
    refine .putSeated rfl rfl fun _ h => h.moves rfl rfl ?_ rfl
    rintro (hv | hv | ⟨z, hz, -⟩)
    · exact .inl hv
    · exact .inr (.inl hv)
    · cases hz
  have hc' : strict → (s.modLine l fun u => { u with tx := .idle, test := none }).calm l := fun hst =>
    (hc hst).modLine fun _ => rfl
  unfold leaveLoop
  simp only
  split
  · next hoff =>
    simp only [modLine_eq, setLine_line_same, setLine_setLine]
    refine keepsFloors_shuts rfl (fun h => ?_) rfl
    obtain ⟨-, hclosed, -⟩ := h
    exact hclosed (.inr (.inr ⟨y, hy, hp.trans hoff⟩))
  · split
    · exact (ended.trans (keepsFloors_startByRecord hc')).probed
    · exact ended.trans (keepsFloors_enterLive hc' _)

theorem keepsFloors_completeTest {x y : LoopTest} (hy : (s.line l).test = some y) (hp : y.prior = x.prior)
    (hc : strict → s.calm l) : s.KeepsFloors strict (completeTest l x s) := by
  have placed (f : OutFrame) : s.KeepsFloors strict (placeTest f s) := keepsFloors_placeTest f s
  refine (placed _).trans (keepsFloors_leaveLoop (y := y) ?_ hp fun hst => ?_)
  · rw [placeTest_line]; exact hy
  · exact (calm_congr (by rw [placeTest_line])).mpr (hc hst)

/-! ### Lines started, stopped and requeued -/

theorem keepsFloors_enableLine (hc : strict → (s.line l).state = .live ∨ s.calm l) :
    s.KeepsFloors strict (enableLine l s) := by
  have starts (hl : (s.line l).state ≠ .live) : s.KeepsFloors strict (probeTake (startByRecord l s)) :=
    (keepsFloors_startByRecord fun hst => (hc hst).resolve_left hl).probed
  unfold enableLine
  split
  case h_1 hs => exact starts (by rw [hs]; decide)
  case h_2 hs => exact starts (by rw [hs]; decide)
  all_goals exact .refl s

theorem floorAs_mapPairs (u : Line) (f : WatchPair → WatchPair) : u.FloorAs (u.mapPairs f) := by
  constructor <;> simp only [Line.mapPairs]

theorem keepsFloors_turnOff (l : LineNo) (s : State) : s.KeepsFloors strict (turnOff l s) := by
  have closed : s.KeepsFloors strict
      (clearFloor l .lineOff (s.modLine l fun u => { u with state := .off, test := none, tx := .idle })) :=
    keepsFloors_closes .lineOff (fun _ => rfl) fun _ => rfl
  have unwatched (t : State) :
      t.KeepsFloors strict (t.modLine l fun u => u.mapPairs fun p => { p with hits := 0, holdoff := none }) :=
    .modLine fun u => floorAs_mapPairs u _
  exact (closed.trans (unwatched _)).trans (keepsFloors_appendMark l .lineOff 0 _)

theorem keepsFloors_disableLine (l : LineNo) (s : State) : s.KeepsFloors strict (disableLine l s) := by
  have off (t : State) (k : s.KeepsFloors strict t) : s.KeepsFloors strict (turnOff l t) :=
    k.trans (keepsFloors_turnOff l t)
  unfold disableLine
  split
  case h_1 => exact .refl s
  case h_2 => exact off _ (keepsFloors_leaveProbe l s)
  case h_3 => exact (off _ (keepsFloors_endMeasurement l s)).probed
  case h_4 => exact off _ (keepsFloors_exitLive l s)
  case h_5 => exact off _ (.refl s)
  case h_6 => exact off _ (keepsFloors_abortTest l s)

theorem floorAs_restartPending (u : Line) :
    u.FloorAs { u with test := u.test.map fun x => { x with restartPending := true } } where
  floor := rfl
  floorIdle := rfl
  state := rfl
  prior := by cases ht : u.test <;> simp
  bursting := rfl

theorem keepsFloors_restartLine (hc : strict → (s.line l).state = .live ∨ s.calm l) :
    s.KeepsFloors strict (restartLine l s) := by
  have starts {t : State} (k : s.KeepsFloors strict t) (hl : (s.line l).state ≠ .live)
      (hm : (t.line l).monitor = (s.line l).monitor) : s.KeepsFloors strict (startByRecord l t) :=
    k.trans (keepsFloors_startByRecord fun hst => (calm_congr hm).mpr ((hc hst).resolve_left hl))
  unfold restartLine
  simp only
  split
  case h_1 => exact .refl s
  case h_2 hs =>
    split
    · exact starts (keepsFloors_leaveProbe l s) (by rw [hs]; decide) rfl
    · exact .refl s
  case h_3 hs => exact (starts (keepsFloors_endMeasurement l s) (by rw [hs]; decide) (by rw [endMeasurement_line])).probed
  case h_4 =>
    exact ((keepsFloors_exitLive l s).trans (keepsFloors_startByRecord fun _ => exitLive_calm l s)).probed
  case h_5 hs => exact (starts (.refl s) (by rw [hs]; decide) rfl).probed
  case h_6 => exact .modLine floorAs_restartPending

theorem keepsFloors_requeued (l : LineNo) (s : State) : s.KeepsFloors strict (probeTake (joinProbe l (exitLive l s))) :=
  ((keepsFloors_exitLive l s).trans (keepsFloors_joinProbe l _)).probed

theorem keepsFloors_loseRate (l : LineNo) (s : State) : s.KeepsFloors strict (loseRate l s) :=
  ((keepsFloors_appendMark l _ _ s).trans (keepsFloors_raisePlain l _ _)).trans (keepsFloors_requeued l _)

theorem keepsFloors_judgeStreak (l : LineNo) (n e : Nat) (s : State) : s.KeepsFloors strict (judgeStreak l n e s) := by
  have judged : s.KeepsFloors strict (s.modLine l fun u => { u with streak := (s.line l).judgedStreak n e }) :=
    .modLine fun _ => .of rfl
  unfold judgeStreak
  simp only
  split
  · exact judged.trans (keepsFloors_loseRate l _)
  · exact judged

end Sys2Proof.Machine
end

section
/-! SUPPORT. The requests: the own part of each keeps the floors in order, and so does taking and answering one. -/

namespace Sys2Proof.Machine

variable {strict : Prop} {s t : State} {l : LineNo} {rq : Request} {k : RequestKind}

/-! ### Taking and answering a request -/

/-- What holds of the part when the own part of a request begins: under `strict` the law of lines, no lapse is on, and the
engine's checks have passed (R161, R170). -/
structure State.takes (strict : Prop) (k : RequestKind) (rq : Request) (s : State) : Prop where
  lines : strict → s.lawful False
  attended : s.attendanceLaw → s.attendance.state ≠ .unattended
  passes : s.engineCheck k rq = none

/-- The own part of a request keeps the floors in order. -/
def OwnKeepsFloors (strict : Prop) (k : RequestKind) (own : Request → State → Answer) : Prop :=
  ∀ (rq : Request) (s : State), s.takes strict k rq → s.KeepsFloors strict (own rq s).state

/-- A session request that passes the checks names an OPEN session (R109). -/
theorem State.takes.isOpen (h : s.takes strict k rq) (hk : k.isSession = true) {i : SessionNo}
    (hi : rq.sessionNo = some i) : (s.session i).isOpen = true := by
  have hpasses := h.passes
  unfold State.engineCheck at hpasses
  rw [hk] at hpasses
  split at hpasses
  · cases hpasses
  · simp only [State.sessionCheck, hi, if_true] at hpasses
    by_contra hopen
    rw [if_pos (by simpa using hopen)] at hpasses
    cases hpasses

/-- A line outside LIVE is in no burst when a request is carried out (R1). -/
theorem State.takes.calm (h : s.takes strict k rq) (l : LineNo) (hst : strict) : (s.line l).state = .live ∨ s.calm l :=
  or_iff_not_imp_left.mpr (h.lines hst).calm

theorem keepsFloors_carryOut {own : Request → State → Answer} (h : OwnKeepsFloors strict k own)
    (hlines : strict → s.lawful False) (hattended : s.attendanceLaw → s.attendance.state ≠ .unattended) :
    s.KeepsFloors strict (carryOut k own rq s).state := by
  unfold carryOut
  split
  · next hpasses => exact h rq s ⟨hlines, hattended, hpasses⟩
  · split
    · exact .beside rfl
    · exact .refl s

theorem OwnKeepsFloors.serve {own : Request → State → Answer} (h : OwnKeepsFloors strict k own)
    (hs : strict → s.lawful False) : s.KeepsFloors strict (serve k own s) := by
  have taken (rq : Request) (rest : List Frame) (n : Nat) :
      s.KeepsFloors strict (carryOut k own rq (greet rq { s with requests := rest, heldPlaces := n })).state := by
    have greeted : s.KeepsFloors strict (greet rq { s with requests := rest, heldPlaces := n }) :=
      .after (keepsFloors_greet rq _) rfl
    have lines (hst : strict) : State.lawful False { s with requests := rest, heldPlaces := n } := hs hst
    exact greeted.trans
      (keepsFloors_carryOut h (fun hst => (lines hst).steady (steady_greet rq _)) fun ha => greet_attends ha)
  unfold Machine.serve
  split
  · exact .refl s
  · exact .guarded fun _ => ((taken _ _ _).trans (keepsFloors_deliver _ _)).granted

/-- A request that only reads. -/
theorem ownKeepsFloors_reads {own : Request → State → Answer} (h : ∀ rq s, (own rq s).state = s) :
    OwnKeepsFloors strict k own := fun rq s _ => by rw [h]; exact .refl s

theorem keepsFloors_onLine {own : LineNo → Answer} (h : ∀ l, s.KeepsFloors strict (own l).state) :
    s.KeepsFloors strict (onLine k rq s own).state := by
  unfold onLine
  split
  · exact .refl s
  · exact h _

theorem keepsFloors_onSession {own : SessionNo → Answer}
    (h : ∀ i, rq.sessionNo = some i → s.KeepsFloors strict (own i).state) :
    s.KeepsFloors strict (onSession k rq s own).state := by
  unfold onSession
  split
  · exact .refl s
  · next i hi => exact h i hi

/-! ### LINE SET -/

theorem keepsFloors_resizeRing (l : LineNo) (s : State) : s.KeepsFloors strict (resizeRing l s) :=
  State.KeepsFloors.trans (.modLine (by exact fun _ => .of rfl)) (keepsFloors_reportOldest l _ _)

/-- The resize of a ring and the restart of an idle timer do not meet. -/
theorem restartIdle_resizeRing (l : LineNo) (s : State) :
    restartIdle l (resizeRing l s) = resizeRing l (restartIdle l s) := by
  have apart (s : State) (f : SessionNo → Session → Session) (v : Line) :
      (s.mapSessions f).setLine l v = (s.setLine l v).mapSessions f := rfl
  simp only [restartIdle_effect, resizeRing, reportOldest, modLine_eq, mapSessions_line, setLine_line_same, apart,
    setLine_setLine]
  rfl

/-- A record is written, and the idle timer of a HELD floor starts afresh by it (R22, R138). -/
theorem keepsFloors_idled (l : LineNo) (new : LineRecord) (s : State) :
    s.KeepsFloors strict (restartIdle l (s.modLine l fun u => { u with record := new })) := by
  rw [restartIdle_effect, modLine_eq, setLine_line_same, setLine_setLine]
  refine .putSeated rfl rfl fun _ h => ?_
  obtain ⟨hidle, hclosed, hbusy⟩ := h
  exact Line.arbiterLaw.restarts (u := { s.line l with record := new }) hidle.stopped hclosed hbusy

/-- What a LINE SET does before any restart: the record, the ring, the idle timer (R22). -/
def State.recorded (s : State) (l : LineNo) (new : LineRecord) : State :=
  let t := s.modLine l fun u => { u with record := new }
  let t := if new.ringKiB ≠ (s.line l).record.ringKiB then resizeRing l t else t
  if new.floorIdle ≠ (s.line l).record.floorIdle then restartIdle l t else t

theorem applyRecord_recorded (l : LineNo) (new : LineRecord) (s : State) : applyRecord l new s =
    if restarts (s.line l).record new then restartLine l (s.recorded l new) else s.recorded l new := rfl

theorem keepsFloors_recorded (l : LineNo) (new : LineRecord) (s : State) : s.KeepsFloors strict (s.recorded l new) := by
  have same (h : ¬ new.floorIdle ≠ (s.line l).record.floorIdle) :
      s.KeepsFloors strict (s.modLine l fun u => { u with record := new }) :=
    .line ⟨rfl, not_not.mp h, rfl, rfl, rfl⟩
  unfold State.recorded
  simp only
  split
  · split
    · rw [restartIdle_resizeRing]
      exact (keepsFloors_idled l new s).trans (keepsFloors_resizeRing l _)
    · exact keepsFloors_idled l new s
  · next hi =>
    split
    · exact (same hi).trans (keepsFloors_resizeRing l _)
    · exact same hi

/-- The record leaves the line where it was, its monitor included. -/
theorem recorded_line (l : LineNo) (new : LineRecord) (s : State) :
    ((s.recorded l new).line l).state = (s.line l).state ∧ ((s.recorded l new).line l).monitor = (s.line l).monitor := by
  have idled (t : State) : ((restartIdle l t).line l).state = (t.line l).state
      ∧ ((restartIdle l t).line l).monitor = (t.line l).monitor := by
    rw [restartIdle_effect, setLine_line_same]
    exact ⟨rfl, rfl⟩
  have sized : ((resizeRing l (s.modLine l fun u => { u with record := new })).line l).state = (s.line l).state
      ∧ ((resizeRing l (s.modLine l fun u => { u with record := new })).line l).monitor = (s.line l).monitor := by
    simp only [resizeRing, reportOldest, mapSessions_line, modLine_eq, setLine_line_same, and_self]
  have written : ((s.modLine l fun u => { u with record := new }).line l).state = (s.line l).state
      ∧ ((s.modLine l fun u => { u with record := new }).line l).monitor = (s.line l).monitor := by
    rw [modLine_eq, setLine_line_same]
    exact ⟨rfl, rfl⟩
  unfold State.recorded
  simp only
  split <;> split <;> simp only [idled, sized, written, and_self]

theorem keepsFloors_applyRecord (hc : strict → (s.line l).state = .live ∨ s.calm l) (new : LineRecord) :
    s.KeepsFloors strict (applyRecord l new s) := by
  have before := keepsFloors_recorded (strict := strict) l new s
  obtain ⟨hstate, hmonitor⟩ := recorded_line l new s
  rw [applyRecord_recorded]
  split
  · refine before.trans (keepsFloors_restartLine fun hst => ?_)
    rw [hstate]
    exact (hc hst).imp_right (calm_congr hmonitor).mpr
  · exact before

/-! ### Requests on lines -/

theorem ownKeepsFloors_lineSet : OwnKeepsFloors strict .lineSet lineSet := fun rq s hs => keepsFloors_onLine fun l => by
  split
  · exact .refl s
  · split
    · exact .refl s
    · exact keepsFloors_applyRecord (hs.calm l) _

theorem ownKeepsFloors_lineMeasure : OwnKeepsFloors strict .lineMeasure lineMeasure := fun rq s _ =>
  keepsFloors_onLine fun l => by
    have joins : s.KeepsFloors strict (probeTake (joinProbe l s)) := (keepsFloors_joinProbe l s).probed
    split
    case h_1 => exact keepsFloors_requeued l s
    case h_2 => exact joins
    case h_3 => exact joins
    all_goals exact .refl s

theorem ownKeepsFloors_lineTest : OwnKeepsFloors strict .lineTest lineTest := fun rq s _ => keepsFloors_onLine fun l => by
  simp only
  split
  · exact .refl s
  · split
    case h_1 => exact (keepsFloors_exitLive l s).trans (keepsFloors_enterLoop nofun)
    case h_2 hl => exact keepsFloors_enterLoop fun _ => .inl hl
    all_goals exact .refl s

theorem ownKeepsFloors_eventsRead : OwnKeepsFloors strict .eventsRead eventsRead := fun rq s _ => by
  have cleared (l : LineNo) : s.KeepsFloors strict (s.modLine l fun u => { u with summary := .reset }) :=
    .modLine fun _ => .of rfl
  unfold eventsRead
  simp only
  split
  · exact .beside rfl
  · split
    · exact .refl s
    · exact cleared _

/-! ### Requests on settings -/

theorem ownKeepsFloors_rateTableSet : OwnKeepsFloors strict .rateTableSet rateTableSet := fun rq s _ => by
  have replaced (table : Vector Nat 16) : s.KeepsFloors strict { s with rates := table } := .beside rfl
  unfold rateTableSet
  simp only
  split
  · exact .refl s
  · split
    · exact .refl s
    · exact replaced _

theorem ownKeepsFloors_monitorSet : OwnKeepsFloors strict .monitorSet monitorSet := fun rq s _ => by
  unfold monitorSet
  split
  · exact .refl s
  · refine .mapLines fun l => ?_
    split <;> exact .of rfl

theorem ownKeepsFloors_watchSet : OwnKeepsFloors strict .watchSet watchSet := fun rq s _ => by
  have replaced (i : EntryNo) (e : WatchEntry) : s.KeepsFloors strict (replaceEntry i e s) :=
    .after (.mapLines fun _ => .of rfl) rfl
  unfold watchSet
  split
  · exact .refl s
  · split
    · exact .refl s
    · exact replaced _ _

/-- A changed period starts the attendance afresh (R170). -/
theorem keepsFloors_applyUnit (r : UnitRecord) (s : State) : s.KeepsFloors strict (applyUnit r s) := by
  have started : s.KeepsFloors strict (if r.period ≠ s.unit.period
      then { s with unit := r, attendance := s.attendance.started r.period } else { s with unit := r }) := by
    split
    · exact ⟨id, fun _ => id, fun _ => attendanceLaw_started rfl⟩
    · next hp => exact .besideSpeaking rfl (fun _ _ h => h) rfl (not_not.mp hp)
  have kept (i : SessionNo) (x : Session) (left : Option Nat) :
      (if x.isOpen then { x with keepLeft := left } else x).isOpen = x.isOpen
        ∧ (if x.isOpen then { x with keepLeft := left } else x).role = x.role
        ∧ (if x.isOpen then { x with keepLeft := left } else x).line = x.line := by
    split <;> exact ⟨rfl, rfl, rfl⟩
  unfold applyUnit
  simp only
  split
  · exact started.trans (keepsFloors_mapSessions (fun i x => kept i x _) _)
  · exact started

theorem ownKeepsFloors_unitSet : OwnKeepsFloors strict .unitSet unitSet := fun rq s _ => by
  unfold unitSet
  split
  · exact .refl s
  · exact keepsFloors_applyUnit _ s

theorem ownKeepsFloors_setTime : OwnKeepsFloors strict .setTime setTime := fun rq s _ => by
  have settled (now : Word32) : s.KeepsFloors strict (State.forLines { s with unitTime := now } settleHold) :=
    .after (.forLines keepsFloors_settleHold) rfl
  simpa only [setTime, Answer.of] using settled _

/-! ### Requests on snapshots -/

theorem ownKeepsFloors_snapshotFree : OwnKeepsFloors strict .snapshotFree snapshotFree := fun rq s _ => by
  unfold snapshotFree
  split
  · exact .refl s
  · split
    · exact (State.KeepsFloors.refl s).setSlot _ _
    · exact .refl s
    · exact .refl s

theorem ownKeepsFloors_snapshotTake : OwnKeepsFloors strict .snapshotTake snapshotTake := fun rq s _ =>
  keepsFloors_onLine fun l => by
    have takes (pre post : Clamped Nat) : s.KeepsFloors strict (takeSnapshot l pre post s).state := by
      unfold takeSnapshot
      simp only
      split <;> exact keepsFloors_fireTrigger _ s
    split
    case h_6 => exact takes _ _
    all_goals exact .refl s

/-! ### Requests of sessions -/

theorem freeSession?_closed {i : SessionNo} (h : s.freeSession? = some i) : (s.session i).isOpen = false := by
  simpa using List.find?_some h

/-- A FREE record speaks nowhere, so a session may be opened there (R110). -/
theorem keepsFloors_opened {i : SessionNo} (h : (s.session i).isOpen = false) (r : Session) :
    s.KeepsFloors strict (s.setSession i r) := by
  refine .besideSpeaking rfl (fun l j hj => ?_) rfl rfl
  obtain ⟨hopen, hrest⟩ := hj
  have hne : j ≠ i := fun e => by
    subst e
    rw [h] at hopen
    cases hopen
  unfold State.maySpeak
  rw [setSession_session_ne _ _ hne]
  exact ⟨hopen, hrest⟩

theorem ownKeepsFloors_openSession : OwnKeepsFloors strict .openSession openSession := fun rq s _ => by
  unfold openSession
  split
  · exact .refl s
  · split
    · exact .refl s
    · split
      · exact .refl s
      · next i hi => exact keepsFloors_opened (freeSession?_closed hi) _

/-- A session's record is written beside what a floor asks of it. -/
theorem keepsFloors_setSession {i : SessionNo} {r : Session} (h : r.isOpen = (s.session i).isOpen
    ∧ r.role = (s.session i).role ∧ r.line = (s.session i).line) : s.KeepsFloors strict (s.setSession i r) := by
  refine .besideSpeaking rfl (maySpeak_of fun j => ?_) rfl rfl
  rw [setSession_session]
  split
  · next hj => subst hj; exact h
  · exact ⟨rfl, rfl, rfl⟩

theorem ownKeepsFloors_seek : OwnKeepsFloors strict .seek seek := fun rq s _ => keepsFloors_onSession fun i _ => by
  split
  · exact .refl s
  · exact keepsFloors_setSession ⟨rfl, rfl, rfl⟩

theorem ownKeepsFloors_credit : OwnKeepsFloors strict .credit credit := fun rq s _ => by
  unfold credit
  split
  · exact .beside rfl
  · exact keepsFloors_setSession ⟨rfl, rfl, rfl⟩

/-- A line on which a FLOOR REQUEST is taken is not shut (R129). -/
theorem not_shut_of_floorShut {u : Line} (h : u.floorShut = none) (hs : u.stateLaw) : ¬ u.shut := by
  obtain ⟨htest, -⟩ := hs
  have opens : u.state ≠ .loop → u.state ≠ .off → u.state ≠ .dark → ¬ u.shut := fun h1 h2 h3 =>
    not_shut (Option.not_isSome_iff_eq_none.mp fun ht => h1 (htest.mp ht)) h2 h3
  rcases floorShut_none_iff.mp h with hl | hl | hl | ⟨hl, hprior⟩
  · exact opens (by rw [hl]; decide) (by rw [hl]; decide) (by rw [hl]; decide)
  · exact opens (by rw [hl]; decide) (by rw [hl]; decide) (by rw [hl]; decide)
  · exact opens (by rw [hl]; decide) (by rw [hl]; decide) (by rw [hl]; decide)
  · rintro (ho | hd | ⟨x, hx, hp⟩)
    · rw [hl] at ho; cases ho
    · rw [hl] at hd; cases hd
    · rw [hprior x hx] at hp; cases hp

theorem role_typist {r : Role} (h : ¬ r = .watcher) : r = .typist := by
  cases r with
  | watcher => exact absurd rfl h
  | typist => rfl

theorem ownKeepsFloors_floorRequest : OwnKeepsFloors strict .floorRequest floorRequest := fun rq s hs =>
  keepsFloors_onSession fun i hi => by
    simp only
    split
    · exact .refl s
    · split
      · exact .refl s
      · next hrole =>
        split
        · exact .refl s
        · next hopen =>
          refine keepsFloors_settleRequest ⟨hs.isOpen rfl hi, role_typist hrole, rfl⟩ (fun hst => ?_) hs.attended _
          exact not_shut_of_floorShut hopen ((hs.lines hst).toUnready.lines _)

theorem ownKeepsFloors_typeBytes : OwnKeepsFloors strict .typeBytes typeBytes := fun rq s _ =>
  keepsFloors_onSession fun i _ => by
    simp only
    split
    · exact .refl s
    · split
      · exact .refl s
      · split
        · exact .refl s
        · exact keepsFloors_typeInto _ s

theorem ownKeepsFloors_sendBreak : OwnKeepsFloors strict .sendBreak sendBreak := fun rq s _ =>
  keepsFloors_onSession fun i _ => by
    have queued (l : LineNo) (x : Element) : s.KeepsFloors strict
        (startElement l ((restartIdle l s).modLine l fun v => { v with injection := v.injection ++ [x] })) :=
      ((keepsFloors_restartIdle l s).trans (.modLine (by exact fun _ => .of rfl))).trans (keepsFloors_startElement l _)
    simp only
    split
    · exact .refl s
    · split
      · exact .refl s
      · split
        · exact .refl s
        · split
          · exact .refl s
          · exact queued _ _

end Sys2Proof.Machine
end

section
/-! SUPPORT. The commands and the resets (R2, R169): each keeps the floors in order, and so the attendance. -/

namespace Sys2Proof.Machine

variable {strict : Prop} {s t w : State} {l : LineNo}

/-! ### Ports and requests of no known kind -/

theorem keepsFloors_upLinkDown (h : execUpLinkDown s = .next t) : s.KeepsFloors strict t := by
  have down : s.KeepsFloors strict { s with upLink := false, upTx := none, upQueue := [] } := .beside rfl
  have cut (f : UpFrame) (p : ResetPhase) :
      s.KeepsFloors strict (cutOffUp f { s with upLink := false, upTx := none, upQueue := [], resetPhase := p }) :=
    .after (keepsFloors_cutOffUp f _) rfl
  cases h
  refine .guarded fun _ => .trans ?_ (keepsFloors_repeated keepsFloors_dropUp _ _)
  split
  · exact down
  · exact cut _ _

theorem keepsFloors_downLinkDown (h : execDownLinkDown s = .next t) : s.KeepsFloors strict t := by
  have dropped (n : Nat) : s.KeepsFloors strict
      (repeated dropDown n { s with downLink := false, downTx := none, downQueue := [] }) :=
    .after (keepsFloors_repeated keepsFloors_dropDown n _) rfl
  cases h
  exact .guarded fun _ => (dropped _).granted

theorem keepsFloors_linkComesUp {port : Port} (h : execLinkComesUp port s = .next t) : s.KeepsFloors strict t := by
  have started : s.KeepsFloors strict (downStart { s with downLink := true }) := .after (keepsFloors_downStart _) rfl
  have up : s.KeepsFloors strict { s with upLink := true } := .beside rfl
  cases h
  cases port with
  | up =>
    dsimp only
    split
    · exact .refl s
    · exact up.granted
  | down =>
    dsimp only
    split
    · exact .refl s
    · exact started

theorem keepsFloors_upTransmitComplete (h : execUpTransmitComplete s = .next t) : s.KeepsFloors strict t := by
  have idle : s.KeepsFloors strict { s with upTx := none } := .beside rfl
  cases h
  split
  · exact .refl s
  · split
    · exact .beside rfl
    · exact idle.granted

theorem keepsFloors_downTransmitComplete (h : execDownTransmitComplete s = .next t) : s.KeepsFloors strict t := by
  have started : s.KeepsFloors strict (downStart { s with downTx := none }) := .after (keepsFloors_downStart _) rfl
  cases h
  split
  · exact .refl s
  · exact started

theorem keepsFloors_unknownKindRequest (h : execUnknownKindRequest s = .next t) : s.KeepsFloors strict t := by
  have taken (rq : Request) (rest : List Frame) :
      s.KeepsFloors strict (greet rq { s with requests := rest, heldPlaces := 1 }) :=
    .after (keepsFloors_greet rq _) rfl
  have answered (rq : Request) (rest : List Frame) : s.KeepsFloors strict
      (deliver rq (Answer.of .unknownKind [] (greet rq { s with requests := rest, heldPlaces := 1 }))) :=
    (taken rq rest).trans (keepsFloors_deliver rq (.of .unknownKind [] _))
  cases h
  split
  · exact .refl s
  · exact .guarded fun _ => (answered _ _).granted

/-! ### Transmitters -/

theorem keepsFloors_byteTransmitted (h : execByteTransmitted l s = .next t) : s.KeepsFloors strict t := by
  cases h
  split
  case h_1 => exact keepsFloors_byteDone l _ s
  all_goals exact .refl s

theorem keepsFloors_breakSpaceEnd (h : execBreakSpaceEnd l s = .next t) : s.KeepsFloors strict t := by
  have marked (x : Transmitter) : s.KeepsFloors strict (s.setLine l { s.line l with tx := x }) :=
    .line (.of rfl)
  cases h
  split
  case h_1 => exact .guarded fun _ => marked _
  all_goals exact .refl s

theorem keepsFloors_breakOutEnd (h : execBreakOutEnd l s = .next t) : s.KeepsFloors strict t := by
  cases h
  split
  case h_1 => exact .guarded fun _ => keepsFloors_beginGap l _ s
  all_goals exact .refl s

theorem keepsFloors_pacingGapExpiry (h : execPacingGapExpiry l s = .next t) : s.KeepsFloors strict t := by
  cases h
  exact .guarded fun _ => State.KeepsFloors.trans (.modLine (by exact fun _ => .of rfl)) (keepsFloors_startElement l _)

theorem keepsFloors_holdExpiry (h : execHoldExpiry l s = .next t) : s.KeepsFloors strict t := by
  cases h
  exact .guarded fun _ => State.KeepsFloors.trans (.modLine (by exact fun _ => .of rfl)) (keepsFloors_startElement l _)

/-! ### Loopback tests -/

/-- A line with a loopback test is in LOOP, so in no burst (R1, R18). -/
theorem State.lawful.testCalm (h : s.lawful False) {x : LoopTest} (hx : (s.line l).test = some x) : s.calm l := by
  refine h.calm fun hl => ?_
  obtain ⟨ht, -⟩ := h.toUnready.lines l
  rw [hx, hl] at ht
  simp at ht

/-- A test that completes with counts of its own goes by the prior state it began with (R19). -/
theorem keepsFloors_tested (hs : strict → s.lawful False) {x y : LoopTest} (hx : (s.line l).test = some x)
    (hy : y.prior = x.prior) : s.KeepsFloors strict (completeTest l y s) :=
  keepsFloors_completeTest hx hy.symm fun hst => (hs hst).testCalm hx

theorem keepsFloors_loopCharacterReceived (hs : strict → s.lawful False) {data : Byte} {p f : Bool}
    (h : execLoopCharacterReceived l data p f s = .next t) : s.KeepsFloors strict t := by
  cases h
  split
  · exact .refl s
  · next x hx =>
    have written (y : LoopTest) (hy : y.prior = x.prior) :
        s.KeepsFloors strict (s.setLine l { s.line l with test := some y }) :=
      .line ⟨rfl, rfl, rfl, by simp [hx, hy], rfl⟩
    refine .guarded fun _ => ?_
    unfold loopReceive
    simp only
    split
    · exact (keepsFloors_tested hs hx (by exact rfl)).granted
    · exact written _ rfl

theorem keepsFloors_loopTestTimeout (hs : strict → s.lawful False) (h : execLoopTestTimeout l s = .next t) :
    s.KeepsFloors strict t := by
  cases h
  split
  · exact .refl s
  · next x hx => exact .guarded fun _ => (keepsFloors_tested hs hx (by exact rfl)).granted

theorem keepsFloors_patternByteSent (hs : strict → s.lawful False) (h : execPatternByteSent l s = .next t) :
    s.KeepsFloors strict t := by
  cases h
  split
  · next x _ hx =>
    have written (y : LoopTest) (tx : Transmitter) (hy : y.prior = x.prior) :
        s.KeepsFloors strict (s.setLine l { s.line l with tx := tx, test := some y }) :=
      .line ⟨rfl, rfl, rfl, by simp [hx, hy], rfl⟩
    unfold patternSent
    simp only
    split
    · exact written _ _ rfl
    · split
      · exact (keepsFloors_tested hs hx (by exact rfl)).granted
      · exact written _ _ rfl
  · exact .refl s

/-! ### The Rate Probe -/

/-- The line that is measured is in no burst (R1, R27). -/
theorem State.lawful.measuredCalm (h : s.lawful False) {m : Measurement} (hm : s.engine = some m) : s.calm m.line :=
  h.calm (by rw [h.toUnready.measures hm]; decide)

/-- An edge of a measurement; one that comes after its break may be the first of a new one of the same line (R30, R32). -/
theorem keepsFloors_measuredEdge (hs : strict → s.lawful False) {m : Measurement} (hm : s.engine = some m) (n : Nat) :
    s.KeepsFloors strict (measuredEdge m n s) := by
  have calm (hst : strict) : s.calm m.line := (hs hst).measuredCalm hm
  unfold Machine.measuredEdge
  split
  · have failed : s.KeepsFloors strict (failAttempt m .brk s) := keepsFloors_failAttempt calm .brk
    unfold lateEdge
    simp only
    split
    · exact failed.trans (keepsFloors_strayEdge _ _)
    · next next hnext =>
      split
      · have calmNext (hst : strict) : (failAttempt m .brk s).calm next.line :=
          (lawful_failAttempt (hs hst) ⟨m, hm, rfl⟩ .brk).measuredCalm hnext
        exact failed.trans (keepsFloors_countEdge (m := { next with phase := m.phase }) calmNext n)
      · exact failed.trans (keepsFloors_strayEdge _ _)
  · exact keepsFloors_countEdge calm n

theorem keepsFloors_measureEdge (hs : strict → s.lawful False) {e : MeasuredEdge} (h : execMeasureEdge e s = .next t) :
    s.KeepsFloors strict t := by
  cases h
  split
  · exact keepsFloors_strayEdge _ s
  · next hm => exact (keepsFloors_measuredEdge hs (KeptByOps.measuredBy e hm) _).granted

theorem keepsFloors_edgeCountReached (hs : strict → s.lawful False) {e : MeasuredEdge}
    (h : execEdgeCountReached e s = .next t) : s.KeepsFloors strict t := by
  cases h
  split
  · exact keepsFloors_strayEdge _ s
  · next hm => exact .guarded fun _ => (keepsFloors_measuredEdge hs (KeptByOps.measuredBy e hm) _).granted

theorem keepsFloors_measureWindowExpiry (hs : strict → s.lawful False) (h : execMeasureWindowExpiry s = .next t) :
    s.KeepsFloors strict t := by
  cases h
  split
  · exact .refl s
  · next hm => exact .guarded fun _ => (keepsFloors_failAttempt (fun hst => (hs hst).measuredCalm hm) _).granted

theorem keepsFloors_measureBreak (hs : strict → s.lawful False) (h : execMeasureBreak s = .next t) :
    s.KeepsFloors strict t := by
  cases h
  split
  · exact .refl s
  · next hm => exact .guarded fun _ => (keepsFloors_failAttempt (fun hst => (hs hst).measuredCalm hm) _).granted

theorem keepsFloors_probeCharacterEnd (h : execProbeCharacterEnd s = .next t) : s.KeepsFloors strict t := by
  cases h
  split
  · exact .refl s
  · exact .modLine fun _ => .of rfl

/-! ### Samples, breaks and timers -/

theorem keepsFloors_breakIn (h : execBreakIn l s = .next t) : s.KeepsFloors strict t := by
  cases h
  exact .guarded fun _ => (keepsFloors_detectBreak l s).granted

theorem keepsFloors_sampleExpiry (h : execSampleExpiry l s = .next t) : s.KeepsFloors strict t := by
  have sampled : s.KeepsFloors strict (sampleLine l s) :=
    ((keepsFloors_monitorExpiry l s).trans (keepsFloors_nextInterval l _)).trans (keepsFloors_judgeStreak l _ _ _)
  cases h
  exact .guarded fun _ => sampled.granted

theorem keepsFloors_fillLimitExpiry {k : SlotNo} (h : execFillLimitExpiry k s = .next t) : s.KeepsFloors strict t := by
  cases h
  exact .guarded fun _ => (keepsFloors_completeSlot k true s).granted

theorem keepsFloors_holdoffExpiry {i : EntryNo} (h : execHoldoffExpiry i l s = .next t) : s.KeepsFloors strict t := by
  cases h
  exact .guarded fun _ => .modLine fun _ => .of rfl

theorem keepsFloors_gatherTimerExpiry (h : execGatherTimerExpiry l s = .next t) : s.KeepsFloors strict t := by
  cases h
  exact .guarded fun _ => State.KeepsFloors.granted (.modLine (by exact fun _ => .of rfl))

/-- The idle timer of a holder runs out: the floor is served, or left by the park mode (R140). -/
theorem keepsFloors_idleExpiry (h : execIdleExpiry l s = .next t) : s.KeepsFloors strict t := by
  cases h
  split
  · next i hf _ =>
    have left : (s.line l).record.parkMode.leaves i = .free ∨ (s.line l).record.parkMode.leaves i = .parked i := by
      cases (s.line l).record.parkMode with
      | none => exact .inl rfl
      | last => exact .inr rfl
    exact (keepsFloors_releaseHeld hf left _).granted
  · exact .refl s

theorem keepsFloors_attendanceExpiry (h : execAttendanceExpiry s = .next t) : s.KeepsFloors strict t := by
  have lapsed (ha : s.attendance.state = .attended) : s.KeepsFloors strict (lapse s) := keepsFloors_lapse ha
  unfold execAttendanceExpiry at h
  generalize lapse s = w at lapsed h
  cases h
  refine .guarded fun hc => ?_
  obtain ⟨ha, -⟩ := hc
  exact (lapsed ha).granted

/-! ### The resets -/

/-- A line that starts comes into no burst. -/
theorem startByRecord_calm {j : LineNo} (h : s.calm j) : (startByRecord l s).calm j := by
  by_cases hj : j = l
  · subst hj
    unfold startByRecord
    split
    · obtain ⟨_, _, _, hline⟩ := enterLive_line j (s.takeRate (s.line j).record.fixedIndex) s
      rw [State.calm, hline]
      rfl
    · exact (calm_congr (by rw [joinProbe_line])).mpr h
  · exact (calm_congr (by rw [startByRecord_line_ne hj])).mpr h

theorem keepsFloors_startLines (h : ∀ l, s.calm l) : s.KeepsFloors strict (startLines s) := by
  have started (ls : List LineNo) (t : State) (ht : ∀ l, t.calm l) :
      t.KeepsFloors strict (ls.foldl (fun w l => startByRecord l w) t) := by
    induction ls generalizing t with
    | nil => exact .refl t
    | cons l ls ih => exact (keepsFloors_startByRecord fun _ => ht l).trans (ih _ fun j => startByRecord_calm (ht j))
  exact (started (List.finRange 24) s h).probed

/-- A part of blank lines with its attendance started anew is in order, whatever it was before (R2, R169). -/
theorem keepsFloors_blank (hl : ∀ l, ∃ r p x m, w.line l = blankLine r p x m) {a : Attendance}
    (ha : w.attendance = a.started w.unit.period) : s.KeepsFloors strict (startLines w) := by
  have blank (l : LineNo) : w.calm l ∧ w.floorLaw l ∧ (w.line l).arbiterLaw := by
    obtain ⟨r, p, x, m, h⟩ := hl l
    rw [State.calm, floorLaw_iff, h]
    exact ⟨rfl, .ofEmpty rfl rfl, .ofFree rfl rfl rfl⟩
  have started : w.KeepsFloors strict (startLines w) := keepsFloors_startLines fun l => (blank l).1
  exact ⟨fun _ => started.seats fun l => (blank l).2.1, fun hst _ => started.lines hst fun l => (blank l).2.2,
    fun _ => started.attendance (attendanceLaw_started ha)⟩

theorem keepsFloors_powerOn {straps : Straps} (h : execPowerOn straps s = .next t) : s.KeepsFloors strict t := by
  have started : s.KeepsFloors strict (startLines (raiseUnit .resetDone (powered straps s))) := by
    obtain ⟨hl, -, -⟩ := allBlank_powered straps s
    obtain ⟨d, hraised, -⟩ := raiseUnit_effect .resetDone (powered straps s)
    refine keepsFloors_blank hl (a := { state := .off, left := none, lapses := 0 }) ?_
    rw [hraised, told_attendance, told_unit]
    rfl
  unfold execPowerOn at h
  generalize startLines (raiseUnit .resetDone (powered straps s)) = w at started h
  cases h
  exact started

theorem resetQueues_attendance (s : State) : (resetQueues s).unit = s.unit
    ∧ (resetQueues s).attendance = Attendance.started { s.attendance with lapses := 0 } s.unit.period := by
  unfold resetQueues
  rw [upGrant_unit, upGrant_attendance]
  obtain ⟨n, h, -⟩ := placeWaiting_effect { s with
    sessions := Vector.replicate 32 .reset, requests := [], responses := [], upQueue := [], downQueue := []
    heldPlaces := 0, waitingTests := s.waitingTests ++ s.abortedTests, counters := .reset, lastMember := .data
    lastSession := 31, attendance := Attendance.started { s.attendance with lapses := 0 } s.unit.period
    resetPhase := .idle }
  rw [h]
  exact ⟨rfl, rfl⟩

theorem keepsFloors_unitResetApplied (h : execUnitResetApplied s = .next t) : s.KeepsFloors strict t := by
  obtain ⟨hreports, -, -, -, -, -, hline⟩ := blanked_state (resetQueues s)
  obtain ⟨hunit, hattendance⟩ := resetQueues_attendance s
  have started : s.KeepsFloors strict (startLines (resetQueues s).blanked) := by
    refine keepsFloors_blank (fun l => ?_) (a := { s.attendance with lapses := 0 }) ?_
    · obtain ⟨m, hm, -⟩ := hline l
      exact ⟨_, _, _, m, hm⟩
    · rw [hreports.rest]
      exact hattendance.trans (by rw [hunit])
  cases h
  exact .guarded fun _ => started.granted

/-! ### Every command -/

theorem keepsFloors_exec (hs : strict → s.lawful False) (c : Instr) (h : exec c s = .next t) :
    s.KeepsFloors strict t := by
  have serves (k : RequestKind) {f : Request → State → Answer} (hf : OwnKeepsFloors strict k f) :
      s.KeepsFloors strict (serve k f s) := hf.serve hs
  have reads {f : Request → State → Answer} (k : RequestKind) (hf : ∀ rq s, (f rq s).state = s) :
      s.KeepsFloors strict (serve k f s) := serves k (ownKeepsFloors_reads hf)
  cases c with
  | powerOn => exact keepsFloors_powerOn h
  | upLinkDown => exact keepsFloors_upLinkDown h
  | downLinkDown => exact keepsFloors_downLinkDown h
  | linkComesUp => exact keepsFloors_linkComesUp h
  | upFrameArrival => cases h; exact .guarded fun _ => (keepsFloors_filterUp _ s).granted
  | downFrameArrival => cases h; exact .guarded fun _ => (keepsFloors_joinUp _ s).granted
  | upTransmitComplete => exact keepsFloors_upTransmitComplete h
  | downTransmitComplete => exact keepsFloors_downTransmitComplete h
  | unitResetApplied => exact keepsFloors_unitResetApplied h
  | unitStatus => cases h; exact reads _ fun _ _ => rfl
  | unitSet => cases h; exact serves _ ownKeepsFloors_unitSet
  | setTime => cases h; exact serves _ ownKeepsFloors_setTime
  | unitReset => cases h; exact serves _ fun _ _ _ => .beside rfl
  | lineRead => cases h; exact serves _ fun _ s _ => keepsFloors_onLine fun _ => .refl s
  | lineSet => cases h; exact serves _ ownKeepsFloors_lineSet
  | lineEnable =>
    cases h
    exact serves _ fun _ s hs => keepsFloors_onLine fun l => keepsFloors_enableLine (hs.calm l)
  | lineDisable => cases h; exact serves _ fun _ s _ => keepsFloors_onLine fun l => keepsFloors_disableLine l s
  | lineMeasure => cases h; exact serves _ ownKeepsFloors_lineMeasure
  | lineTest => cases h; exact serves _ ownKeepsFloors_lineTest
  | rateTableRead => cases h; exact reads _ fun _ _ => rfl
  | rateTableSet => cases h; exact serves _ ownKeepsFloors_rateTableSet
  | monitorRead => cases h; exact serves _ fun _ s _ => keepsFloors_onLine fun _ => .refl s
  | monitorSet => cases h; exact serves _ ownKeepsFloors_monitorSet
  | marksRead => cases h; exact serves _ fun _ s _ => keepsFloors_onLine fun _ => .refl s
  | eventsRead => cases h; exact serves _ ownKeepsFloors_eventsRead
  | watchRead => cases h; exact reads _ fun _ _ => by unfold watchRead; split <;> rfl
  | watchSet => cases h; exact serves _ ownKeepsFloors_watchSet
  | snapshotList => cases h; exact reads _ fun _ _ => rfl
  | snapshotRead => cases h; exact reads _ fun _ _ => by unfold snapshotRead; split <;> rfl
  | snapshotFree => cases h; exact serves _ ownKeepsFloors_snapshotFree
  | snapshotTake => cases h; exact serves _ ownKeepsFloors_snapshotTake
  | openSession => cases h; exact serves _ ownKeepsFloors_openSession
  | closeSession => cases h; exact serves _ fun _ s _ => keepsFloors_onSession fun i _ => keepsFloors_closeRecord i _ s
  | seek => cases h; exact serves _ ownKeepsFloors_seek
  | credit => cases h; exact serves _ ownKeepsFloors_credit
  | floorRequest => cases h; exact serves _ ownKeepsFloors_floorRequest
  | floorRelease => cases h; exact serves _ fun _ s _ => keepsFloors_onSession fun i _ => keepsFloors_leaveFloor i _ s
  | typeBytes => cases h; exact serves _ ownKeepsFloors_typeBytes
  | sendBreak => cases h; exact serves _ ownKeepsFloors_sendBreak
  | unknownKindRequest => exact keepsFloors_unknownKindRequest h
  | characterCapture => cases h; exact (keepsFloors_captureCharacter _ _ _ _ s).granted
  | framingErrorCapture => cases h; exact (keepsFloors_captureCharacter _ _ _ _ s).granted
  | breakIn => exact keepsFloors_breakIn h
  | loopCharacterReceived => exact keepsFloors_loopCharacterReceived hs h
  | loopTestTimeout => exact keepsFloors_loopTestTimeout hs h
  | byteTransmitted => exact keepsFloors_byteTransmitted h
  | breakOutEnd => exact keepsFloors_breakOutEnd h
  | pacingGapExpiry => exact keepsFloors_pacingGapExpiry h
  | holdExpiry => exact keepsFloors_holdExpiry h
  | edgeCountReached => exact keepsFloors_edgeCountReached hs h
  | measureWindowExpiry => exact keepsFloors_measureWindowExpiry hs h
  | measureBreak => exact keepsFloors_measureBreak hs h
  | sampleExpiry => exact keepsFloors_sampleExpiry h
  | burstTimeout => cases h; exact .guarded fun _ => (keepsFloors_burstTimesOut _ s).granted
  | holdoffExpiry => exact keepsFloors_holdoffExpiry h
  | fillLimitExpiry => exact keepsFloors_fillLimitExpiry h
  | gatherTimerExpiry => exact keepsFloors_gatherTimerExpiry h
  | keepTimerExpiry => cases h; exact .guarded fun _ => (keepsFloors_closeRecord _ _ s).granted
  | idleExpiry => exact keepsFloors_idleExpiry h
  | attendanceExpiry => exact keepsFloors_attendanceExpiry h
  | measureEdge => exact keepsFloors_measureEdge hs h
  | startEdge => cases h; exact .modLine fun u => floorAs_atStartEdge u _
  | rxdReturnToMark => cases h; exact .modLine floorAs_atReturnToMark
  | probeCharacterEnd => exact keepsFloors_probeCharacterEnd h
  | patternByteSent => exact keepsFloors_patternByteSent hs h
  | breakSpaceEnd => exact keepsFloors_breakSpaceEnd h

theorem keepsFloors_step (hs : strict → s.lawful False) (h : step s = .next t) : s.KeepsFloors strict t := by
  unfold step at h
  split at h
  · cases h
    exact keepsFloors_tick s
  · next c rest _ => exact .after (keepsFloors_exec (s := s.withPending rest) hs c h) rfl

/-- Settles O11: every command but a reset leaves each floor in order, and a line comes where no floor may be taken only
with its floor FREE; a reset leaves every floor FREE. -/
theorem floorsKept : Obligations.FloorsKept := by
  intro s t hlines hfloors h
  have kept : s.KeepsFloors True t := keepsFloors_step (fun _ => ⟨hlines, False.elim⟩) h
  exact kept.floorsLaw trivial hfloors

/-- Settles O12: whoever becomes holder of a FREE floor does so by a request, which ends a lapse, and a lapse frees every
floor. -/
theorem attendanceKept : Obligations.AttendanceKept := by
  intro s t hattendance h
  have kept : s.KeepsFloors False t := keepsFloors_step False.elim h
  exact kept.attendance hattendance

end Sys2Proof.Machine
end
